-- ==== Sys2Proof/Word.lean ====
section
/-! DEFINITION. The byte, the unit of every frame, of the serial memory and of every record layout. -/

namespace Sys2Proof

/-- A byte as it crosses a port or stands in the serial memory. -/
abbrev Byte := BitVec 8

/-- A set of fractions, bit n for fraction n (R169). -/
abbrev FractionSet := BitVec 8

/-- A set of attention kinds, bit n for the kind at position n (R161). Bits 12 to 15 of the two bytes that
carry a kind set are not kinds, so the set itself has 12 bits. -/
abbrev KindSet := BitVec 12

end Sys2Proof
end

