-- ==== Sys2Proof/Syntax.lean ====
section
/-! DEFINITION. The commands of spec/opcode_table.json, one constructor each, with their operands.
The table gives no operands: they are chosen from the rules (DESIGN CHOICE, log entry 1). -/

namespace Sys2Proof

/-- The three ports (R152). -/
inductive Port where
  | network
  | vehicle
  | service
deriving DecidableEq, Repr

/-- A byte received on a receive line: its value, and whether its stop bit was missing (R152). -/
structure RxByte where
  val : Byte
  framingError : Bool := false
deriving DecidableEq, Repr

/-- The levels of the field lines as a reset reads them (R4, R72, R75): bit c of `seat` is set while container
c's seat switch is closed, bit i of `lid` while inlet i's raw lid line is HIGH. -/
structure FieldLines where
  seat : BitVec 8
  lid : BitVec 16
deriving DecidableEq, Repr

/-- What the R/f counter saw in a conversion (R20): the reference phase had not ended at 100 ms, or it ended after the
gate time, in whole µs, and the sensor phase then counted this many cycles. -/
inductive Conversion where
  | overrun
  | cycles (gate n : Nat)
deriving DecidableEq, Repr

/-- What the echo receiver saw after the burst (R21): whether the signal stood above threshold as the blanking
time ended, and the moments of the threshold crossings in µs from the burst, in their order. -/
structure EchoSignal where
  aboveAtBlankingEnd : Bool
  crossings : List Nat
deriving DecidableEq, Repr

/-- The commands. A request's operands are its port, its tag and its parameter bytes in the order of the frame
(R153, R158). Field and timer events name the inlet or container they happen at. Resets carry the levels of
the field lines that they read. -/
inductive Instr where
  | powerOnReset
  | powerOnResetEnd (lines : FieldLines) (carrier : Bool)
  | resetLineAssertion (lines : FieldLines)
  | readStatus (port : Port) (tag : Byte) (params : List Byte)
  | acknowledgeAttention (port : Port) (tag : Byte) (params : List Byte)
  | setAttentionMask (port : Port) (tag : Byte) (params : List Byte)
  | readClock (port : Port) (tag : Byte) (params : List Byte)
  | setClock (port : Port) (tag : Byte) (params : List Byte)
  | restart (port : Port) (tag : Byte) (params : List Byte) (lines : FieldLines)
  | writeImageBlock (port : Port) (tag : Byte) (params : List Byte)
  | writeCompletion
  | writerIdleExpiry
  | applyConfiguration (port : Port) (tag : Byte) (params : List Byte)
  | applyCheckCompletion (lines : FieldLines)
  | readContainer (port : Port) (tag : Byte) (params : List Byte)
  | suspendContainer (port : Port) (tag : Byte) (params : List Byte)
  | resumeContainer (port : Port) (tag : Byte) (params : List Byte)
  | measureNow (port : Port) (tag : Byte) (params : List Byte)
  | readDueList (port : Port) (tag : Byte) (params : List Byte)
  | clearHeat (port : Port) (tag : Byte) (params : List Byte)
  | readInlet (port : Port) (tag : Byte) (params : List Byte)
  | openInlet (port : Port) (tag : Byte) (params : List Byte)
  | putCard (port : Port) (tag : Byte) (params : List Byte)
  | removeCard (port : Port) (tag : Byte) (params : List Byte)
  | blockCard (port : Port) (tag : Byte) (params : List Byte)
  | clearCardTable (port : Port) (tag : Byte) (params : List Byte)
  | markTableLoaded (port : Port) (tag : Byte) (params : List Byte)
  | readCards (port : Port) (tag : Byte) (params : List Byte)
  | rewindCardCursor (port : Port) (tag : Byte) (params : List Byte)
  | readQueries (port : Port) (tag : Byte) (params : List Byte)
  | answerCard (port : Port) (tag : Byte) (params : List Byte)
  | readJournal (port : Port) (tag : Byte) (params : List Byte)
  | rewindJournalCursor (port : Port) (tag : Byte) (params : List Byte)
  | releaseJournal (port : Port) (tag : Byte) (params : List Byte)
  | announce (port : Port) (tag : Byte) (params : List Byte)
  | endSession (port : Port) (tag : Byte) (params : List Byte)
  | claimLift (port : Port) (tag : Byte) (params : List Byte)
  | cancelLift (port : Port) (tag : Byte) (params : List Byte)
  | readLift (port : Port) (tag : Byte) (params : List Byte)
  | badFrame (port : Port) (bytes : List RxByte)
  | gapTimerExpiry (port : Port)
  | replySent (port : Port)
  | cardRead (inlet : Fin 16) (card : BitVec 40)
  | queryWaitExpiry (inlet : Fin 16)
  | windowExpiry (inlet : Fin 16)
  | lidOpening (inlet : Fin 16)
  | lidClosing (inlet : Fin 16)
  | lidOpenLimitExpiry (inlet : Fin 16)
  | serviceTimerExpiry (inlet : Fin 16)
  | unseat (container : Fin 8)
  | reseat (container : Fin 8)
  | dueEvent (container : Fin 8)
  | measurementCompletion (conversion : Conversion) (echo : EchoSignal)
  | spacingExpiry (container : Fin 8)
  | lidWaitExpiry
  | releaseWaitExpiry
  | carrierChange (present : Bool)
  | carrierLoss
  | clockCount
  | idleTimerExpiry
  | wakeTimerExpiry
  | receiveActivityInDoze (port : Port)
  | wakeSettlingEnd (lines : FieldLines) (order : List Nat)
  | unknownRequestCode (port : Port) (code : Byte) (tag : Byte) (params : List Byte)
  | powerLoss
deriving DecidableEq, Repr

end Sys2Proof
end

