-- ==== Sys2Proof/Decode.lean ====
section
/-! DEFINITION. Frames (R153, R154): a request frame's bytes from its parts and its parts from its bytes; and the
host's `decodeTableWord`. No row of the opcode table has bits, so no table word spells a command (log entry 23). -/

namespace Sys2Proof

/-- The sum of a run of bytes, as a byte. -/
def byteSum (bs : List Byte) : Byte := bs.foldl (· + ·) 0

/-- The check byte over the bytes from the length byte on (R154): with it their sum is a multiple of 256. -/
def checkByte (bs : List Byte) : Byte := 0 - byteSum bs

/-- The bytes of a request frame from the length byte to the last parameter (R153). -/
def requestBody (code tag : Byte) (params : List Byte) : List Byte :=
  BitVec.ofNat 8 (params.length + 2) :: code :: tag :: params

/-- A request frame (R153, R154). -/
def requestFrame (code tag : Byte) (params : List Byte) : List Byte :=
  0xA5 :: (requestBody code tag params ++ [checkByte (requestBody code tag params)])

/-- The bytes of a reply frame from the length byte to the last payload byte (R153). -/
def replyBody (code tag status : Byte) (payload : List Byte) : List Byte :=
  BitVec.ofNat 8 (payload.length + 3) :: code :: tag :: status :: payload

/-- A reply frame (R153, R154). -/
def replyFrame (code tag status : Byte) (payload : List Byte) : List Byte :=
  0x5A :: (replyBody code tag status payload ++ [checkByte (replyBody code tag status payload)])

/-- The request that a complete run of bytes from the length byte through the check byte carries, if the sum is
right: its code, tag and parameters. -/
def requestOfBody : List Byte → Option (Byte × Byte × List Byte)
  | len :: code :: tag :: rest =>
    if 2 ≤ len.toNat ∧ len.toNat ≤ 248 ∧ rest.length + 1 = len.toNat ∧ byteSum (len :: code :: tag :: rest) = 0 then
      some (code, tag, rest.dropLast)
    else none
  | _ => none

/-- The request that one whole good frame carries. -/
def parseRequestFrame : List Byte → Option (Byte × Byte × List Byte)
  | b :: body => if b = 0xA5 then requestOfBody body else none
  | [] => none

/-- The codes of the request index (R158). -/
def requestCodes : List Byte :=
  [0x01, 0x02, 0x03, 0x04, 0x05, 0x06, 0x07, 0x08,
   0x10, 0x11, 0x12, 0x13, 0x14, 0x15, 0x20, 0x21,
   0x30, 0x31, 0x32, 0x33, 0x34, 0x35, 0x36, 0x37, 0x38,
   0x40, 0x41, 0x42, 0x50, 0x51, 0x52, 0x53, 0x54]

/-- The command that a word of the opcode table spells: none, since no row of the table gives bits. -/
def decodeTableWord (_nbits _w : Nat) : Option Instr := none

end Sys2Proof
end

