-- ==== Sys2Proof/Config.lean ====
section
/-! DEFINITION. What the manual leaves open for every part: the free values. -/

namespace Sys2Proof.Config

/-- FREE VALUE (log entry 6). The byte that stands at an address inside a block write that a power loss cut off,
or that a check read while the write ran: "leaves the bytes it covers in any state" (R177). The first argument
is the number of the drawing (the state's counter), the second the address. -/
opaque tornByte : Nat → Nat → Byte

end Sys2Proof.Config
end

