-- ==== Sys2Proof/Machine/State.lean ====
section
/-! DEFINITION. The state of the part: every record, timer, counter, mode and pin the manual gives it, the queue of
waiting commands, and the machine right after reset. Times are milliseconds on the monotonic timer (R31);
a timer that runs is held as the moment of its expiry (R1 "Timers"). -/

namespace Sys2Proof.Machine

/-! ## Containers -/

/-- The six service states (R5). -/
inductive ServiceState where
  | serving
  | claimed
  | released
  | lifted
  | verifying
  | suspended
deriving DecidableEq, Repr

/-- R39. -/
inductive LevelStatus where
  | noReading
  | good
  | unsure
  | sensorFault
deriving DecidableEq, Repr

/-- R23. -/
inductive TempStatus where
  | none
  | valid
  | fault
deriving DecidableEq, Repr

/-- The six measurement stages (R24). -/
inductive Stage where
  | none
  | firstQueued
  | firstRunning
  | awaitSecond
  | secondQueued
  | secondRunning
deriving DecidableEq, Repr

/-- The class of a pair (R24). -/
inductive PairClass where
  | scheduled
  | demand
  | verify
deriving DecidableEq, Repr

/-- The configured part of a container record (R3). Thresholds in per-mille, distances in mm, the ping interval
in minutes, heat settings in °C. `bound` lists the inlets whose bound container this is, ascending. -/
structure ContainerSettings where
  fraction : Fin 8
  shape : Nat
  floor : Nat
  blanking : Nat
  floorBand : Nat
  confirmBand : Nat
  pingMinutes : Nat
  dueAt : Nat
  fullAt : Nat
  heatLimit : Nat
  riseLimit : Nat
  bound : List Nat
deriving DecidableEq, Repr

/-- A confirmed level (R3, R52): fill height, volume, per-mille, temperature, clock time, assumed marker. -/
structure Level where
  height : Nat
  volume : Nat
  perMille : Nat
  tHalf : Int
  time : Nat
  assumed : Bool
deriving DecidableEq, Repr

/-- The last valid temperature (R66); `time` is on the monotonic timer. -/
structure LastTemp where
  tHalf : Int
  clamped : Bool
  time : Nat
deriving DecidableEq, Repr

/-- The emptying note (R3, R8, R10). -/
structure EmptyingNote where
  before : Option Nat
  vehicle : Option Nat
  attended : Option Bool
deriving DecidableEq, Repr

/-- A container's measurement stage and what it carries (R24). -/
structure Pair where
  stage : Stage
  cls : Option PairClass
  entry : Option Nat
  first : Option Nat
  spacing : Option Nat
  attempt : Option Nat
deriving DecidableEq, Repr

/-- No pair in progress (R24). -/
def Pair.idle : Pair := ⟨.none, none, none, none, none, none⟩

/-- One container record (R3). `seatHold` is the start of a 200 ms hold in progress (R7). -/
structure Container where
  cfg : ContainerSettings
  state : ServiceState
  seated : Bool
  seatHold : Option Nat
  displaced : Bool
  hot : Bool
  note : Option EmptyingNote
  level : Option Level
  levelStatus : LevelStatus
  tempStatus : TempStatus
  lastTemp : Option LastTemp
  added : Nat
  floorRef : Nat
  residue : Bool
  misses : Nat
  mismatches : Nat
  full : Bool
  pair : Pair
  nextDue : Nat
deriving DecidableEq, Repr

/-- The result of a temperature conversion (R20): a valid count N_s, or one of the three temperature faults. -/
inductive ConversionResult where
  | valid (ns : Nat)
  | openCircuit
  | shortCircuit
  | referenceOverrun
deriving DecidableEq, Repr

/-- The run record of a busy front end (R19), with the gate time in µs and the conversion's result, which it keeps from the
conversion's end to the measurement's completion (R20; log entry 14). -/
structure Run where
  container : Nat
  second : Bool
  detached : Bool
  gate : Option Nat
  result : Option ConversionResult
deriving DecidableEq, Repr

/-- The run record as a measurement's start sets it (R19): the detached mark clear, no conversion ended yet (R20). -/
def Run.started (container : Nat) (second : Bool) : Run :=
  { container := container, second := second, detached := false, gate := none, result := none }

/-- One entry of the due list (R59). -/
structure DueEntry where
  container : Nat
  reached : Nat
  clockUnset : Bool
  perMille : Nat
deriving DecidableEq, Repr

/-! ## Inlets -/

/-- The four inlet states (R74). -/
inductive InletState where
  | locked
  | unlocked
  | inUse
  | serviceOpen
deriving DecidableEq, Repr

/-- What a lid opening is (R73). -/
inductive LidCause where
  | window
  | service
  | forced
  | uncounted
deriving DecidableEq, Repr

/-- R74. -/
inductive OpeningCause where
  | card
  | anonymous
  | service
deriving DecidableEq, Repr

/-- R71: OFF, 4 ms, 16 ms, 64 ms. -/
inductive RejectWidth where
  | off
  | ms4
  | ms16
  | ms64
deriving DecidableEq, Repr

/-- The configured part of an inlet record (R71). Volumes in litres, lengths in seconds. -/
structure InletSettings where
  container : Nat
  nominal : Nat
  windowSeconds : Nat
  limitSeconds : Nat
  activeHigh : Bool
  width : RejectWidth
  reader : Bool
deriving DecidableEq, Repr

/-- The window record (R74). -/
structure WindowRecord where
  cause : OpeningCause
  card : Option Nat
  household : Option Nat
  unverified : Bool
deriving DecidableEq, Repr

/-- The present opening of a lid: its cause, and its time on the monotonic timer (R73). -/
structure LidOpen where
  cause : LidCause
  time : Nat
deriving DecidableEq, Repr

/-- A pending card query (R107); `waitEnd` is its query wait timer. The inlet is the one whose record holds it. -/
structure CardQuery where
  card : Nat
  posted : Nat
  waitEnd : Nat
deriving DecidableEq, Repr

/-- One inlet record (R74). `rejectStart` is the start of a reject interval in progress (R72). `query` is the
card table's pending query for this inlet (R108: at most one for each inlet). -/
structure Inlet where
  cfg : InletSettings
  state : InletState
  window : Option WindowRecord
  windowTimer : Option Nat
  serviceTimer : Option Nat
  runOut : Bool
  slot : Option Nat
  query : Option CardQuery
  lidOpen : Bool
  rejectStart : Option Nat
  lid : Option LidOpen
  limitTimer : Option Nat
  stuck : Bool
  forced : Nat
  cycles : Nat
deriving DecidableEq, Repr

/-- The outcomes of a card read (R78, R169). -/
inductive ReadOutcome where
  | accept
  | busy
  | fault
  | suspended
  | hot
  | emptying
  | unknown
  | blocked
  | expired
  | noRight
  | full
  | quota
  | noAnswer
deriving DecidableEq, Repr

/-! ## Cards -/

/-- R93. -/
inductive CardKind where
  | resident
  | temporary
  | service
deriving DecidableEq, Repr

/-- One card entry (R93). Quota 255 is unlimited. -/
structure Card where
  number : Nat
  household : Nat
  kind : CardKind
  blocked : Bool
  rights : FractionSet
  quota : Nat
  used : Nat
  overflow : Nat
  expiry : Option Nat
deriving DecidableEq, Repr

/-- The card table: its entries in ascending card number order, its table state and the stored quota period
index (R93, R95, R114). -/
structure CardTable where
  entries : List Card
  loaded : Bool
  period : Nat
deriving DecidableEq, Repr

/-! ## Journal -/

/-- The fields of each kind of entry (R120 to R122). -/
inductive JournalBody where
  | deposit (card : Nat) (household : Option Nat) (unverified : Bool)
  | forced (seconds : Nat)
  | emptying (vehicle before after : Option Nat) (attended verified : Bool)
deriving DecidableEq, Repr

/-- One journal entry (R119). -/
structure JournalEntry where
  seq : Nat
  time : Nat
  clockUnset : Bool
  place : Nat
  body : JournalBody
deriving DecidableEq, Repr

/-- The journal (R117, R118, R123 to R125), oldest entry first. -/
structure Journal where
  entries : List JournalEntry
  nextSeq : Nat
  overflow : Nat
  lost : Nat
  depositFull : Bool
  lostMarker : Bool
deriving DecidableEq, Repr

/-! ## Emptying controller -/

/-- The session record (R132). -/
structure Session where
  vehicle : Nat
  fractions : FractionSet
  opened : Nat
  claimed : Option Nat
deriving DecidableEq, Repr

/-- R137. -/
inductive LiftEnding where
  | lidTimeout
  | releaseTimeout
  | cancelled
  | carrierLost
  | hot
  | displaced
  | restart
  | verified
  | verifyFailed
  | verifyUnseated
deriving DecidableEq, Repr

/-- The last lift result (R137). -/
structure LiftResult where
  container : Nat
  ending : LiftEnding
  time : Nat
deriving DecidableEq, Repr

/-- The emptying controller: the session, its three timers, the carrier line as followed, the last lift result. -/
structure LiftController where
  session : Option Session
  lidWait : Option Nat
  releaseWait : Option Nat
  carrierLoss : Option Nat
  carrier : Bool
  last : Option LiftResult
deriving DecidableEq, Repr

/-! ## Ports -/

/-- The receiver (R155); RECEIVING keeps the bytes of the frame from the length byte on. -/
inductive Receiver where
  | hunting
  | receiving (got : List Byte)
  | skipping
deriving DecidableEq, Repr

/-- The port state (R157). HOLDING keeps the code and tag that the reply will carry; REPLYING keeps the frame that
is being sent on the transmit line. -/
inductive PortState where
  | free
  | holding (code tag : Byte)
  | replying (frame : List Byte)
deriving DecidableEq, Repr

/-- One port block, with the port's journal cursor (R127, R155 to R166). `mask` never holds the HEAT position,
which is always enabled (R164). -/
structure PortBlock where
  receiver : Receiver
  gap : Option Nat
  state : PortState
  discarded : Nat
  flags : KindSet
  mask : KindSet
  cardCursor : Nat
  journalCursor : Nat
deriving DecidableEq, Repr

/-- The three port blocks. -/
structure Ports where
  network : PortBlock
  vehicle : PortBlock
  service : PortBlock
deriving DecidableEq, Repr

/-! ## Configuration store, clock, wake controller -/

/-- One entry of the vehicle table (R131). -/
structure Vehicle where
  id : Nat
  fractions : FractionSet
deriving DecidableEq, Repr

/-- The running configuration: what a valid image gives, clamped (R173, R174). `thermistor` lists (q, T_half),
each of `shapes` lists (h, v). -/
structure StationConfig where
  version : Byte
  periodDays : Nat
  dozePermitted : Bool
  dozeSeconds : Nat
  queryWaitSeconds : Nat
  queryEnabled : Bool
  fallbackOpen : FractionSet
  containers : List ContainerSettings
  inlets : List InletSettings
  thermistor : List (Nat × Int)
  shapes : List (List (Nat × Nat))
  vehicles : List Vehicle
deriving DecidableEq, Repr

/-- A block write under way (R177); `port` is the port that waits for the reply, none once a restart freed it. -/
structure BlockWrite where
  offset : Nat
  data : List Byte
  port : Option Port
deriving DecidableEq, Repr

/-- The configuration store. `memory` is the serial memory in canonical form (log entry 5). An absent serial memory is not
told from an unwritten one, and a write to it is stored: DESIGN CHOICE, log entry 36 (R175). -/
structure Store where
  running : Option StationConfig
  memory : List Host.Cell
  writes : List BlockWrite
  writer : Option Port
  writerIdle : Option Nat
  check : Option Port
deriving DecidableEq, Repr

/-- The station clock (R170): the count, the set marker, and the moment of the next count. -/
structure Clock where
  count : Nat
  set : Bool
  next : Nat
deriving DecidableEq, Repr

/-- R181. -/
inductive WakeState where
  | awake
  | doze
  | waking
deriving DecidableEq, Repr

/-- What the wake controller holds for the other blocks until the part is awake (R183). -/
inductive HeldCause where
  | read (inlet : Nat) (card : Nat)
  | lid (inlet : Nat) (toOpen : Bool) (time : Nat)
  | seat (container : Nat) (toSeated : Bool) (time : Nat)
  | carrier (present : Bool)
  | restart
  | receive (port : Port)
  | due (container : Nat)
  | limit (inlet : Nat)
deriving DecidableEq, Repr

/-- The wake controller (R181 to R184). `settleEnd` is the end of the 2 ms settling in WAKING. -/
structure WakeController where
  state : WakeState
  idleTimer : Option Nat
  wakeTimer : Option Nat
  settleEnd : Option Nat
  held : List HeldCause
deriving DecidableEq, Repr

/-- Whether the part has power, and whether power-on reset has ended (R175). -/
inductive Power where
  | off
  | starting
  | running
deriving DecidableEq, Repr

/-! ## The whole state -/

/-- The state of the part. -/
structure State where
  power : Power
  /-- the monotonic timer, ms (R31) -/
  now : Nat
  /-- the seat and lid lines as input pins -/
  lines : FieldLines
  store : Store
  clock : Clock
  /-- the front end: none while free, else its run record (R19) -/
  run : Option Run
  /-- container c's record stands at place c (R2) -/
  containers : List Container
  /-- inlet i's record stands at place i (R71) -/
  inlets : List Inlet
  dueList : List DueEntry
  cards : CardTable
  journal : Journal
  lift : LiftController
  ports : Ports
  /-- the outcomes sent to the readers, each with its inlet, oldest first (R78; log entry 13) -/
  outcomes : List (Nat × ReadOutcome)
  wake : WakeController
  /-- the model's own: how many free values have been drawn (log entry 6) -/
  drawn : Nat
  /-- the waiting commands, first in, first out -/
  pending : List Instr
deriving DecidableEq, Repr

/-- No condition of the spec stops the part, so there is no fault. -/
inductive Fault where
deriving DecidableEq, Repr

/-- Why a command has no meaning. -/
inductive Refusal where
  /-- Raised by exec for a row whose meaning is not written (none is left). Safe. -/
  | notModelled (mnemonic : String)
deriving DecidableEq, Repr

/-- A port block right after power-on reset: RESTART (position 11) is the one flag set (R160). -/
def PortBlock.reset : PortBlock :=
  { receiver := .hunting, gap := none, state := .free, discarded := 0, flags := 0x800, mask := 0,
    cardCursor := 0, journalCursor := 1 }

/-- The machine right after reset: power-on reset has ended over an unwritten serial memory, so the part is
UNCONFIGURED (R175, R176). DESIGN CHOICE, log entry 4: the unwritten memory and the levels of the input pins. -/
def State.reset : State :=
  { power := .running
    now := 0
    lines := ⟨0xFF, 0⟩
    store := { running := none, memory := [], writes := [], writer := none, writerIdle := none, check := none }
    clock := { count := 0, set := false, next := 1000 }
    run := none
    containers := []
    inlets := []
    dueList := []
    cards := { entries := [], loaded := false, period := 0 }
    journal := { entries := [], nextSeq := 1, overflow := 0, lost := 0, depositFull := false, lostMarker := false }
    lift := { session := none, lidWait := none, releaseWait := none, carrierLoss := none, carrier := false,
              last := none }
    ports := ⟨.reset, .reset, .reset⟩
    outcomes := []
    wake := { state := .awake, idleTimer := none, wakeTimer := none, settleEnd := none, held := [] }
    drawn := 0
    pending := [] }

end Sys2Proof.Machine
end

