-- ==== Sys2Proof/Machine/Ops.lean ====
section
/-! DEFINITION. The named operations over the state: bytes, rounding, the serial memory, port blocks, container and
inlet records, time, and the outcomes sent to the readers. -/

namespace Sys2Proof.Machine

/-! ## Bytes and rounding -/

/-- The k bytes of n, most significant first (R153, R169). -/
def be : Nat → Nat → List Byte
  | 0, _ => []
  | k + 1, n => BitVec.ofNat 8 (n / 256 ^ k) :: be k n

/-- The unsigned integer that a run of bytes spells, most significant first (R153, R169). -/
def unbe (bs : List Byte) : Nat := bs.foldl (fun acc b => acc * 256 + b.toNat) 0

/-- The two bytes of a T_half: 16-bit two's complement (R169). -/
def beSigned (t : Int) : List Byte := be 2 (BitVec.ofInt 16 t).toNat

/-- The T_half that two bytes spell (R169). -/
def unbeSigned (bs : List Byte) : Int := (BitVec.ofNat 16 (unbe bs)).toInt

/-- A byte with the given bits, bit 0 first. -/
def bitsByte : List Bool → Nat
  | [] => 0
  | b :: bs => (if b then 1 else 0) + 2 * bitsByte bs

/-- "rounded, halves up" of two non-negative integers (R1). -/
def roundUp (n d : Nat) : Nat := (2 * n + d) / (2 * d)

/-- "rounded, halves away from zero" (R1). -/
def roundAway (n : Int) (d : Nat) : Int :=
  if 0 ≤ n then (roundUp n.toNat d : Int) else -(roundUp (-n).toNat d : Int)

/-- A count that rises by `by_` and saturates at its maximum (R1 "Counts"). -/
def saturate (most n : Nat) : Nat := min n most

/-- A number brought to the nearer limit of a range (R174). -/
def clamp (lo hi n : Nat) : Nat := max lo (min n hi)

/-! ## The serial memory -/

/-- What an unlisted (unwritten) byte of the serial memory reads as. DESIGN CHOICE, log entry 5. -/
def erasedByte : Byte := 0xFF

/-- The size of the serial memory (R173). -/
def memorySize : Nat := 4096

/-- One byte of the serial memory. -/
def readByte (m : List Host.Cell) (a : Nat) : Byte :=
  match m with
  | [] => erasedByte
  | c :: rest => if c.1 = a then c.2 else readByte rest a

/-- Write one byte, keeping the canonical form. -/
def writeByte (m : List Host.Cell) (a : Nat) (b : Byte) : List Host.Cell :=
  match m with
  | [] => if b = erasedByte then [] else [(a, b)]
  | c :: rest =>
    if a < c.1 then (if b = erasedByte then c :: rest else (a, b) :: c :: rest)
    else if a = c.1 then (if b = erasedByte then rest else (a, b) :: rest)
    else c :: writeByte rest a b

/-- Write a run of bytes from an address up. -/
def writeBytes (m : List Host.Cell) (a : Nat) : List Byte → List Host.Cell
  | [] => m
  | b :: bs => writeBytes (writeByte m a b) (a + 1) bs

/-- Read `n` bytes from an address up. -/
def readBytes (m : List Host.Cell) (a : Nat) : Nat → List Byte
  | 0 => []
  | n + 1 => readByte m a :: readBytes m (a + 1) n

/-- The canonical form: addresses strictly rising and inside the memory, no entry equal to an unwritten byte. -/
def memoryWf (m : List Host.Cell) : Bool :=
  decide (m.Pairwise (fun x y => x.1 < y.1)) && m.all (fun c => decide (c.1 < memorySize) && decide (c.2 ≠ erasedByte))

/-- The bytes of a block write still under way, each a free value of drawing `k` (log entry 6). -/
def tornBytes (k a : Nat) : Nat → List Byte
  | 0 => []
  | n + 1 => Config.tornByte k a :: tornBytes k (a + 1) n

/-- The serial memory while writes are under way: each byte that one of them covers may stand in any state (R177). -/
def tornMemory (k : Nat) (m : List Host.Cell) : List BlockWrite → List Host.Cell
  | [] => m
  | w :: ws => tornMemory k (writeBytes m w.offset (tornBytes k w.offset w.data.length)) ws

/-! ## Port blocks -/

/-- One port's block. -/
def Ports.get (ps : Ports) : Port → PortBlock
  | .network => ps.network
  | .vehicle => ps.vehicle
  | .service => ps.service

/-- Change one port's block. -/
def Ports.upd (ps : Ports) (p : Port) (f : PortBlock → PortBlock) : Ports :=
  match p with
  | .network => { ps with network := f ps.network }
  | .vehicle => { ps with vehicle := f ps.vehicle }
  | .service => { ps with service := f ps.service }

/-- Change every port's block. -/
def Ports.map (ps : Ports) (f : PortBlock → PortBlock) : Ports :=
  ⟨f ps.network, f ps.vehicle, f ps.service⟩

/-- The port codes of R169. -/
def portCode : Port → Nat
  | .network => 0
  | .vehicle => 1
  | .service => 2

/-- The block of port p. -/
def State.port (s : State) (p : Port) : PortBlock := s.ports.get p

/-- Change the block of port p. -/
def State.updPort (s : State) (p : Port) (f : PortBlock → PortBlock) : State :=
  { s with ports := s.ports.upd p f }

/-- Change every port's block. -/
def State.mapPorts (s : State) (f : PortBlock → PortBlock) : State :=
  { s with ports := s.ports.map f }

/-! ## Container and inlet records -/

/-- Change container c's record. A container that is not configured has no record (R2). -/
def State.updContainer (s : State) (c : Nat) (f : Container → Container) : State :=
  { s with containers := s.containers.modify c f }

/-- Change inlet i's record. An inlet that is not configured has no record (R71). -/
def State.updInlet (s : State) (i : Nat) (f : Inlet → Inlet) : State :=
  { s with inlets := s.inlets.modify i f }

/-- Change the record of every inlet bound to container c. -/
def State.mapBoundInlets (s : State) (c : Nat) (f : Inlet → Inlet) : State :=
  { s with inlets := s.inlets.map fun x => if x.cfg.container = c then f x else x }

/-- Whether container c stands on the due list. -/
def State.isDue (s : State) (c : Nat) : Bool := s.dueList.any fun e => decide (e.container = c)

/-- The number, counting from n, of the first container record that passes a test. -/
def firstContainer (test : Container → Bool) : Nat → List Container → Option Nat
  | _, [] => none
  | n, k :: ks => if test k then some n else firstContainer test (n + 1) ks

/-- The lowest container number whose record passes a test. -/
def State.findContainer (s : State) (test : Container → Bool) : Option Nat :=
  firstContainer test 0 s.containers

/-- Container c is configured and in a service state. -/
def State.inState (s : State) (c : Nat) (st : ServiceState) : Bool :=
  match s.containers[c]? with
  | some k => decide (k.state = st)
  | none => false

/-- The container in CLAIMED, RELEASED or LIFTED, if any (R138, R149). -/
def State.liftContainer (s : State) : Option Nat :=
  s.findContainer fun k => decide (k.state = .claimed ∨ k.state = .released ∨ k.state = .lifted)

/-- An inlet that holds the release off: not LOCKED, or its lid OPEN (R140, R149). -/
def Inlet.holdsOff (x : Inlet) : Bool := decide (x.state ≠ .locked) || x.lidOpen

/-- The shape table that a container names (R3, R48), (h, v) points. -/
def State.shapeOf (s : State) (k : Container) : List (Nat × Nat) :=
  match s.store.running with
  | some g => (g.shapes[k.cfg.shape]?).getD []
  | none => []

/-- The volume at the last point of a shape table: the capacity C (R48). -/
def shapeCapacity (shape : List (Nat × Nat)) : Nat := (shape.getLast?.getD (0, 0)).2

/-- The capacity C of a container. -/
def State.capacity (s : State) (k : Container) : Nat := shapeCapacity (s.shapeOf k)

/-- Set where a container's state holds the lift lock released (R6). -/
def ServiceState.liftReleased : ServiceState → Bool
  | .released | .lifted => true
  | .serving | .claimed | .verifying | .suspended => false

/-- The lift lock output of container c: released exactly while it is configured and in RELEASED or LIFTED (R2, R6). -/
def State.liftLockReleased (s : State) (c : Nat) : Bool :=
  match s.containers[c]? with
  | some k => k.state.liftReleased
  | none => false

/-- The lock output of inlet i: released in every state but LOCKED; held engaged while not configured (R71, R74). -/
def State.inletLockReleased (s : State) (i : Nat) : Bool :=
  match s.inlets[i]? with
  | some x => decide (x.state ≠ .locked)
  | none => false

/-! ## Time and timers -/

/-- Milliseconds of a number of seconds. -/
def seconds (n : Nat) : Nat := n * 1000

/-- The present time moves on to at least t (log entry 3). -/
def State.advanceTo (s : State) (t : Nat) : State := { s with now := max s.now t }

/-- Whole seconds left until a moment, truncated (R92, R110, R149). -/
def State.secondsLeft (s : State) (t : Nat) : Nat := (t - s.now) / 1000

/-- The part is running and awake: the events of the blocks are taken when they arrive (R181). -/
def State.attends (s : State) : Bool := decide (s.power = .running ∧ s.wake.state = .awake)

/-- The part is CONFIGURED (R175). -/
def State.configured (s : State) : Bool := s.store.running.isSome

/-! ## Outcomes to the readers -/

/-- Send an outcome to the reader of inlet i (R78). -/
def State.sendOutcome (s : State) (i : Nat) (o : ReadOutcome) : State :=
  { s with outcomes := s.outcomes ++ [(i, o)] }

/-- The inlets, counted from n, whose slot is occupied and that pass a test, each with one outcome. The rules give no order
among the outcomes that one event sends to several readers (R78, R108); the model goes by ascending inlet number. DESIGN
CHOICE, log entry 41. -/
def slotOutcomes (test : Inlet → Bool) (o : ReadOutcome) : Nat → List Inlet → List (Nat × ReadOutcome)
  | _, [] => []
  | n, x :: xs => (if x.slot.isSome && test x then [(n, o)] else []) ++ slotOutcomes test o (n + 1) xs

/-- Send one outcome to the reader of every inlet whose slot is occupied and that passes a test. -/
def State.sendSlotOutcomes (s : State) (test : Inlet → Bool) (o : ReadOutcome) : State :=
  { s with outcomes := s.outcomes ++ slotOutcomes test o 0 s.inlets }

end Sys2Proof.Machine
end

