-- ==== Sys2Proof/Machine/Flags.lean ====
section
/-! DEFINITION. Attention: the flags of the twelve kinds, the masks and the attention lines (R160 to R164). -/

namespace Sys2Proof.Machine

/-- The twelve kinds of attention (R161). -/
inductive AttentionKind where
  | cardQuery
  | level
  | due
  | full
  | sensor
  | inlet
  | heat
  | lift
  | seat
  | journal
  | config
  | restart
deriving DecidableEq, Repr

/-- The position of a kind in a kind set (R161). -/
def kindPosition : AttentionKind → Nat
  | .cardQuery => 0
  | .level => 1
  | .due => 2
  | .full => 3
  | .sensor => 4
  | .inlet => 5
  | .heat => 6
  | .lift => 7
  | .seat => 8
  | .journal => 9
  | .config => 10
  | .restart => 11

/-- The set of one kind. -/
def kindSet (k : AttentionKind) : KindSet := BitVec.ofNat 12 (2 ^ kindPosition k)

/-- Raise attention of a kind: its flag is set at all three ports, whatever their masks (R161). -/
def State.raise (s : State) (k : AttentionKind) : State :=
  s.mapPorts fun b => { b with flags := b.flags ||| kindSet k }

/-- Raise attention when a condition holds. -/
def State.raiseIf (s : State) (b : Bool) (k : AttentionKind) : State := if b then s.raise k else s

/-- The kinds enabled at a port: its mask, and HEAT always (R162, R164). -/
def PortBlock.enabled (b : PortBlock) : KindSet := b.mask ||| kindSet .heat

/-- A port's attention line is asserted exactly when it holds HEAT or a flag its mask enables (R162), and is
released until power-on reset has ended (R152). -/
def State.attentionLine (s : State) (p : Port) : Bool :=
  decide (s.power = .running) && decide ((s.port p).flags &&& (s.port p).enabled ≠ 0)

/-- A kind set's two bytes name no kind past position 11 (R163, R164). -/
def kindSetValid (v : Nat) : Bool := decide (v < 4096)

end Sys2Proof.Machine
end

