-- ==== Sys2Proof/Machine/Ring.lean ====
section
/-! DEFINITION. The journal's ring: making entries, overflow and loss, its three figures, release (R117 to R130). -/

namespace Sys2Proof.Machine

/-- The oldest sequence number: the next one less the entry count (R117). -/
def Journal.oldest (j : Journal) : Nat := j.nextSeq - j.entries.length

/-- The most entries the journal holds (R117). -/
def journalPlaces : Nat := 1024

/-- The places a deposit may take (R123). -/
def depositPlaces : Nat := 1008

/-- The count whose reaching raises attention JOURNAL (R125). -/
def journalHighMark : Nat := 768

/-- Make an entry at the newest end with the next sequence number and the clock's present count (R118, R119);
attention JOURNAL when the count rises to 768 (R125). A lid closing held through DOZE or WAKING (R185) makes its entry at
AWAKE, and the entry has the clock's count and marker of that event, not of the closing's acceptance: DESIGN CHOICE, log
entry 42. -/
def State.makeEntry (s : State) (place : Nat) (body : JournalBody) : State :=
  let j := s.journal
  let e : JournalEntry :=
    { seq := j.nextSeq, time := s.clock.count, clockUnset := !s.clock.set, place := place, body := body }
  ({ s with journal := { j with entries := j.entries ++ [e], nextSeq := j.nextSeq + 1 } }).raiseIf
    (decide (j.entries.length + 1 = journalHighMark)) .journal

/-- Raise the overflow count of the entry with a card number, saturating (R123). -/
def chargeOverflow (n : Nat) (cs : List Card) : List Card :=
  cs.map fun k => if k.number = n then { k with overflow := saturate 65535 (k.overflow + 1) } else k

/-- A DEPOSIT record handed to the journal (R123): an entry below 1,008 entries; else turned away, counted for the
station and for the card, with JOURNAL at the first of a run (R125). -/
def State.journalDeposit (s : State) (inlet card : Nat) (household : Option Nat) (unverified : Bool) : State :=
  if s.journal.entries.length < depositPlaces then s.makeEntry inlet (.deposit card household unverified)
  else
    let j := s.journal
    ({ s with
        journal := { j with overflow := saturate 65535 (j.overflow + 1), depositFull := true }
        cards := { s.cards with entries := chargeOverflow card s.cards.entries } }).raiseIf (!j.depositFull) .journal

/-- A FORCED or EMPTYING record handed to the journal (R124): an entry below 1,024 entries; else lost and counted,
with JOURNAL at the first of a run (R125). -/
def State.journalRecord (s : State) (place : Nat) (body : JournalBody) : State :=
  if s.journal.entries.length < journalPlaces then s.makeEntry place body
  else
    let j := s.journal
    ({ s with journal := { j with lost := saturate 65535 (j.lost + 1), lostMarker := true } }).raiseIf
      (!j.lostMarker) .journal

/-- Every entry up to and including sequence number n leaves, and the markers clear as the count allows (R130). -/
def Journal.release (j : Journal) (n : Nat) : Journal :=
  let kept := j.entries.filter fun e => decide (n < e.seq)
  { j with
    entries := kept
    depositFull := j.depositFull && decide (depositPlaces ≤ kept.length)
    lostMarker := j.lostMarker && decide (journalPlaces ≤ kept.length) }

/-- The entries at or above a cursor, oldest first (R128). -/
def Journal.fromCursor (j : Journal) (cursor : Nat) : List JournalEntry :=
  j.entries.filter fun e => decide (cursor ≤ e.seq)

end Sys2Proof.Machine
end

