-- ==== Sys2Proof/Machine/Arith.lean ====
section
/-! DEFINITION. Fill arithmetic (R40 to R50), and the echo capture's blanking time (R21): pure functions on integers. -/

namespace Sys2Proof.Machine

/-! ## Temperature -/

/-- The longest reference phase in µs (R20). -/
def longestGate : Nat := 100000

/-- The gate time that a conversion leaves (R20): none where the reference phase was cut off at 100 ms. -/
def conversionGate : Conversion → Option Nat
  | .overrun => none
  | .cycles gate _ => if gate ≤ longestGate then some gate else none

/-- The result of a conversion (R20): the thermistor count saturates at 65,535; open at most 128, short at 65,535; a
reference phase longer than 100 ms is a reference overrun. -/
def conversionResult : Conversion → ConversionResult
  | .overrun => .referenceOverrun
  | .cycles gate n =>
    let ns := saturate 65535 n
    if longestGate < gate then .referenceOverrun
    else if ns ≤ 128 then .openCircuit else if ns = 65535 then .shortCircuit else .valid ns

/-- The thermistor ratio q = 4,194,304 / N_s, rounded, halves up (R41). -/
def thermistorRatio (ns : Nat) : Nat := roundUp 4194304 ns

/-- The segment search and interpolation of R43 for q strictly inside the table. -/
def interpolate : List (Nat × Int) → Nat → Int
  | (qa, ta) :: (qb, tb) :: rest, q =>
    if q ≤ qa ∧ qb < q then ta + roundAway (((qa - q : Nat) : Int) * (tb - ta)) (qa - qb)
    else interpolate ((qb, tb) :: rest) q
  | [(_, t)], _ => t
  | [], _ => 0

/-- T_half from q through the thermistor table, with its clamped marker (R43). -/
def temperature (table : List (Nat × Int)) (q : Nat) : Int × Bool :=
  let p0 := table.head?.getD (0, 0)
  let p8 := table.getLast?.getD (0, 0)
  if p0.1 ≤ q then (p0.2, true)
  else if q ≤ p8.1 then (p8.2, true)
  else (interpolate table q, false)

/-- The substitute temperature of a faulted conversion, 15.0 °C (R44). -/
def substituteTHalf : Int := 30

/-! ## Distance -/

/-- The speed of sound c10 = 3,313 + round(303 × T_half / 100), halves away from zero (R45). -/
def speedOfSound (tHalf : Int) : Nat := (3313 + roundAway (303 * tHalf) 100).toNat

/-- The distance d = t × c10 / 20,000, rounded, halves up (R46). -/
def distance (t c10 : Nat) : Nat := roundUp (t * c10) 20000

/-- The blanking time B × 20,000 / 3,798 µs, truncated (R21). -/
def blankingTime (b : Nat) : Nat := b * 20000 / 3798

/-- The echo capture (R21): the echo time with its blanked mark, or none for a miss. -/
def echoCapture (blanking : Nat) (e : EchoSignal) : Option (Nat × Bool) :=
  if e.aboveAtBlankingEnd then some (blankingTime blanking, true)
  else (e.crossings.find? fun t => decide (blankingTime blanking ≤ t ∧ t ≤ 30000)).map fun t => (t, false)

/-! ## Height, volume, per-mille -/

/-- The fill height and the NEAR marker from distance, blanking distance and floor reference; none is BEYOND (R47). -/
def fillHeight (d blanking floorRef : Nat) (blanked : Bool) : Option (Nat × Bool) :=
  if blanked ∨ d < blanking then some (floorRef - blanking, true)
  else if d ≤ floorRef then some (floorRef - d, false)
  else if d ≤ floorRef + 150 then some (0, false)
  else none

/-- The volume at a fill height through a shape table (R49). -/
def shapeVolume : List (Nat × Nat) → Nat → Nat
  | (ha, va) :: (hb, vb) :: rest, h =>
    if h < hb then va + (h - ha) * (vb - va) / (hb - ha) else shapeVolume ((hb, vb) :: rest) h
  | [(_, v)], _ => v
  | [], _ => 0

/-- The fill per-mille, truncated (R50). -/
def perMille (v capacity : Nat) : Nat := v * 1000 / capacity

/-- A reading (R40). -/
structure Reading where
  distance : Nat
  height : Nat
  volume : Nat
  perMille : Nat
  tHalf : Int
  near : Bool
deriving DecidableEq, Repr

/-- The reading of an echo, or none for BEYOND (R45 to R50). -/
def reading (shape : List (Nat × Nat)) (blanking floorRef : Nat) (tHalf : Int) (t : Nat) (blanked : Bool) :
    Option Reading :=
  let d := distance t (speedOfSound tHalf)
  (fillHeight d blanking floorRef blanked).map fun hn =>
    let v := shapeVolume shape hn.1
    { distance := d, height := hn.1, volume := v, perMille := perMille v (shapeCapacity shape),
      tHalf := tHalf, near := hn.2 }

/-! ## The estimate -/

/-- The estimate E = min(V_c + A, C), absent while the confirmed level is (R56). -/
def Container.estimate (k : Container) (capacity : Nat) : Option Nat :=
  k.level.map fun l => min (l.volume + k.added) capacity

/-- The estimate per-mille P_e (R56). -/
def Container.estimatePerMille (k : Container) (capacity : Nat) : Option Nat :=
  (k.estimate capacity).map fun e => perMille e capacity

end Sys2Proof.Machine
end

