-- ==== Sys2Proof/Machine/Threshold.lean ====
section
/-! DEFINITION. The threshold unit: evaluation of due and full, the due list, the emptying clean-up (R58 to R63). -/

namespace Sys2Proof.Machine

/-- Container c leaves the due list, and attention DUE is raised (R60, R62). -/
def State.leaveDueList (s : State) (c : Nat) : State :=
  ({ s with dueList := s.dueList.filter fun e => decide (e.container ≠ c) }).raise .due

/-- Container c joins the due list at its end, and attention DUE is raised (R59). -/
def State.joinDueList (s : State) (c pe : Nat) : State :=
  let e : DueEntry := { container := c, reached := s.clock.count, clockUnset := !s.clock.set, perMille := pe }
  ({ s with dueList := s.dueList ++ [e] }).raise .due

/-- Judge due on an estimate per-mille (R59, R60): join at or above D, leave below D − 100. -/
def State.judgeDue (s : State) (c : Nat) (k : Container) (pe : Nat) : State :=
  if s.isDue c then (if pe + 100 < k.cfg.dueAt then s.leaveDueList c else s)
  else if k.cfg.dueAt ≤ pe then s.joinDueList c pe else s

/-- Set or clear container c's full flag, and raise attention FULL (R63). -/
def State.setFull (s : State) (c : Nat) (b : Bool) : State :=
  (s.updContainer c fun k => { k with full := b }).raise .full

/-- Judge full on an estimate per-mille (R63): set at or above U, clear below U − 50. -/
def State.judgeFull (s : State) (c : Nat) (k : Container) (pe : Nat) : State :=
  if k.full then (if pe + 50 < k.cfg.fullAt then s.setFull c false else s)
  else if k.cfg.fullAt ≤ pe then s.setFull c true else s

/-- The fill arithmetic unit hands container c's estimate, and the threshold unit evaluates it: due first, then full
(R56, R58). While the estimate is absent nothing is handed. -/
def State.evaluate (s : State) (c : Nat) : State :=
  match s.containers[c]? with
  | none => s
  | some k =>
    match k.estimatePerMille (s.capacity k) with
    | none => s
    | some pe => (s.judgeDue c k pe).judgeFull c k pe

/-- The clean-up at the end of an emptying: the due entry goes and the full flag clears, with their attention (R62). -/
def State.cleanUp (s : State) (c : Nat) : State :=
  let s1 := if s.isDue c then s.leaveDueList c else s
  match s1.containers[c]? with
  | none => s1
  | some k => if k.full then s1.setFull c false else s1

/-- Container c's added volume rises by a number of litres, saturating, and its estimate is handed (R55, R56). -/
def State.addVolume (s : State) (c litres : Nat) : State :=
  (s.updContainer c fun k => { k with added := saturate 65535 (k.added + litres) }).evaluate c

end Sys2Proof.Machine
end

