-- ==== Sys2Proof/Machine/Windows.lean ====
section
/-! DEFINITION. The inlet block: windows, lid events, deposits, forced entries, service openings (R72 to R91). -/

namespace Sys2Proof.Machine

/-- The window of an UNLOCKED inlet ends: LOCKED, its timer stopped, nothing charged (R81, R82). -/
def Inlet.endWindow (x : Inlet) : Inlet :=
  if x.state = .unlocked then { x with state := .locked, window := none, windowTimer := none } else x

/-- The service opening of an inlet ends: LOCKED, its timer stopped, the window record absent (R90). -/
def Inlet.endService (x : Inlet) : Inlet :=
  if x.state = .serviceOpen then
    { x with state := .locked, window := none, serviceTimer := none, runOut := false }
  else x

/-- The windows of container c's UNLOCKED inlets end (R82). -/
def State.endWindows (s : State) (c : Nat) : State := s.mapBoundInlets c Inlet.endWindow

/-- The slot empties and its query, if any, leaves the set with its wait timer (R77, R108). -/
def Inlet.clearSlot (x : Inlet) : Inlet := { x with slot := none, query := none }

/-- An accepted read opens a window (R79): the window record, UNLOCKED, the window timer, the slot empty. -/
def Inlet.openWindow (x : Inlet) (w : WindowRecord) (now : Nat) : Inlet :=
  { x.clearSlot with
    state := .unlocked, window := some w, windowTimer := some (now + seconds x.cfg.windowSeconds) }

/-- A window opens at inlet i, and the reader gets ACCEPT (R79). -/
def State.openWindow (s : State) (i : Nat) (w : WindowRecord) : State :=
  (s.updInlet i fun x => x.openWindow w s.now).sendOutcome i .accept

/-- The read in inlet i's slot is refused: the slot empties, the inlet stays LOCKED (R77, R78). -/
def State.refuseRead (s : State) (i : Nat) (o : ReadOutcome) : State :=
  (s.updInlet i Inlet.clearSlot).sendOutcome i o

/-- The limit timer's expiry for an opening at a moment (R83, R86, R185). -/
def Inlet.limitFrom (x : Inlet) (t : Nat) : Option Nat := some (t + seconds x.cfg.limitSeconds)

/-- A lid opening, taken by the inlet state; t is its acceptance time (R73, R83, R86, R90, R91, R185).
An opening at an IN_USE inlet cannot arise, since its lid is open already. -/
def Inlet.takeOpening (x : Inlet) (lifted : Bool) (t : Nat) : Inlet :=
  if lifted then { x with lidOpen := true, lid := some ⟨.uncounted, t⟩ }
  else match x.state with
    | .locked =>
      { x with lidOpen := true, lid := some ⟨.forced, t⟩, limitTimer := x.limitFrom t,
               forced := saturate 255 (x.forced + 1) }
    | .unlocked =>
      { x with lidOpen := true, lid := some ⟨.window, t⟩, limitTimer := x.limitFrom t,
               state := .inUse, windowTimer := none }
    | .serviceOpen => { x with lidOpen := true, lid := some ⟨.service, t⟩ }
    | .inUse => { x with lidOpen := true }

/-- An opening at this inlet is a forced entry (R86). -/
def Inlet.opensForced (x : Inlet) (lifted : Bool) : Bool := !lifted && decide (x.state = .locked)

/-- A lid opening at inlet i is taken. An inlet whose lid is OPEN already has no opening (R72). -/
def State.takeLidOpening (s : State) (i t : Nat) : State :=
  match s.inlets[i]? with
  | none => s
  | some x =>
    if x.lidOpen then s
    else
      (s.updInlet i fun y => y.takeOpening (s.inState x.cfg.container .lifted) t).raiseIf
        (x.opensForced (s.inState x.cfg.container .lifted)) .inlet

/-- What every lid closing leaves of the lid: CLOSED, cause absent, limit timer stopped, STUCK clear (R84, R87, R91). -/
def Inlet.lidClosed (x : Inlet) : Inlet :=
  { x with lidOpen := false, lid := none, limitTimer := none, stuck := false }

/-- The inlet after a closing, taken by its lid cause (R73, R84, R87, R90, R91). -/
def Inlet.takeClosing (x : Inlet) (lifted : Bool) : Inlet :=
  if lifted then x.lidClosed
  else match x.lid.map LidOpen.cause with
    | some .window => { x.lidClosed with state := .locked, window := none }
    | some .service =>
      let y := { x.lidClosed with cycles := saturate 255 (x.cycles + 1) }
      if x.runOut then y.endService else y
    | some .forced | some .uncounted | none => x.lidClosed

/-- The used count of the entry with a card number rises, saturating (R84). -/
def chargeUse (n : Nat) (cs : List Card) : List Card :=
  cs.map fun k => if k.number = n then { k with used := saturate 255 (k.used + 1) } else k

/-- Charge a deposit to the card table (R84). -/
def State.chargeCard (s : State) (n : Nat) : State :=
  { s with cards := { s.cards with entries := chargeUse n s.cards.entries } }

/-- A deposit at inlet i, counted from its window record: to the card table, the container and the journal (R84). -/
def State.countDeposit (s : State) (i : Nat) (x : Inlet) : State :=
  match x.window with
  | none => s
  | some w =>
    let n := w.card.getD 0
    ((s.chargeCard n).addVolume x.cfg.container x.cfg.nominal).journalDeposit i n w.household w.unverified

/-- The whole seconds a lid stood open, truncated, saturating at 65,535 (R87). -/
def openSeconds (opened closed : Nat) : Nat := saturate 65535 ((closed - opened) / 1000)

/-- A forced close at inlet i: the FORCED record and the volume (R87). -/
def State.countForced (s : State) (i : Nat) (x : Inlet) (opened t : Nat) : State :=
  (s.journalRecord i (.forced (openSeconds opened t))).addVolume x.cfg.container x.cfg.nominal

/-- What a closing hands on, by its lid cause (R84, R87, R91). -/
def State.countClosing (s : State) (i : Nat) (x : Inlet) (t : Nat) : State :=
  match x.lid with
  | some ⟨.window, _⟩ => s.countDeposit i x
  | some ⟨.forced, opened⟩ => s.countForced i x opened t
  | some ⟨.service, _⟩ | some ⟨.uncounted, _⟩ | none => s

/-- Every inlet bound to container c is LOCKED with its lid CLOSED: the release condition (R140). -/
def State.readyForCrane (s : State) (c : Nat) : Bool :=
  s.inlets.all fun x => decide (x.cfg.container ≠ c) || !x.holdsOff

/-- The release condition is judged for container c (R140): a CLAIMED container that is ready becomes RELEASED, the
lid wait stops, the release wait starts at 180 s, and attention LIFT is raised. -/
def State.judgeRelease (s : State) (c : Nat) : State :=
  if s.inState c .claimed = true ∧ s.readyForCrane c = true then
    ({ s.updContainer c (fun k => { k with state := .released }) with
        lift := { s.lift with lidWait := none, releaseWait := some (s.now + seconds 180) } }).raise .lift
  else s

/-- A lid closing at inlet i is taken (R73), and then the release condition is judged (R140). An inlet whose lid is
CLOSED already has no closing (R72). -/
def State.takeLidClosing (s : State) (i t : Nat) : State :=
  match s.inlets[i]? with
  | none => s
  | some x =>
    if x.lidOpen then
      let lifted := s.inState x.cfg.container .lifted
      let s1 := s.updInlet i fun y => y.takeClosing lifted
      (if lifted then s1 else s1.countClosing i x t).judgeRelease x.cfg.container
    else s

end Sys2Proof.Machine
end

