-- ==== Sys2Proof/Machine/Access.lean ====
section
/-! DEFINITION. The card table: its entries, the access decision, online queries, quota periods, and a card read's way
through the inlet (R76 to R80, R93 to R116). -/

namespace Sys2Proof.Machine

/-! ## Entries -/

/-- The most entries the table holds (R93). -/
def cardPlaces : Nat := 3000

/-- The entry of a card number (R103). -/
def findCard (n : Nat) (cs : List Card) : Option Card := cs.find? fun k => decide (k.number = n)

/-- Add an entry in card-number order, or replace the entry of its number, which keeps its used and overflow counts
(R93, R96). -/
def putEntry (new : Card) : List Card → List Card
  | [] => [new]
  | k :: ks =>
    if new.number < k.number then new :: k :: ks
    else if new.number = k.number then { new with used := k.used, overflow := k.overflow } :: ks
    else k :: putEntry new ks

/-- An entry joins or replaces (R96). -/
def CardTable.put (t : CardTable) (new : Card) : CardTable := { t with entries := putEntry new t.entries }

/-- A new card number finds the table full (R93). -/
def CardTable.fullFor (t : CardTable) (n : Nat) : Bool :=
  (findCard n t.entries).isNone && decide (cardPlaces ≤ t.entries.length)

/-- The entry of a card number leaves (R98). -/
def CardTable.remove (t : CardTable) (n : Nat) : CardTable :=
  { t with entries := t.entries.filter fun k => decide (k.number ≠ n) }

/-- The entry of a card number becomes BLOCKED (R99). -/
def CardTable.block (t : CardTable) (n : Nat) : CardTable :=
  { t with entries := t.entries.map fun k => if k.number = n then { k with blocked := true } else k }

/-! ## Quota periods -/

/-- The computed period index (R114). -/
def computedPeriod (clock days : Nat) : Nat := clock / (86400 * days)

/-- A TEMPORARY entry whose expiry is at or before the clock's count (R115). -/
def Card.expiredAt (k : Card) (clock : Nat) : Bool :=
  match k.kind, k.expiry with
  | .temporary, some e => decide (e ≤ clock)
  | _, _ => false

/-- A roll (R115). -/
def CardTable.roll (t : CardTable) (clock index : Nat) : CardTable :=
  { t with
    entries := (t.entries.filter fun k => !k.expiredAt clock).map fun k => { k with used := 0 }
    period := index }

/-- The period index is judged: a roll when the computed index exceeds the stored one (R114). While the part is
UNCONFIGURED there is no period length, and nothing is judged (R176). -/
def State.judgePeriod (s : State) : State :=
  match s.store.running with
  | none => s
  | some g =>
    if s.cards.period < computedPeriod s.clock.count g.periodDays then
      { s with cards := s.cards.roll s.clock.count (computedPeriod s.clock.count g.periodDays) }
    else s

/-- The judgement of a configuration restart, from the old period length, if any, to the new one (R116). -/
def CardTable.rebase (t : CardTable) (clock : Nat) (old : Option Nat) (new : Nat) : CardTable :=
  let i := computedPeriod clock new
  if t.period < i then t.roll clock i
  else if old = some new then t
  else { t with period := i }

/-! ## The access decision -/

/-- How a decision ends (R77). -/
inductive Decision where
  | open (w : WindowRecord)
  | refuse (o : ReadOutcome)
  | query
deriving DecidableEq, Repr

/-- Checks 1 to 5, on the inlet and its bound container (R102): the first that fails gives the reason. -/
def firstChecks (x : Inlet) (k : Container) : Option ReadOutcome :=
  if x.stuck then some .fault
  else if k.displaced then some .fault
  else if k.state = .suspended then some .suspended
  else if k.hot then some .hot
  else if k.state ≠ .serving then some .emptying
  else none

/-- A window is held for card number n (R106). -/
def Inlet.holdsWindow (n : Nat) (x : Inlet) : Bool :=
  decide (x.state = .unlocked ∨ x.state = .inUse) && decide ((x.window.bind WindowRecord.card) = some n)

/-- The number of windows held for a card number (R106). -/
def heldWindows (n : Nat) (xs : List Inlet) : Nat := (xs.filter (Inlet.holdsWindow n)).length

/-- The window record of a CARD acceptance (R79, R106, R112). -/
def cardWindow (n household : Nat) : WindowRecord := ⟨.card, some n, some household, false⟩

/-- The window record of an ANONYMOUS acceptance (R79, R104). -/
def anonymousWindow (n : Nat) : WindowRecord := ⟨.anonymous, some n, none, true⟩

/-- Check 8: a TEMPORARY card at or after its expiry (R105). -/
def Card.refusedExpired (k : Card) (clock : Nat) : Bool := k.expiredAt clock

/-- The entry checks 7 to 11 (R105, R106). -/
def decideEntry (e : Card) (k : Container) (clock held : Nat) : Decision :=
  if e.blocked then .refuse .blocked
  else if e.refusedExpired clock then .refuse .expired
  else if e.kind = .service then .open (cardWindow e.number e.household)
  else if e.rights.getLsbD k.cfg.fraction = false then .refuse .noRight
  else if k.full then .refuse .full
  else if e.quota < 255 ∧ e.quota ≤ e.used + held then .refuse .quota
  else .open (cardWindow e.number e.household)

/-- The not-found branch (R104). -/
def decideUnknown (n : Nat) (k : Container) (loaded : Bool) (fallback : FractionSet) (queryEnabled : Bool) : Decision :=
  if loaded then (if queryEnabled then .query else .refuse .unknown)
  else if fallback.getLsbD k.cfg.fraction then
    (if k.full then .refuse .full else .open (anonymousWindow n))
  else .refuse .unknown

/-- The whole access decision for card number n at an inlet and its bound container (R102 to R106). -/
def State.decideRead (s : State) (x : Inlet) (k : Container) (n : Nat) : Decision :=
  match firstChecks x k with
  | some o => .refuse o
  | none =>
    match findCard n s.cards.entries with
    | some e => decideEntry e k s.clock.count (heldWindows n s.inlets)
    | none =>
      decideUnknown n k s.cards.loaded ((s.store.running.map StationConfig.fallbackOpen).getD 0)
        ((s.store.running.map StationConfig.queryEnabled).getD false)

/-- A query is posted at inlet i (R107): the record, the wait timer, the slot kept, CARD_QUERY. -/
def State.postQuery (s : State) (i n : Nat) : State :=
  let wait := (s.store.running.map StationConfig.queryWaitSeconds).getD 0
  (s.updInlet i fun x =>
    { x with slot := some n, query := some ⟨n, s.clock.count, s.now + seconds wait⟩ }).raise .cardQuery

/-- A read takes the empty slot of a LOCKED inlet and is decided at once (R77). -/
def State.decideSlot (s : State) (i n : Nat) (x : Inlet) : State :=
  match s.containers[x.cfg.container]? with
  | none => s
  | some k =>
    match s.decideRead x k n with
    | .open w => s.openWindow i w
    | .refuse o => s.refuseRead i o
    | .query => s.postQuery i n

/-- An extending read at an UNLOCKED inlet (R80). -/
def State.extendWindow (s : State) (i : Nat) : State :=
  (s.updInlet i fun x => { x with windowTimer := some (s.now + seconds x.cfg.windowSeconds) }).sendOutcome i .accept

/-- A read at inlet i is taken by the inlet's state (R76). At an inlet without a reader no read is taken. -/
def State.takeRead (s : State) (i n : Nat) : State :=
  match s.inlets[i]? with
  | none => s
  | some x =>
    if x.cfg.reader = false then s
    else if n = 0 then s.sendOutcome i .unknown
    else match x.state with
      | .locked => if x.slot.isSome then s.sendOutcome i .busy else s.decideSlot i n x
      | .unlocked =>
        if (x.window.bind WindowRecord.card) = some n then s.extendWindow i else s.sendOutcome i .busy
      | .inUse => s.sendOutcome i (if x.stuck then .fault else .busy)
      | .serviceOpen => s.sendOutcome i .busy

/-! ## Answers to queries -/

/-- The re-check of an ALLOW answer (R112): checks 1 to 5, then full unless the entry is of kind SERVICE. -/
def recheck (x : Inlet) (k : Container) (e : Card) : Option ReadOutcome :=
  match firstChecks x k with
  | some o => some o
  | none => if k.full = true ∧ e.kind ≠ .service then some .full else none

/-- The outcome of an ALLOW answer at an inlet (R112). -/
def State.allowOutcome (s : State) (x : Inlet) (e : Card) : ReadOutcome :=
  match s.containers[x.cfg.container]? with
  | none => .unknown
  | some k => (recheck x k e).getD .accept

/-- An ALLOW answer ends the query at inlet i and decides its read again (R112). -/
def State.allowRead (s : State) (i : Nat) (x : Inlet) (e : Card) : State :=
  if s.allowOutcome x e = .accept then s.openWindow i (cardWindow e.number e.household)
  else s.refuseRead i (s.allowOutcome x e)

end Sys2Proof.Machine
end

