-- ==== Sys2Proof/Machine/Pairs.lean ====
section
/-! DEFINITION. The measurement channel's stage, queue, arbiter and ping schedule (R19, R24 to R35). -/

namespace Sys2Proof.Machine

/-- The order of the classes: VERIFY highest, SCHEDULED lowest (R24). -/
def classRank : PairClass → Nat
  | .scheduled => 0
  | .demand => 1
  | .verify => 2

/-- The rank of a pair's class. -/
def pairRank (p : Pair) : Nat := (p.cls.map classRank).getD 0

/-- The container waits for the front end (R29). -/
def Pair.queued (p : Pair) : Bool := decide (p.stage = .firstQueued ∨ p.stage = .secondQueued)

/-- A pair in progress takes the higher of its class and a request's (R25). -/
def Pair.raiseTo (p : Pair) (cls : PairClass) : Pair :=
  if pairRank p < classRank cls then
    { p with cls := some cls, attempt := if cls = .verify then some 1 else p.attempt }
  else p

/-- What a request for a pair does to the stage (R25). -/
def Pair.request (p : Pair) (cls : PairClass) (now : Nat) : Pair :=
  if p.stage = .none then
    { Pair.idle with stage := .firstQueued, cls := some cls, entry := some now,
                     attempt := if cls = .verify then some 1 else none }
  else p.raiseTo cls

/-- A pair is requested for container c (R25). -/
def State.requestPair (s : State) (c : Nat) (cls : PairClass) : State :=
  s.updContainer c fun k => { k with pair := k.pair.request cls s.now }

/-- Entry a comes before entry b in the queue: higher class, then earlier entry time (R30). The lower container
number stands first in the list. -/
def entryBefore (a b : Pair) : Bool :=
  decide (pairRank b < pairRank a) ||
    (decide (pairRank a = pairRank b) && decide (a.entry.getD 0 < b.entry.getD 0))

/-- The queued container that the arbiter chooses, counting from container n (R30). -/
def chooseQueued : Nat → List Container → Option (Nat × Pair)
  | _, [] => none
  | n, k :: ks =>
    match k.pair.queued, chooseQueued (n + 1) ks with
    | false, r => r
    | true, none => some (n, k.pair)
    | true, some (m, p) => if entryBefore p k.pair then some (m, p) else some (n, k.pair)

/-- The start of a container's measurement (R19, R26). -/
def State.startMeasurement (s : State) (c : Nat) (p : Pair) : State :=
  let second := decide (p.stage = .secondQueued)
  { s.updContainer c (fun k =>
      { k with pair := { k.pair with stage := if second then .secondRunning else .firstRunning, entry := none } }) with
    run := some (.started c second) }

/-- The arbiter starts a measurement when the front end is free and the queue is not empty (R30). -/
def State.arbitrate (s : State) : State :=
  match s.run, chooseQueued 0 s.containers with
  | none, some (c, p) => s.startMeasurement c p
  | _, _ => s

/-- The ping interval in ms: the configured minutes, or 60 s while hot (R31). -/
def Container.pingInterval (k : Container) : Nat := if k.hot then seconds 60 else seconds (60 * k.cfg.pingMinutes)

/-- The class that a due event requests (R31). -/
def Container.dueClass (k : Container) : PairClass := if k.hot then .demand else .scheduled

/-- No measurement is queued or started for a LIFTED or displaced container (R31, R34, R35). -/
def Container.unmeasured (k : Container) : Bool := decide (k.state = .lifted) || k.displaced

/-- A container's due event (R31): the next-due time moves on, and a pair may be requested. -/
def Container.takeDue (k : Container) (now : Nat) : Container :=
  { k with
    nextDue := k.nextDue + k.pingInterval
    pair := if k.unmeasured = true ∨ k.pair.stage ≠ .none then k.pair else k.pair.request k.dueClass now }

/-- The due event of container c is taken. -/
def State.takeDueEvent (s : State) (c : Nat) : State := s.updContainer c fun k => k.takeDue s.now

/-- Every container is due at once, and the due events are taken in one event (R4, R33; log entry 10). -/
def State.allDue (s : State) : State :=
  { s with containers := s.containers.map fun k => ({ k with nextDue := s.now }).takeDue s.now }

/-- An unseat's effect on the channel (R35): the stage becomes NONE, and a running measurement is detached. -/
def State.detachPair (s : State) (c : Nat) : State :=
  { s.updContainer c (fun k => { k with pair := .idle }) with
    run := s.run.map fun r => if r.container = c then { r with detached := true } else r }

end Sys2Proof.Machine
end

