-- ==== Sys2Proof/Machine/Lift.lean ====
section
/-! DEFINITION. The emptying controller: the end of a claim, the end of an emptying, the lift and the reseat
(R8 to R13, R57, R62, R131 to R148), and a container's becoming hot (R32, R68). -/

namespace Sys2Proof.Machine

/-- The session's claimed container is cleared (R132). -/
def LiftController.clearClaim (l : LiftController) : LiftController :=
  { l with session := l.session.map fun x => { x with claimed := none } }

/-- The session ends and the carrier-loss timer stops (R132, R135). -/
def LiftController.endSession (l : LiftController) : LiftController :=
  { l with session := none, carrierLoss := none }

/-- The last lift result is overwritten (R137). -/
def State.setLastLift (s : State) (c : Nat) (e : LiftEnding) : State :=
  { s with lift := { s.lift with last := some ⟨c, e, s.clock.count⟩ } }

/-- A claim ends before the container leaves its platform: SERVING, lift lock engaged, both waits stopped, the
session's claim cleared, the last lift result set, attention LIFT (R13, R136, R141, R142, R143). -/
def State.endClaim (s : State) (c : Nat) (e : LiftEnding) : State :=
  let s1 := s.updContainer c fun k => { k with state := .serving }
  ({ s1 with lift := { s1.lift.clearClaim with lidWait := none, releaseWait := none } }).setLastLift c e |>.raise .lift

/-! ## The end of an emptying -/

/-- The assumed-empty level (R57). -/
def Container.assumeEmpty (k : Container) (clock : Nat) : Container :=
  { k with
    level := some { height := 0, volume := 0, perMille := 0, tHalf := (k.lastTemp.map LastTemp.tHalf).getD substituteTHalf,
                    time := clock, assumed := true }
    added := 0 }

/-- The EMPTYING record of a container (R122, R146). -/
def emptyingRecord (note : Option EmptyingNote) (after : Option Nat) (verified : Bool) : JournalBody :=
  let n := note.getD ⟨none, none, none⟩
  .emptying n.vehicle n.before after (n.attended.getD false) verified

/-- Steps 2 to 7 of the end of an emptying, in their order (R146): journal, note, clean-up, state, estimate, result. -/
def State.finishEmptying (s : State) (c : Nat) (after : Option Nat) (verified : Bool) (e : LiftEnding) : State :=
  match s.containers[c]? with
  | none => s
  | some k =>
    let s2 := s.journalRecord c (emptyingRecord k.note after verified)
    let s3 := s2.updContainer c fun x => { x with note := none }
    let s4 := s3.cleanUp c
    let s5 := s4.updContainer c fun x => { x with state := .serving }
    let s6 := s5.evaluate c
    (s6.setLastLift c e).raise .lift

/-- An emptying that ends unverified (R57, R146, R147): the assumed-empty level first. -/
def State.endUnverified (s : State) (c : Nat) (e : LiftEnding) : State :=
  (s.updContainer c fun k => k.assumeEmpty s.clock.count).finishEmptying c none false e

/-! ## Unseat and reseat -/

/-- The lift: an unseat in RELEASED (R8, R144). -/
def State.takeLift (s : State) (c : Nat) (k : Container) : State :=
  let s1 := s.updContainer c fun x =>
    { x with
      seated := false, state := .lifted
      note := some ⟨k.estimatePerMille (s.capacity k), none, none⟩ }
  (({ s1 with lift := { s1.lift with releaseWait := none } }).detachPair c).raise .lift

/-- The effects of an unseat that makes a container displaced, but for those that hang on its state (R9). -/
def State.displace (s : State) (c : Nat) : State :=
  (((s.updContainer c fun x => { x with seated := false, displaced := true }).detachPair c).endWindows c).raise .seat

/-- An unseat of container c is taken by its service state (R8, R9, R147). A LIFTED container is unseated already. -/
def State.takeUnseat (s : State) (c : Nat) : State :=
  match s.containers[c]? with
  | none => s
  | some k =>
    match k.state with
    | .released => s.takeLift c k
    | .serving | .suspended => s.displace c
    | .claimed => (s.displace c).endClaim c .displaced
    | .verifying => (s.displace c).endUnverified c .verifyUnseated
    | .lifted => s.updContainer c fun x => { x with seated := false }

/-- The emptying note completed from the session as it stands (R10, R145). -/
def completeNote (note : Option EmptyingNote) (session : Option Session) : EmptyingNote :=
  { before := note.bind EmptyingNote.before, vehicle := session.map Session.vehicle, attended := some session.isSome }

/-- The reseat of a LIFTED container (R10, R145). -/
def State.reseatLifted (s : State) (c : Nat) : State :=
  let s1 := s.updContainer c fun x =>
    { x with seated := true, state := .verifying, note := some (completeNote x.note s.lift.session) }
  (({ s1 with lift := s1.lift.clearClaim }).requestPair c .verify).raise .lift

/-- The reseat of a displaced container (R11). -/
def State.reseatDisplaced (s : State) (c : Nat) : State :=
  ((s.updContainer c fun x => { x with seated := true, displaced := false }).requestPair c .demand).raise .seat

/-- A reseat of container c is taken by its state (R10, R11). -/
def State.takeReseat (s : State) (c : Nat) : State :=
  match s.containers[c]? with
  | none => s
  | some k =>
    if k.state = .lifted then s.reseatLifted c
    else if k.displaced then s.reseatDisplaced c
    else s.updContainer c fun x => { x with seated := true }

/-- A seat change accepted for container c: to SEATED a reseat, to UNSEATED an unseat; a change to the level the
seat state already holds is none (R7). -/
def State.takeSeat (s : State) (c : Nat) (toSeated : Bool) : State :=
  match s.containers[c]? with
  | none => s
  | some k => if k.seated = toSeated then s else if toSeated then s.takeReseat c else s.takeUnseat c

/-! ## Heat -/

/-- What becoming hot does to the record (R32, R68): the flag, the next-due time, a SCHEDULED pair raised to DEMAND. -/
def Container.becomeHot (k : Container) (now : Nat) : Container :=
  { k with
    hot := true
    nextDue := now + seconds 60
    pair := if k.pair.stage = .none then k.pair else k.pair.raiseTo .demand }

/-- Container c becomes hot (R13, R32, R68, R148). -/
def State.becomeHot (s : State) (c : Nat) : State :=
  let s1 := ((s.updContainer c fun k => k.becomeHot s.now).raise .heat).endWindows c
  if s.inState c .claimed = true ∨ s.inState c .released = true then s1.endClaim c .hot else s1

end Sys2Proof.Machine
end

