-- ==== Sys2Proof/Machine/Completion.lean ====
section
/-! DEFINITION. What a measurement's completion does: temperature status and heat watch, the reading, the stage, misses
and mismatches, adoption and verification (R22, R23, R27, R28, R36 to R39, R51 to R54, R66, R67, R146). -/

namespace Sys2Proof.Machine

/-! ## Temperature and heat watch -/

/-- A faulted conversion (R23): the status becomes FAULT, with SENSOR unless it was FAULT. -/
def State.temperatureFault (s : State) (c : Nat) (k : Container) : State :=
  (s.updContainer c fun x => { x with tempStatus := .fault }).raiseIf (decide (k.tempStatus ≠ .fault)) .sensor

/-- The limit condition or the rise condition of R67 for a new T_half at the present time. -/
def Container.heatCondition (k : Container) (t : Int) (now : Nat) : Bool :=
  decide ((2 * k.cfg.heatLimit : Int) ≤ t) ||
  (match k.lastTemp with
   | some l => decide (now - l.time ≤ seconds 1800) && decide (l.tHalf + 2 * (k.cfg.riseLimit : Int) ≤ t)
   | none => false)

/-- A valid conversion (R23, R66, R67): status VALID, the judgement against the last valid temperature as it stood,
then the replacement. -/
def State.temperatureValid (s : State) (c : Nat) (k : Container) (t : Int) (clamped : Bool) : State :=
  let s1 := s.updContainer c fun x => { x with tempStatus := .valid }
  let s2 := if k.hot = false ∧ k.heatCondition t s.now = true then s1.becomeHot c else s1
  s2.updContainer c fun x => { x with lastTemp := some ⟨t, clamped, s.now⟩ }

/-! ## The end of a pair -/

/-- A failed VERIFY attempt, or the end of any other failed pair (R36 to R38). -/
def State.endFailedPair (s : State) (c : Nat) : State :=
  match s.containers[c]? with
  | none => s
  | some k =>
    if k.pair.cls = some .verify then
      if k.pair.attempt.getD 1 < 3 then
        s.updContainer c fun x =>
          { x with pair := { Pair.idle with stage := .firstQueued, cls := some .verify, entry := some s.now,
                                            attempt := some (k.pair.attempt.getD 1 + 1) } }
      else (s.updContainer c fun x => { x with pair := .idle }).endUnverified c .verifyFailed
    else s.updContainer c fun x => { x with pair := .idle }

/-- The level status that a raised miss count gives (R36). -/
def Container.countMiss (k : Container) : Container :=
  { k with
    misses := saturate 4 (k.misses + 1)
    levelStatus := if 4 ≤ k.misses + 1 then .sensorFault else k.levelStatus }

/-- The pair of container c ends as a miss (R36). -/
def State.pairMiss (s : State) (c : Nat) (k : Container) : State :=
  ((s.updContainer c Container.countMiss).raiseIf
    (decide (4 ≤ k.misses + 1 ∧ k.levelStatus ≠ .sensorFault)) .sensor).endFailedPair c

/-- The level status that a raised mismatch count gives (R37). -/
def Container.countMismatch (k : Container) : Container :=
  { k with
    mismatches := saturate 6 (k.mismatches + 1)
    misses := 0
    levelStatus := if 6 ≤ k.mismatches + 1 then .unsure else k.levelStatus }

/-- The pair of container c ends as a mismatch (R37). -/
def State.pairMismatch (s : State) (c : Nat) (k : Container) : State :=
  ((s.updContainer c Container.countMismatch).raiseIf
    (decide (6 ≤ k.mismatches + 1 ∧ k.levelStatus ≠ .unsure)) .sensor).endFailedPair c

/-! ## Adoption -/

/-- What every adoption does to the counts, the level status and the stage (R28, R39). -/
def Container.adoptCounts (k : Container) : Container :=
  { k with misses := 0, mismatches := 0, levelStatus := .good, pair := .idle }

/-- The level of a reading at a clock time (R52). -/
def Reading.toLevel (r : Reading) (clock : Nat) : Level :=
  { height := r.height, volume := r.volume, perMille := r.perMille, tHalf := r.tHalf, time := clock, assumed := false }

/-- Adoption of a SCHEDULED or DEMAND pair (R52). -/
def Container.adopt (k : Container) (r : Reading) (clock : Nat) : Container :=
  { k.adoptCounts with level := some (r.toLevel clock), added := 0 }

/-- A verifying reading finds the container empty (R53). -/
def Container.judgedEmpty (k : Container) (r : Reading) : Bool :=
  !r.near && decide (k.cfg.floor - r.distance ≤ k.cfg.floorBand)

/-- Adoption of a VERIFY pair with floor recalibration (R53). -/
def Container.adoptVerify (k : Container) (r : Reading) (clock : Nat) : Container :=
  if k.judgedEmpty r then
    { k.adoptCounts with
      level := some { height := 0, volume := 0, perMille := 0, tHalf := r.tHalf, time := clock, assumed := false }
      added := 0, floorRef := min r.distance k.cfg.floor, residue := false }
  else { k.adoptCounts with level := some (r.toLevel clock), added := 0, residue := true }

/-- The per-mille that a VERIFY adoption writes (R53, R146). -/
def Container.verifiedPerMille (k : Container) (r : Reading) : Nat := if k.judgedEmpty r then 0 else r.perMille

/-- The pair of container c agrees (R39): adoption by class, and the end of the emptying for VERIFY (R146). -/
def State.adoptPair (s : State) (c : Nat) (k : Container) (r : Reading) : State :=
  if k.pair.cls = some .verify then
    ((s.updContainer c fun x => x.adoptVerify r s.clock.count).raise .level).finishEmptying c
      (some (k.verifiedPerMille r)) true .verified
  else ((s.updContainer c fun x => x.adopt r s.clock.count).raise .level).evaluate c

/-- |H2 − H1| is at most the confirmation band (R28). -/
def agrees (band h1 h2 : Nat) : Bool := decide (h1 - h2 ≤ band ∧ h2 - h1 ≤ band)

/-- A completed first measurement (R27). -/
def State.firstDone (s : State) (c : Nat) (k : Container) (r : Option Reading) : State :=
  match r with
  | none => s.pairMiss c k
  | some r =>
    s.updContainer c fun x =>
      { x with pair := { x.pair with stage := .awaitSecond, first := some r.height, spacing := some (s.now + seconds 2) } }

/-- A completed second measurement (R28). -/
def State.secondDone (s : State) (c : Nat) (k : Container) (r : Option Reading) : State :=
  match r with
  | none => s.pairMiss c k
  | some r =>
    if agrees k.cfg.confirmBand (k.pair.first.getD 0) r.height then s.adoptPair c k r else s.pairMismatch c k

/-! ## Completion -/

/-- The end of the conversion (R20): its gate time and its result enter the run record. -/
def Run.convert (r : Run) (conv : Conversion) : Run :=
  { r with gate := conversionGate conv, result := some (conversionResult conv) }

/-- The temperature that a conversion's result gives through the station's table, with its clamped marker; none for a
fault (R22, R40, R43). -/
def State.resultTemp (s : State) (result : Option ConversionResult) : Option (Int × Bool) :=
  match result with
  | none | some .openCircuit | some .shortCircuit | some .referenceOverrun => none
  | some (.valid ns) => some (temperature ((s.store.running.map StationConfig.thermistor).getD []) (thermistorRatio ns))

/-- Step 1 of a completion (R22): temperature status and heat watch. -/
def State.takeTemperature (s : State) (c : Nat) (k : Container) (temp : Option (Int × Bool)) : State :=
  match temp with
  | none => s.temperatureFault c k
  | some (t, clamped) => s.temperatureValid c k t clamped

/-- Step 2 of a completion (R22, R40): the reading, or none for a miss or BEYOND. -/
def State.completionReading (s : State) (k : Container) (temp : Option (Int × Bool)) (echo : EchoSignal) :
    Option Reading :=
  (echoCapture k.cfg.blanking echo).bind fun tb =>
    reading (s.shapeOf k) k.cfg.blanking k.floorRef ((temp.map Prod.fst).getD substituteTHalf) tb.1 tb.2

/-- The completion of a measurement that is not detached, in the order of R22, from the result that its run record
keeps. -/
def State.takeResult (s : State) (r : Run) (echo : EchoSignal) : State :=
  match s.containers[r.container]? with
  | none => s
  | some k =>
    let temp := s.resultTemp r.result
    let s1 := s.takeTemperature r.container k temp
    let k1 := (s1.containers[r.container]?).getD k
    let rd := s.completionReading k temp echo
    if r.second then s1.secondDone r.container k1 rd else s1.firstDone r.container k1 rd

/-- The completion of the running measurement (R22). The conversion has ended before it and its result stands in the run
record (R20); then the front end frees, the result is dealt with or, for a detached run, discarded whole, and the
arbiter may start the next (R30). -/
def State.takeCompletion (s : State) (conv : Conversion) (echo : EchoSignal) : State :=
  match s.run with
  | none => s
  | some r =>
    let s1 := { s with run := none }
    (if r.detached then s1 else s1.takeResult (r.convert conv) echo).arbitrate

end Sys2Proof.Machine
end

