-- ==== Sys2Proof/Machine/Operands.lean ====
section
/-! DEFINITION. The operand forms of the requests: parameter fields, and the card entry layout (R94, R158, R169). -/

namespace Sys2Proof.Machine

/-- The unsigned integer in `size` parameter bytes from an offset (R169). -/
def field (ps : List Byte) (offset size : Nat) : Nat := unbe ((ps.drop offset).take size)

/-- The first parameter byte, as a number. -/
def param0 (ps : List Byte) : Nat := field ps 0 1

/-- The kind a card kind code names (R169). -/
def cardKindOf : Nat → Option CardKind
  | 0 => some .resident
  | 1 => some .temporary
  | 2 => some .service
  | _ => none

/-- Whether a card status code names BLOCKED, if it names a status (R169). -/
def cardStatusOf : Nat → Option Bool
  | 0 => some false
  | 1 => some true
  | _ => none

/-- The expiry carried in the four bytes at offset 14; 0 is absent (R169). -/
def carriedExpiry (bs : List Byte) : Option Nat :=
  let e := field bs 14 4
  if e = 0 then none else some e

/-- Whether the presence of an expiry fits the kind (R94). -/
def expiryFits (kind : CardKind) (expiry : Option Nat) : Bool :=
  match kind with
  | .temporary => expiry.isSome
  | .resident | .service => expiry.isNone

/-- The card entry that 18 bytes carry, or none when a field fails R94. The used count and overflow count are not
taken from the request: the entry starts with both at 0. -/
def carriedCard (bs : List Byte) : Option Card :=
  match cardKindOf (field bs 7 1), cardStatusOf (field bs 8 1) with
  | some kind, some blocked =>
    if field bs 0 5 = 0 ∨ field bs 5 2 = 0 ∨ expiryFits kind (carriedExpiry bs) = false then none
    else some
      { number := field bs 0 5, household := field bs 5 2, kind := kind, blocked := blocked,
        rights := BitVec.ofNat 8 (field bs 9 1), quota := field bs 10 1, used := 0, overflow := 0,
        expiry := carriedExpiry bs }
  | _, _ => none

end Sys2Proof.Machine
end

