-- ==== Sys2Proof/Machine/Image.lean ====
section
/-! DEFINITION. The configuration image: its layout, the judgement of structural faults and the clamping of numeric
settings (R3, R42, R48, R71, R131, R173, R174). -/

namespace Sys2Proof.Machine

/-- A signed number brought to the nearer limit of a range (R174). -/
def clampInt (lo hi n : Int) : Int := max lo (min n hi)

/-- One container block of 16 bytes, clamped; none for a fraction above 7 (R173, R174). -/
def containerBlock (bs : List Byte) : Option ContainerSettings :=
  let f := field bs 0 1
  if h : f < 8 then
    let floor := clamp 300 4000 (field bs 2 2)
    let due := clamp 100 990 (field bs 10 2)
    some
      { fraction := ⟨f, h⟩, shape := field bs 1 1, floor := floor,
        blanking := min (clamp 150 600 (field bs 4 2)) (floor - 100),
        floorBand := clamp 20 200 (field bs 6 1), confirmBand := clamp 10 255 (field bs 7 1),
        pingMinutes := clamp 5 1440 (field bs 8 2), dueAt := due, fullAt := clamp due 1000 (field bs 12 2),
        heatLimit := clamp 40 90 (field bs 14 1), riseLimit := clamp 4 40 (field bs 15 1), bound := [] }
  else none

/-- The noise-reject width a code names; codes above 3 become 64 ms (R174). -/
def rejectWidthOf : Nat → RejectWidth
  | 0 => .off
  | 1 => .ms4
  | 2 => .ms16
  | _ => .ms64

/-- One inlet block of 8 bytes, clamped (R173, R174). -/
def inletBlock (bs : List Byte) : InletSettings :=
  { container := field bs 0 1, nominal := clamp 0 250 (field bs 1 1), windowSeconds := clamp 3 60 (field bs 2 1),
    limitSeconds := clamp 30 300 (field bs 3 2), activeHigh := decide (field bs 5 1 ≠ 0),
    width := rejectWidthOf (field bs 6 1), reader := decide (field bs 7 1 ≠ 0) }

/-- `n` container blocks from the front of a run of bytes. -/
def containerBlocks : Nat → List Byte → Option (List ContainerSettings)
  | 0, _ => some []
  | n + 1, bs =>
    match containerBlock (bs.take 16), containerBlocks n (bs.drop 16) with
    | some k, some ks => some (k :: ks)
    | _, _ => none

/-- `n` inlet blocks from the front of a run of bytes. -/
def inletBlocks : Nat → List Byte → List InletSettings
  | 0, _ => []
  | n + 1, bs => inletBlock (bs.take 8) :: inletBlocks n (bs.drop 8)

/-- `n` thermistor points, each T_half clamped to −80..160 (R42). -/
def thermistorPoints : Nat → List Byte → List (Nat × Int)
  | 0, _ => []
  | n + 1, bs => (field bs 0 2, clampInt (-80) 160 (unbeSigned ((bs.drop 2).take 2))) :: thermistorPoints n (bs.drop 4)

/-- `n` shape points. -/
def shapePoints : Nat → List Byte → List (Nat × Nat)
  | 0, _ => []
  | n + 1, bs => (field bs 0 2, field bs 2 2) :: shapePoints n (bs.drop 4)

/-- `n` shape tables and the bytes after them; none for a point count outside 2 to 12. -/
def shapeTables : Nat → List Byte → Option (List (List (Nat × Nat)) × List Byte)
  | 0, bs => some ([], bs)
  | n + 1, bs =>
    let points := field bs 0 1
    if points < 2 ∨ 12 < points then none
    else match shapeTables n (bs.drop (1 + 4 * points)) with
      | some (ts, rest) => some (shapePoints points (bs.drop 1) :: ts, rest)
      | none => none

/-- `n` vehicle entries. -/
def vehicleEntries : Nat → List Byte → List Vehicle
  | 0, _ => []
  | n + 1, bs => ⟨field bs 0 2, BitVec.ofNat 8 (field bs 2 1)⟩ :: vehicleEntries n (bs.drop 3)

/-- A shape table obeys R48: first point (0, 0), both columns strictly ascending, no h above 4,000, capacity at
least 100 L. -/
def shapeValid (t : List (Nat × Nat)) : Bool :=
  decide (t.head? = some (0, 0)) && decide (t.Pairwise fun x y => x.1 < y.1 ∧ x.2 < y.2) &&
  t.all (fun x => decide (x.1 ≤ 4000)) && decide (100 ≤ shapeCapacity t)

/-- A thermistor table obeys R42: no q of 0, q strictly descending, T_half strictly ascending after the clamping. -/
def thermistorValid (t : List (Nat × Int)) : Bool :=
  t.all (fun x => decide (x.1 ≠ 0)) && decide (t.Pairwise fun x y => y.1 < x.1 ∧ x.2 < y.2)

/-- The inlets bound to container c, ascending, counting from inlet n (R3). -/
def boundInlets (c : Nat) : Nat → List InletSettings → List Nat
  | _, [] => []
  | n, x :: xs => (if x.container = c then [n] else []) ++ boundInlets c (n + 1) xs

/-- The container settings with their lists of bound inlets, counting from container n (R3). -/
def withBound (inlets : List InletSettings) : Nat → List ContainerSettings → List ContainerSettings
  | _, [] => []
  | n, k :: ks => { k with bound := boundInlets n 0 inlets } :: withBound inlets (n + 1) ks

/-- The bytes that the counts and point counts give an image (R173). -/
def imageSize (containers inlets : Nat) (shapes : List (List (Nat × Nat))) (vehicles : Nat) : Nat :=
  7 + 10 + 16 * containers + 8 * inlets + 36 + (shapes.map fun t => 1 + 4 * t.length).sum + 3 * vehicles

/-- The blocks of an image after the header and station block, from the whole image's bytes, judged and clamped;
none for a structural fault (R174). -/
def judgeBlocks (img : List Byte) : Option StationConfig :=
  let nc := field img 7 1
  let ni := field img 8 1
  let ns := field img 15 1
  let nv := field img 16 1
  if nc = 0 ∨ 8 < nc ∨ ni = 0 ∨ 16 < ni ∨ 4 < ns ∨ 16 < nv then none
  else
    let body := img.drop 17
    let afterC := body.drop (16 * nc)
    let afterI := afterC.drop (8 * ni)
    match containerBlocks nc body, shapeTables ns (afterI.drop 36) with
    | some ks, some (shapes, rest) =>
      let inlets := inletBlocks ni afterC
      let table := thermistorPoints 9 afterI
      let vehicles := vehicleEntries nv rest
      let containers := withBound inlets 0 ks
      if img.length = imageSize nc ni shapes nv ∧
          ks.all (fun k => decide (k.shape < ns)) = true ∧
          inlets.all (fun x => decide (x.container < nc)) = true ∧
          containers.all (fun k => decide (1 ≤ k.bound.length ∧ k.bound.length ≤ 4)) = true ∧
          shapes.all shapeValid = true ∧ thermistorValid table = true ∧
          vehicles.all (fun v => decide (v.id ≠ 0)) = true then
        some
          { version := BitVec.ofNat 8 (field img 2 1), periodDays := clamp 1 31 (field img 9 1),
            dozePermitted := decide (field img 10 1 ≠ 0), dozeSeconds := clamp 1 60 (field img 11 1),
            queryWaitSeconds := clamp 1 10 (field img 12 1), queryEnabled := decide (field img 13 1 ≠ 0),
            fallbackOpen := BitVec.ofNat 8 (field img 14 1), containers := containers, inlets := inlets,
            thermistor := table, shapes := shapes, vehicles := vehicles }
      else none
    | _, _ => none

/-- The sum of the image's bytes from offset 7 to the last, modulo 65,536 (R169, R174). -/
def imageSum (img : List Byte) : Nat := ((img.drop 7).map BitVec.toNat).sum % 65536

/-- The judgement of the image in a serial memory: the clamped configuration of a valid image, none for an invalid
one (R174). Bytes after the image's length are not read. -/
def judgeImage (m : List Host.Cell) : Option StationConfig :=
  let header := readBytes m 0 7
  let length := field header 3 2
  if field header 0 1 ≠ 0x81 ∨ field header 1 1 ≠ 0x6E ∨ length < 17 ∨ 4096 < length then none
  else
    let img := readBytes m 0 length
    if imageSum img = field header 5 2 then judgeBlocks img else none

end Sys2Proof.Machine
end

