-- ==== Sys2Proof/Machine/Restarts.lean ====
section
/-! DEFINITION. The resets: power-on reset, warm restart, configuration restart, and the loss of power
(R2, R4, R17, R18, R33, R75, R95, R126, R150, R151, R160, R175, R177 to R180). -/

namespace Sys2Proof.Machine

/-! ## Records as a reset makes them -/

/-- A container record at power-on (R4). -/
def freshContainer (cfg : ContainerSettings) (seated : Bool) (now : Nat) : Container :=
  { cfg := cfg, state := .serving, seated := seated, seatHold := none, displaced := !seated, hot := false, note := none,
    level := none, levelStatus := .noReading, tempStatus := .none, lastTemp := none, added := 0, floorRef := cfg.floor,
    residue := false, misses := 0, mismatches := 0, full := false, pair := .idle, nextDue := now }

/-- The seat level that the lines show for container c (R7). -/
def seatLevel (l : FieldLines) (c : Nat) : Bool := l.seat.getLsbD c

/-- The lid level that the raw line of inlet i shows against its active level (R72). -/
def lidLevel (l : FieldLines) (i : Nat) (cfg : InletSettings) : Bool := l.lid.getLsbD i == cfg.activeHigh

/-- An inlet record at power-on and at a configuration restart (R75). -/
def freshInlet (cfg : InletSettings) (lidOpen : Bool) (now : Nat) : Inlet :=
  { cfg := cfg, state := .locked, window := none, windowTimer := none, serviceTimer := none, runOut := false,
    slot := none, query := none, lidOpen := lidOpen, rejectStart := none,
    lid := if lidOpen then some ⟨.uncounted, now⟩ else none
    limitTimer := if lidOpen then some (now + seconds cfg.limitSeconds) else none
    stuck := false, forced := 0, cycles := 0 }

/-- The container records at power-on, counting from container n. -/
def freshContainers (lines : FieldLines) (now : Nat) : Nat → List ContainerSettings → List Container
  | _, [] => []
  | n, g :: gs => freshContainer g (seatLevel lines n) now :: freshContainers lines now (n + 1) gs

/-- The inlet records at power-on, counting from inlet n. -/
def freshInlets (lines : FieldLines) (now : Nat) : Nat → List InletSettings → List Inlet
  | _, [] => []
  | n, g :: gs => freshInlet g (lidLevel lines n g) now :: freshInlets lines now (n + 1) gs

/-! ## Power -/

/-- What a loss of power leaves of the serial memory: the bytes of a block write under way stand in any state (R177). -/
def State.settledMemory (s : State) : List Host.Cell := tornMemory s.drawn s.store.memory s.store.writes

/-- Nothing survives a loss of power but the serial memory's contents (R175). The queue and the lines stand
outside the part. -/
def State.unpowered (s : State) (p : Power) : State :=
  { State.reset with
    power := p, lines := s.lines, store := { State.reset.store with memory := s.settledMemory }
    drawn := if s.store.writes = [] then s.drawn else s.drawn + 1
    pending := s.pending }

/-- The end of power-on reset (R175): the image is judged, and every block takes its power-on values. -/
def State.powerOnEnd (s : State) (lines : FieldLines) (carrier : Bool) : State :=
  let s0 : State :=
    { State.reset with
      lines := lines, store := { State.reset.store with memory := s.store.memory }
      lift := { State.reset.lift with carrier := carrier }
      drawn := s.drawn, pending := s.pending }
  match judgeImage s.store.memory with
  | none => s0
  | some g =>
    ({ s0 with
        store := { s0.store with running := some g }
        containers := freshContainers lines 0 0 g.containers
        inlets := freshInlets lines 0 0 g.inlets }).allDue.arbitrate

/-! ## Warm restart -/

/-- A port block at a restart (R160): a partial frame is discarded and counted, the receiver HUNTING, a request held
without a reply is let go, the flags cleared and the restart's own set. R155 and R160 do not say what becomes of a
running gap timer; the model stops it. DESIGN CHOICE, log entry 35. -/
def PortBlock.restarted (b : PortBlock) (flags : KindSet) : PortBlock :=
  { b with
    receiver := .hunting
    gap := none
    state := match b.state with
      | .holding _ _ => .free
      | .free => .free
      | .replying f => .replying f
    discarded := match b.receiver with
      | .receiving _ => saturate 255 (b.discarded + 1)
      | .hunting | .skipping => b.discarded
    flags := flags }

/-- The configuration store at a restart (R179): the writer released, a check abandoned, a write left to run on
without a reply. -/
def Store.restarted (st : Store) : Store :=
  { st with writes := st.writes.map fun w => { w with port := none }, writer := none, writerIdle := none, check := none }

/-- A container record at a warm restart (R4, R17, R33), before the due events. -/
def Container.warm (k : Container) (now : Nat) : Container :=
  { k with
    state := if k.state = .claimed ∨ k.state = .released then .serving else k.state
    seatHold := none
    pair := if k.state = .verifying then Pair.idle.request .verify now else .idle }

/-- An inlet record at a warm restart (R75). -/
def Inlet.warm (x : Inlet) (now : Nat) : Inlet :=
  { x with
    state := .locked, window := none, windowTimer := none, serviceTimer := none, runOut := false, slot := none
    query := none
    lid := if x.lidOpen then some ⟨.uncounted, now⟩ else none
    limitTimer := if x.lidOpen && !x.stuck then some (now + seconds x.cfg.limitSeconds) else none
    stuck := x.stuck && x.lidOpen }

/-- The emptying controller at a warm restart (R150): the claimed or released container, if any, gets RESTART. -/
def LiftController.warm (l : LiftController) (claimed : Option Nat) (clock : Nat) : LiftController :=
  { l with
    session := none, lidWait := none, releaseWait := none, carrierLoss := none
    last := match claimed with
      | some c => some ⟨c, .restart, clock⟩
      | none => l.last }

/-- The container in CLAIMED or RELEASED, if any. -/
def State.claimContainer (s : State) : Option Nat :=
  s.findContainer fun k => decide (k.state = .claimed ∨ k.state = .released)

/-- Seat reconciliation (R17, R33): each seat line is compared with the kept seat state, from container n on. The order
is left open; the model goes by ascending container number. DESIGN CHOICE, log entry 34. -/
def reconcileFrom (lines : FieldLines) : Nat → Nat → State → State
  | _, 0, s => s
  | n, k + 1, s => reconcileFrom lines (n + 1) k (s.takeSeat n (seatLevel lines n))

/-- The values of a warm restart in every block, before the due events (R160, R179). -/
def State.warmValues (s : State) : State :=
  { s with
    ports := s.ports.map fun b => b.restarted (kindSet .restart)
    store := s.store.restarted
    run := none
    containers := s.containers.map fun k => k.warm s.now
    outcomes := s.outcomes ++ slotOutcomes (fun _ => true) .noAnswer 0 s.inlets
    inlets := s.inlets.map fun x => x.warm s.now
    lift := s.lift.warm s.claimContainer s.clock.count
    wake := { s.wake with idleTimer := none } }

/-- A warm restart (R179): the values, the due events, the seat reconciliation, the arbiter (R33). -/
def State.warmRestart (s : State) : State :=
  (reconcileFrom s.lines 0 s.containers.length s.warmValues.allDue).arbitrate

/-! ## Configuration restart -/

/-- The container records at a configuration restart (R4, R18), counting from container n: a number configured before
keeps its service state and hot flag. -/
def rebuiltContainers (lines : FieldLines) (now : Nat) : Nat → List Container → List ContainerSettings → List Container
  | _, _, [] => []
  | n, [], g :: gs => freshContainer g (seatLevel lines n) now :: rebuiltContainers lines now (n + 1) [] gs
  | n, k :: ks, g :: gs =>
    { freshContainer g (seatLevel lines n) now with state := k.state, hot := k.hot } ::
      rebuiltContainers lines now (n + 1) ks gs

/-- A configuration restart with a new image's settings (R180). -/
def State.configRestart (s : State) (g : StationConfig) : State :=
  ({ s with
      ports := s.ports.map fun b => b.restarted (kindSet .restart ||| kindSet .config)
      store := { s.store.restarted with running := some g }
      run := none
      containers := rebuiltContainers s.lines s.now 0 s.containers g.containers
      outcomes := s.outcomes ++ slotOutcomes (fun _ => true) .noAnswer 0 s.inlets
      inlets := freshInlets s.lines s.now 0 g.inlets
      dueList := []
      cards := s.cards.rebase s.clock.count (s.store.running.map StationConfig.periodDays) g.periodDays
      lift := { s.lift.endSession with lidWait := none, releaseWait := none, last := none }
      wake := { s.wake with idleTimer := none } }).allDue.arbitrate

end Sys2Proof.Machine
end

