-- ==== Sys2Proof/Machine/Doze.lean ====
section
/-! DEFINITION. The wake controller: the idle conditions and timer, entering DOZE, held wake causes, waking
(R181 to R186). -/

namespace Sys2Proof.Machine

/-! ## Idle -/

/-- Doze is permitted by the running configuration (R176, R181). -/
def State.dozePermitted (s : State) : Bool := (s.store.running.map StationConfig.dozePermitted).getD false

/-- The doze idle time in seconds (R182). -/
def State.dozeSeconds (s : State) : Nat := (s.store.running.map StationConfig.dozeSeconds).getD 0

/-- A port block that does not hold off doze: HUNTING and FREE (R182). -/
def PortBlock.quiet (b : PortBlock) : Bool := decide (b.receiver = .hunting ∧ b.state = .free)

/-- The idle conditions of R182. -/
def State.idle (s : State) : Bool :=
  s.dozePermitted &&
  s.inlets.all (fun x => decide (x.state = .locked) && x.slot.isNone && x.query.isNone) &&
  s.lift.session.isNone && !s.lift.carrier &&
  s.containers.all (fun k => decide (k.pair.stage = .none)) &&
  s.ports.network.quiet && s.ports.vehicle.quiet && s.ports.service.quiet &&
  s.store.writer.isNone

/-- The idle timer after an event (R182): stopped unless the part is AWAKE and every condition holds; running on if it
ran; else started at its full length. -/
def State.nextIdleTimer (s : State) : Option Nat :=
  if s.attends = true ∧ s.idle = true then
    (match s.wake.idleTimer with
     | some t => some t
     | none => some (s.now + seconds s.dozeSeconds))
  else none

/-- The idle conditions are judged at the end of an event (R182; log entry 12). -/
def State.judgeIdle (s : State) : State := { s with wake := { s.wake with idleTimer := s.nextIdleTimer } }

/-! ## Doze -/

/-- The smaller of two moments, either of which may be absent. -/
def earlier : Option Nat → Option Nat → Option Nat
  | some a, some b => some (min a b)
  | some a, none => some a
  | none, b => b

/-- The moment the wake timer is set to (R183): the earliest next-due time or lid-open limit expiry. -/
def State.wakeMoment (s : State) : Option Nat :=
  earlier (s.containers.foldl (fun m k => earlier m (some k.nextDue)) none)
    (s.inlets.foldl (fun m x => earlier m x.limitTimer) none)

/-- The part enters DOZE (R182, R183): the receivers are powered down and the wake timer is set. -/
def State.enterDoze (s : State) : State :=
  { s with
    ports := s.ports.map fun b => { b with gap := none }
    wake := { state := .doze, idleTimer := none, wakeTimer := s.wakeMoment, settleEnd := none, held := [] } }

/-- The first wake cause that arrives in DOZE moves the part to WAKING, and the 2 ms of settling begin (R184). -/
def State.beginWaking (s : State) : State :=
  if s.wake.state = .doze then { s with wake := { s.wake with state := .waking, settleEnd := some (s.now + 2) } } else s

/-- A cause of which only one is held: a warm restart, the receive activity of a port (R183, R184, R186). -/
def HeldCause.once : HeldCause → Bool
  | .restart | .receive _ => true
  | .read .. | .lid .. | .seat .. | .carrier _ | .due _ | .limit _ => false

/-- A cause joins the held causes. -/
def addHeld (hs : List HeldCause) (h : HeldCause) : List HeldCause := if h.once && hs.contains h then hs else hs ++ [h]

/-- A wake cause is held for its block (R183, R184). -/
def State.hold (s : State) (h : HeldCause) : State :=
  let s1 := s.beginWaking
  { s1 with wake := { s1.wake with held := addHeld s1.wake.held h } }

/-- Several causes are held, in order. -/
def State.holdAll (s : State) (hs : List HeldCause) : State := hs.foldl State.hold s

/-- The due events whose moment has come, counting from container n (R183). -/
def dueCauses (now : Nat) : Nat → List Container → List HeldCause
  | _, [] => []
  | n, k :: ks => (if k.nextDue ≤ now then [.due n] else []) ++ dueCauses now (n + 1) ks

/-- The lid-open limit expiries whose moment has come, counting from inlet n (R183). -/
def limitCauses (now : Nat) : Nat → List Inlet → List HeldCause
  | _, [] => []
  | n, x :: xs => (if x.limitTimer.any (fun t => decide (t ≤ now)) then [.limit n] else []) ++ limitCauses now (n + 1) xs

/-- The due events and limit expiries whose moment has come and that are not held yet (R183, R185). -/
def State.comeCauses (s : State) : List HeldCause :=
  (dueCauses s.now 0 s.containers ++ limitCauses s.now 0 s.inlets).filter fun h => !s.wake.held.contains h

/-! ## What the debouncers last accepted -/

/-- The lid level that inlet i's debouncer last accepted: the last held lid event's, else the record's (R72, R185). -/
def State.debouncedLid (s : State) (i : Nat) (x : Inlet) : Bool :=
  s.wake.held.foldl (fun b h => match h with | .lid j o _ => if j = i then o else b | _ => b) x.lidOpen

/-- The seat level last accepted for container c (R7, R185). -/
def State.debouncedSeat (s : State) (c : Nat) (k : Container) : Bool :=
  s.wake.held.foldl (fun b h => match h with | .seat j o _ => if j = c then o else b | _ => b) k.seated

/-- The carrier level last seen: the last held edge's, else the followed one (R183). -/
def State.seenCarrier (s : State) : Bool :=
  s.wake.held.foldl (fun b h => match h with | .carrier o => o | _ => b) s.lift.carrier

/-! ## Taking a cause -/

/-- The lid-open limit timer of inlet i expires (R88). -/
def State.takeLimit (s : State) (i : Nat) : State :=
  (s.updInlet i fun x => { x with stuck := true, limitTimer := none }).raise .inlet

/-- A held limit expiry (R185): taken while the timer that the record holds has come to its moment, which is while the
lid is OPEN. A warm restart taken before it has started that timer afresh (R75), and the expiry is then dropped:
DESIGN CHOICE, log entry 38. -/
def State.takeHeldLimit (s : State) (i : Nat) : State :=
  match s.inlets[i]? with
  | some x => if x.limitTimer.any (fun t => decide (t ≤ s.now)) then s.takeLimit i else s
  | none => s

/-- A held due event (R31, R184): taken while the container's next-due time has come. A warm restart taken before it has
taken the due event and moved that time on (R33), and the held one is then dropped: DESIGN CHOICE, log entry 40. -/
def State.takeHeldDue (s : State) (c : Nat) : State :=
  match s.containers[c]? with
  | some k => if k.nextDue ≤ s.now then s.takeDueEvent c else s
  | none => s

/-- A change of the carrier-present line (R132, R135). While no session exists only the level is followed, in an UNCONFIGURED
part too (R132, R176): DEDUCED, log entry 25. -/
def State.takeCarrier (s : State) (present : Bool) : State :=
  if s.lift.carrier = present then s
  else
    { s with
      lift := { s.lift with
        carrier := present
        carrierLoss := if present then none else if s.lift.session.isSome then some (s.now + seconds 3) else none } }

/-- A port marked with receive activity starts in SKIPPING, its gap timer at 20 ms, its discarded count raised (R186). -/
def State.takeReceiveActivity (s : State) (p : Port) : State :=
  s.updPort p fun b =>
    { b with receiver := .skipping, gap := some (s.now + 20), discarded := saturate 255 (b.discarded + 1) }

/-- A held cause is taken by the block that owns it (R184, R185). A held seat change that comes after a warm restart which
read the line at the other level (R7, R17) still sets the seat state, and the line is then timed as a new change:
DESIGN CHOICE, log entry 39. -/
def State.takeCause (s : State) : HeldCause → State
  | .read i n => s.takeRead i n
  | .lid i true t => s.takeLidOpening i t
  | .lid i false t => s.takeLidClosing i t
  | .seat c b _ => s.takeSeat c b
  | .carrier p => s.takeCarrier p
  | .restart => s.warmRestart
  | .receive p => s.takeReceiveActivity p
  | .due c => s.takeHeldDue c
  | .limit i => s.takeHeldLimit i

/-- Two causes that must keep their order of arrival: the reads and lid events of one inlet, the seat changes of one
container, the edges of the carrier line (R185). -/
def sameOrigin : HeldCause → HeldCause → Bool
  | .read i _, .read j _ | .read i _, .lid j _ _ | .lid i _ _, .read j _ | .lid i _ _, .lid j _ _ => decide (i = j)
  | .seat c _ _, .seat d _ _ => decide (c = d)
  | .carrier _, .carrier _ => true
  | _, _ => false

/-- The cause that a choice k picks: the k-th held one, or the earliest of its origin. -/
def pickCause (k : Nat) (hs : List HeldCause) : Option HeldCause :=
  let h := (hs[k]?).orElse fun _ => hs.head?
  h.bind fun x => hs.find? fun y => decide (y = x) || sameOrigin y x

/-- The held causes are taken one after another in an order of the sender's choosing that keeps each origin's order
(R184, R185; log entry 9). `fuel` is their number. -/
def takeCauses : Nat → List Nat → List HeldCause → State → State
  | 0, _, _, s => s
  | fuel + 1, order, hs, s =>
    match pickCause (order.head?.getD 0) hs with
    | none => s
    | some h => takeCauses fuel order.tail (hs.erase h) (s.takeCause h)

/-- The part becomes AWAKE (R184): the receivers are powered and hunt, and every held cause is taken. -/
def State.awaken (s : State) (order : List Nat) : State :=
  let hs := s.wake.held ++ s.comeCauses
  let s1 : State :=
    { s with
      ports := s.ports.map fun b => { b with receiver := .hunting, gap := none }
      wake := { state := .awake, idleTimer := none, wakeTimer := none, settleEnd := none, held := [] } }
  (takeCauses hs.length order hs s1).arbitrate

end Sys2Proof.Machine
end

