-- ==== Sys2Proof/Machine/Lines.lean ====
section
/-! DEFINITION. The field lines and their debouncers: what a move of the lines begins, what a debouncer accepts, and what
an accepted change does (R7, R72). -/

namespace Sys2Proof.Machine

/-! ## Intervals -/

/-- The start of a debouncer's interval after a look at its line (R7, R72): a change to a level off the accepted one begins
the interval, again from its beginning; a change back to the accepted level abandons it; without a change it runs on. -/
def atChange (changed differs : Bool) (start : Option Nat) (now : Nat) : Option Nat :=
  if changed then (if differs then some now else none) else start

/-- The lid levels l show inlet n off its accepted level (R72). -/
def State.lidOff (s : State) (l : FieldLines) (n : Nat) (x : Inlet) : Bool := lidLevel l n x.cfg != s.debouncedLid n x

/-- The seat levels l show container n off its accepted level (R7). -/
def State.seatOff (s : State) (l : FieldLines) (n : Nat) (k : Container) : Bool := seatLevel l n != s.debouncedSeat n k

/-- The inlet records as the lid lines move to their new levels, counting from inlet n (R72). -/
def lidsMoved (s : State) (l : FieldLines) : Nat → List Inlet → List Inlet
  | _, [] => []
  | n, x :: xs =>
    { x with
      rejectStart := atChange (l.lid.getLsbD n != s.lines.lid.getLsbD n) (s.lidOff l n x) x.rejectStart s.now } ::
      lidsMoved s l (n + 1) xs

/-- The container records as the seat lines move to their new levels, counting from container n (R7). -/
def seatsMoved (s : State) (l : FieldLines) : Nat → List Container → List Container
  | _, [] => []
  | n, k :: ks =>
    { k with
      seatHold := atChange (l.seat.getLsbD n != s.lines.seat.getLsbD n) (s.seatOff l n k) k.seatHold s.now } ::
      seatsMoved s l (n + 1) ks

/-- The pins stand at these levels, and the interval of every line that changed begins again or is abandoned (R7, R72). -/
def State.withLines (s : State) (l : FieldLines) : State :=
  { s with lines := l, inlets := lidsMoved s l 0 s.inlets, containers := seatsMoved s l 0 s.containers }

/-- The raw lid line of inlet i stands off the accepted level (R72). -/
def State.lidDiffers (s : State) (i : Nat) (x : Inlet) : Bool := s.lidOff s.lines i x

/-- The seat line of container c stands off the accepted level (R7). -/
def State.seatDiffers (s : State) (c : Nat) (k : Container) : Bool := s.seatOff s.lines c k

/-- The reject interval in ms (R72). -/
def rejectMs : RejectWidth → Nat
  | .off => 0
  | .ms4 => 4
  | .ms16 => 16
  | .ms64 => 64

/-- An interval of a debouncer has run out. -/
def ranOut (now width : Nat) (start : Option Nat) : Bool :=
  decide (width = 0) || start.any fun t => decide (t + width ≤ now)

/-! ## Accepted changes -/

/-- A word with one bit set or cleared. -/
def putBit {w : Nat} (v : BitVec w) (i : Nat) (b : Bool) : BitVec w :=
  if b then v ||| BitVec.ofNat w (2 ^ i) else v &&& ~~~(BitVec.ofNat w (2 ^ i))

/-- The debouncer of inlet i accepts a lid level (R72): the raw line stands at it, the reject interval is over, and
the lid event is taken, or held until the part is awake (R185). -/
def State.acceptLid (s : State) (i : Nat) (toOpen : Bool) : State :=
  match s.inlets[i]? with
  | none => s
  | some x =>
    if s.debouncedLid i x = toOpen then s
    else
      let s1 := s.updInlet i fun y => { y with rejectStart := none }
      let s2 : State := { s1 with lines := { s1.lines with lid := putBit s1.lines.lid i (toOpen == x.cfg.activeHigh) } }
      if s.wake.state = .awake then (if toOpen then s2.takeLidOpening i s.now else s2.takeLidClosing i s.now)
      else s2.hold (.lid i toOpen s.now)

/-- A seat level is accepted for container c after its 200 ms hold (R7): the change is taken, or held (R185). -/
def State.acceptSeat (s : State) (c : Nat) (toSeated : Bool) : State :=
  match s.containers[c]? with
  | none => s
  | some k =>
    if s.debouncedSeat c k = toSeated then s
    else
      let s1 := s.updContainer c fun y => { y with seatHold := none }
      let s2 : State := { s1 with lines := { s1.lines with seat := putBit s1.lines.seat c toSeated } }
      if s.wake.state = .awake then (s2.takeSeat c toSeated).arbitrate else s2.hold (.seat c toSeated s.now)

/-! ## Changes that have stood out their interval -/

/-- The lid level that inlet n's debouncer accepts now, if any: the level its line has stood at for the reject interval;
with width OFF, the level its line stands at (R72). -/
def State.stoodLid (s : State) (n : Nat) (x : Inlet) : List (Nat × Bool) :=
  if s.lidDiffers n x && ranOut s.now (rejectMs x.cfg.width) x.rejectStart then [(n, lidLevel s.lines n x.cfg)] else []

/-- The seat level that is accepted for container n now, if any: the level its line has stood at for 200 ms (R7). -/
def State.stoodSeat (s : State) (n : Nat) (k : Container) : List (Nat × Bool) :=
  if s.seatDiffers n k && ranOut s.now 200 k.seatHold then [(n, seatLevel s.lines n)] else []

/-- What each record of a list gives, counting from n. -/
def eachOf {α β : Type} (f : Nat → α → List β) : Nat → List α → List β
  | _, [] => []
  | n, x :: xs => f n x ++ eachOf f (n + 1) xs

/-- Every change that has stood out its interval is accepted: the lids', then the seats', each in ascending number. -/
def State.acceptStood (s : State) : State :=
  (eachOf s.stoodSeat 0 s.containers).foldl (fun v e => v.acceptSeat e.1 e.2)
    ((eachOf s.stoodLid 0 s.inlets).foldl (fun v e => v.acceptLid e.1 e.2) s)

/-- The field lines move to these levels (R4, R17, R72; log entry 24): a change that has stood out its interval by then is
accepted first; then each debouncer takes the change of its line, and one whose width is OFF accepts it at once. -/
def State.moveLines (s : State) (l : FieldLines) : State := (s.acceptStood.withLines l).acceptStood

end Sys2Proof.Machine
end

