-- ==== Sys2Proof/Machine/Layouts.lean ====
section
/-! DEFINITION. The record layouts of the replies (R16, R65, R92, R110, R128, R149, R165, R167, R169): each field most
significant byte first, an absent value as 0 or as the all-ones value the layout names. -/

namespace Sys2Proof.Machine

/-! ## Codes (R169) -/

def serviceStateCode : ServiceState → Nat
  | .serving => 0
  | .claimed => 1
  | .released => 2
  | .lifted => 3
  | .verifying => 4
  | .suspended => 5

def levelStatusCode : LevelStatus → Nat
  | .noReading => 0
  | .good => 1
  | .unsure => 2
  | .sensorFault => 3

def tempStatusCode : TempStatus → Nat
  | .none => 0
  | .valid => 1
  | .fault => 2

def stageCode : Stage → Nat
  | .none => 0
  | .firstQueued => 1
  | .firstRunning => 2
  | .awaitSecond => 3
  | .secondQueued => 4
  | .secondRunning => 5

def classCode : Option PairClass → Nat
  | none => 0
  | some .scheduled => 1
  | some .demand => 2
  | some .verify => 3

def inletStateCode : InletState → Nat
  | .locked => 0
  | .unlocked => 1
  | .inUse => 2
  | .serviceOpen => 3

def lidCauseCode : Option LidCause → Nat
  | none => 0
  | some .window => 1
  | some .service => 2
  | some .forced => 3
  | some .uncounted => 4

def openingCauseCode : Option OpeningCause → Nat
  | none => 0
  | some .card => 1
  | some .anonymous => 2
  | some .service => 3

def cardKindCode : CardKind → Nat
  | .resident => 0
  | .temporary => 1
  | .service => 2

def outcomeCode : ReadOutcome → Nat
  | .accept => 0
  | .busy => 1
  | .fault => 2
  | .suspended => 3
  | .hot => 4
  | .emptying => 5
  | .unknown => 6
  | .blocked => 7
  | .expired => 8
  | .noRight => 9
  | .full => 10
  | .quota => 11
  | .noAnswer => 12

def liftEndingCode : LiftEnding → Nat
  | .lidTimeout => 1
  | .releaseTimeout => 2
  | .cancelled => 3
  | .carrierLost => 4
  | .hot => 5
  | .displaced => 6
  | .restart => 7
  | .verified => 8
  | .verifyFailed => 9
  | .verifyUnseated => 10

/-- A marker byte: 1 set, 0 clear. -/
def markerCode (b : Bool) : Nat := if b then 1 else 0

/-! ## Records -/

/-- The card entry, 18 bytes. -/
def cardBytes (k : Card) : List Byte :=
  be 5 k.number ++ be 2 k.household ++ be 1 (cardKindCode k.kind) ++ be 1 (markerCode k.blocked) ++
  be 1 k.rights.toNat ++ be 1 k.quota ++ be 1 k.used ++ be 2 k.overflow ++ be 4 (k.expiry.getD 0)

/-- The kind code and the seven bytes from offset 11 of a journal entry. -/
def journalBodyBytes : JournalBody → List Byte
  | .deposit card household _ => be 5 card ++ be 2 (household.getD 0)
  | .forced secs => be 2 secs ++ be 5 0
  | .emptying vehicle before after _ _ =>
    be 2 (vehicle.getD 0) ++ be 2 (before.getD 0xFFFF) ++ be 2 (after.getD 0xFFFF) ++ be 1 0

def journalKindCode : JournalBody → Nat
  | .deposit .. => 1
  | .forced .. => 2
  | .emptying .. => 3

/-- The markers byte of a journal entry: clock-unset, unverified, attended, verified. -/
def journalMarkers (e : JournalEntry) : Nat :=
  match e.body with
  | .deposit _ _ unverified => bitsByte [e.clockUnset, unverified, false, false]
  | .forced _ => bitsByte [e.clockUnset, false, false, false]
  | .emptying _ _ _ attended verified => bitsByte [e.clockUnset, false, attended, verified]

/-- The journal entry, 18 bytes. -/
def journalEntryBytes (e : JournalEntry) : List Byte :=
  be 4 e.seq ++ be 1 (journalKindCode e.body) ++ be 1 (journalMarkers e) ++ be 4 e.time ++ be 1 e.place ++
  journalBodyBytes e.body

/-- The container record reply, 34 bytes (R16). -/
def containerBytes (s : State) (c : Nat) (k : Container) : List Byte :=
  let lv := k.level.getD ⟨0, 0, 0, 0, 0, false⟩
  let cap := s.capacity k
  be 1 c ++ be 1 (serviceStateCode k.state) ++
  be 1 (bitsByte [k.seated, k.displaced, k.hot, k.full, k.residue, s.isDue c, k.level.isSome, lv.assumed]) ++
  be 1 (bitsByte [k.lastTemp.isSome, (k.lastTemp.map LastTemp.clamped).getD false]) ++
  be 1 (levelStatusCode k.levelStatus) ++ be 1 (tempStatusCode k.tempStatus) ++
  be 1 (stageCode k.pair.stage) ++ be 1 (classCode k.pair.cls) ++
  be 2 lv.height ++ be 2 lv.volume ++ be 2 lv.perMille ++ beSigned lv.tHalf ++ be 4 lv.time ++
  be 2 k.added ++ be 2 ((k.estimate cap).getD 0) ++ be 2 ((k.estimatePerMille cap).getD 0) ++
  be 2 k.floorRef ++ beSigned ((k.lastTemp.map LastTemp.tHalf).getD 0) ++
  be 2 ((k.lastTemp.map fun t => saturate 65535 ((s.now - t.time) / 1000)).getD 0) ++
  be 1 k.misses ++ be 1 k.mismatches

/-- The remaining time that Read Inlet reports: of the window timer in UNLOCKED, of the service timer in
SERVICE_OPEN (R92). -/
def inletSecondsLeft (s : State) (x : Inlet) : Nat :=
  match x.state with
  | .unlocked => (x.windowTimer.map s.secondsLeft).getD 0
  | .serviceOpen => (x.serviceTimer.map s.secondsLeft).getD 0
  | .locked | .inUse => 0

/-- The inlet record reply, 23 bytes (R92). -/
def inletBytes (s : State) (i : Nat) (x : Inlet) : List Byte :=
  be 1 i ++ be 1 x.cfg.container ++ be 1 x.cfg.nominal ++ be 1 (inletStateCode x.state) ++
  be 1 (bitsByte [s.inletLockReleased i, x.lidOpen, x.stuck, x.runOut, x.window.isSome,
    (x.window.map WindowRecord.unverified).getD false]) ++
  be 1 (lidCauseCode (x.lid.map LidOpen.cause)) ++ be 1 (openingCauseCode (x.window.map WindowRecord.cause)) ++
  be 5 ((x.window.bind WindowRecord.card).getD 0) ++ be 2 ((x.window.bind WindowRecord.household).getD 0) ++
  be 2 (inletSecondsLeft s x) ++ be 5 (x.slot.getD 0) ++ be 1 x.forced ++ be 1 x.cycles

/-- The inlets of container c that hold the release off, bit n for inlet n, counting from the given inlet. -/
def holdOffBits (c : Nat) : List Inlet → Nat
  | [] => 0
  | x :: xs => (if x.cfg.container = c ∧ x.holdsOff = true then 1 else 0) + 2 * holdOffBits c xs

/-- The seconds that Read Lift reports for the container being lifted (R149): 0 in LIFTED. -/
def liftSecondsLeft (s : State) (st : ServiceState) : Nat :=
  match st with
  | .claimed => (s.lift.lidWait.map s.secondsLeft).getD 0
  | .released => (s.lift.releaseWait.map s.secondsLeft).getD 0
  | .lifted | .serving | .verifying | .suspended => 0

/-- Offsets 10 to 15 of the lift reply. -/
def liftContainerBytes (s : State) : List Byte :=
  match s.liftContainer with
  | none => be 1 0xFF ++ be 1 0 ++ be 2 0 ++ be 2 0
  | some c =>
    let st := ((s.containers[c]?).map Container.state).getD .serving
    be 1 c ++ be 1 (serviceStateCode st) ++ be 2 (liftSecondsLeft s st) ++
    be 2 (if st = .claimed then holdOffBits c s.inlets else 0)

/-- The seven bytes of each VERIFYING container, counting from container n. -/
def verifyingBytes : Nat → List Container → List (List Byte)
  | _, [] => []
  | n, k :: ks =>
    let note := k.note.getD ⟨none, none, none⟩
    (if k.state = .verifying then
      [be 1 n ++ be 1 (k.pair.attempt.getD 0) ++ be 2 (note.before.getD 0xFFFF) ++ be 2 (note.vehicle.getD 0) ++
        be 1 (markerCode (note.attended.getD false))]
     else []) ++ verifyingBytes (n + 1) ks

/-- The lift reply, 23 bytes and 7 for each VERIFYING container (R149). -/
def liftBytes (s : State) : List Byte :=
  let l := s.lift
  let v := verifyingBytes 0 s.containers
  be 1 (bitsByte [l.session.isSome, l.carrier, l.last.isSome]) ++
  be 2 ((l.session.map Session.vehicle).getD 0) ++
  be 1 ((l.session.map fun x => x.fractions.toNat).getD 0) ++
  be 4 ((l.session.map Session.opened).getD 0) ++
  be 1 ((l.session.bind Session.claimed).getD 0xFF) ++
  be 1 ((l.carrierLoss.map s.secondsLeft).getD 0xFF) ++
  liftContainerBytes s ++
  be 1 ((l.last.map LiftResult.container).getD 0) ++
  be 1 ((l.last.map fun r => liftEndingCode r.ending).getD 0) ++
  be 4 ((l.last.map LiftResult.time).getD 0) ++
  be 1 v.length ++ v.flatten

/-- The status reply, 22 bytes (R165). -/
def statusBytes (s : State) (p : Port) : List Byte :=
  let b := s.port p
  be 1 (markerCode (!s.configured)) ++
  be 1 ((s.store.running.map fun g => g.version.toNat).getD 0) ++
  be 1 s.containers.length ++ be 1 s.inlets.length ++
  be 1 (markerCode s.cards.loaded) ++ be 2 s.cards.entries.length ++ be 1 (markerCode s.clock.set) ++
  be 2 s.journal.entries.length ++ be 2 s.journal.overflow ++ be 2 s.journal.lost ++
  be 1 (markerCode s.lift.session.isSome) ++ be 1 s.dueList.length ++
  be 1 ((s.store.writer.map portCode).getD 0xFF) ++
  be 2 b.flags.toNat ++ be 2 b.enabled.toNat ++ be 1 b.discarded

/-- One entry of the due list reply, 11 bytes (R65). -/
def dueEntryBytes (s : State) (e : DueEntry) : List Byte :=
  let k := s.containers[e.container]?
  be 1 e.container ++ be 4 e.reached ++ be 1 (markerCode e.clockUnset) ++ be 2 e.perMille ++
  be 2 ((k.bind fun x => x.estimatePerMille (s.capacity x)).getD 0) ++
  be 1 (markerCode ((k.map Container.full).getD false))

/-- The due list reply (R65). -/
def dueListBytes (s : State) : List Byte :=
  be 1 s.dueList.length ++ (s.dueList.map (dueEntryBytes s)).flatten

/-- The items of the pending queries, ascending inlet order, counting from inlet n (R110). -/
def queryItems (s : State) : Nat → List Inlet → List (List Byte)
  | _, [] => []
  | n, x :: xs =>
    (match x.query with
     | some q => [be 1 n ++ be 5 q.card ++ be 4 q.posted ++ be 1 (s.secondsLeft q.waitEnd)]
     | none => []) ++ queryItems s (n + 1) xs

/-- The queries reply (R110). -/
def queriesBytes (s : State) : List Byte :=
  let v := queryItems s 0 s.inlets
  be 1 v.length ++ v.flatten

/-- The clock reply (R172). -/
def clockBytes (s : State) : List Byte := be 4 s.clock.count ++ be 1 (markerCode s.clock.set)

end Sys2Proof.Machine
end

