-- ==== Sys2Proof/Machine/Requests.lean ====
section
/-! DEFINITION. The request index and the effect and reply of every request once its code, length, port and mode have
been judged (R157 to R159, and each request's own rule). A body is a function of the requesting port, the parameter
bytes and the state; the reply's payload is formed from the state its own effects left (R157). -/

namespace Sys2Proof.Machine

/-- The fifteen statuses (R159). -/
inductive Status where
  | ok
  | accepted
  | unknownRequest
  | badLength
  | outOfRange
  | notPermitted
  | unconfigured
  | busy
  | notNow
  | noSession
  | wrongFraction
  | hot
  | tableFull
  | tooLate
  | badImage
deriving DecidableEq, Repr

/-- The status codes (R159). -/
def statusCode : Status → Byte
  | .ok => 0x00
  | .accepted => 0x01
  | .unknownRequest => 0x10
  | .badLength => 0x11
  | .outOfRange => 0x12
  | .notPermitted => 0x13
  | .unconfigured => 0x14
  | .busy => 0x20
  | .notNow => 0x21
  | .noSession => 0x22
  | .wrongFraction => 0x23
  | .hot => 0x24
  | .tableFull => 0x25
  | .tooLate => 0x26
  | .badImage => 0x27

/-- How a carried-out request answers: with a reply now, or later, at a completion (R157). -/
inductive Answer where
  | reply (st : Status) (payload : List Byte)
  | later
deriving DecidableEq, Repr

/-- A row of the request index (R158): code, the ports that may send it, the allowed parameter byte counts as
ranges, and whether it is open while UNCONFIGURED. -/
structure IndexRow where
  code : Byte
  ports : List Port
  lengths : List (Nat × Nat)
  openMode : Bool
deriving DecidableEq, Repr

/-- A parameter byte count is one the index allows (R158). -/
def IndexRow.allows (r : IndexRow) (n : Nat) : Bool := r.lengths.any fun lh => decide (lh.1 ≤ n ∧ n ≤ lh.2)

/-- Cases 2 to 4 of R157: the status that refuses a request before it is carried out. -/
def IndexRow.refusal (r : IndexRow) (p : Port) (n : Nat) (configured : Bool) : Option Status :=
  if r.allows n = false then some .badLength
  else if r.ports.contains p = false then some .notPermitted
  else if configured = false ∧ r.openMode = false then some .unconfigured
  else none

/-- A request: its index row and its body. -/
structure Request where
  row : IndexRow
  body : Port → List Byte → State → State × Answer

/-- Any port may send the request. -/
def portsNVS : List Port := [.network, .vehicle, .service]
/-- The network and service ports may send the request. -/
def portsNS : List Port := [.network, .service]

/-- A reply with a status and no payload, and no effect. -/
def refuse (s : State) (st : Status) : State × Answer := (s, .reply st [])

/-- A reply OK without payload, after an effect. -/
def done (s : State) : State × Answer := (s, .reply .ok [])

/-! ## Ports -/

/-- Read Status (R165): the reply is formed first, then the port's discarded-frame count is set to 0. -/
def bodyReadStatus (p : Port) (_ps : List Byte) (s : State) : State × Answer :=
  (s.updPort p fun b => { b with discarded := 0 }, .reply .ok (statusBytes s p))

/-- Acknowledge Attention (R163). -/
def bodyAcknowledgeAttention (p : Port) (ps : List Byte) (s : State) : State × Answer :=
  let v := field ps 0 2
  if kindSetValid v then
    let s1 := s.updPort p fun b => { b with flags := b.flags &&& ~~~(BitVec.ofNat 12 v) }
    (s1, .reply .ok (be 2 (s1.port p).flags.toNat))
  else refuse s .outOfRange

/-- Set Attention Mask (R164): the HEAT position is not taken. -/
def bodySetAttentionMask (p : Port) (ps : List Byte) (s : State) : State × Answer :=
  let v := field ps 0 2
  if kindSetValid v then
    done (s.updPort p fun b => { b with mask := BitVec.ofNat 12 v &&& ~~~(kindSet .heat) })
  else refuse s .outOfRange

/-- Read Clock (R172). -/
def bodyReadClock (_p : Port) (_ps : List Byte) (s : State) : State × Answer := (s, .reply .ok (clockBytes s))

/-- Set Clock (R171). -/
def bodySetClock (_p : Port) (ps : List Byte) (s : State) : State × Answer :=
  done ({ s with clock := { count := field ps 0 4, set := true, next := s.now + 1000 } }).judgePeriod

/-- Restart (R179): a warm restart in the event that takes it, the reply once its values stand. -/
def bodyRestart (_p : Port) (_ps : List Byte) (s : State) : State × Answer := done s.warmRestart

/-- Write Image Block (R177): the write begins, and the reply waits for its completion. -/
def bodyWriteImageBlock (p : Port) (ps : List Byte) (s : State) : State × Answer :=
  let offset := field ps 0 2
  let data := ps.drop 2
  if memorySize < offset + data.length then refuse s .outOfRange
  else if s.store.check.isSome then refuse s .busy
  else if s.store.writer.any (fun w => decide (w ≠ p)) then refuse s .busy
  else
    ({ s with
        store := { s.store with
          writer := some p, writerIdle := some (s.now + seconds 60)
          writes := s.store.writes ++ [⟨offset, data, some p⟩] } }, .later)

/-- Apply Configuration (R178): the check begins, and the reply waits for its completion. -/
def bodyApplyConfiguration (p : Port) (_ps : List Byte) (s : State) : State × Answer :=
  if s.store.writer.any (fun w => decide (w ≠ p)) || s.store.check.any (fun w => decide (w ≠ p)) then refuse s .busy
  else
    ({ s with
        store := { s.store with
          check := some p
          writerIdle := if s.store.writer = some p then some (s.now + seconds 60) else s.store.writerIdle } }, .later)

/-! ## Containers, measurement, thresholds -/

/-- Read Container (R16). -/
def bodyReadContainer (_p : Port) (ps : List Byte) (s : State) : State × Answer :=
  match s.containers[param0 ps]? with
  | none => refuse s .outOfRange
  | some k => (s, .reply .ok (containerBytes s (param0 ps) k))

/-- Suspend Container (R14). -/
def bodySuspendContainer (_p : Port) (ps : List Byte) (s : State) : State × Answer :=
  match s.containers[param0 ps]? with
  | none => refuse s .outOfRange
  | some k =>
    if k.state = .serving then
      done ((s.updContainer (param0 ps) fun x => { x with state := .suspended }).endWindows (param0 ps))
    else refuse s .busy

/-- Resume Container (R15). -/
def bodyResumeContainer (_p : Port) (ps : List Byte) (s : State) : State × Answer :=
  match s.containers[param0 ps]? with
  | none => refuse s .outOfRange
  | some k =>
    if k.state = .suspended then done (s.updContainer (param0 ps) fun x => { x with state := .serving })
    else refuse s .notNow

/-- Measure Now (R34). -/
def bodyMeasureNow (_p : Port) (ps : List Byte) (s : State) : State × Answer :=
  match s.containers[param0 ps]? with
  | none => refuse s .outOfRange
  | some k => if k.unmeasured then refuse s .notNow else done (s.requestPair (param0 ps) .demand).arbitrate

/-- Read Due List (R65). -/
def bodyReadDueList (_p : Port) (_ps : List Byte) (s : State) : State × Answer := (s, .reply .ok (dueListBytes s))

/-- The container has cooled enough for Clear Heat (R70): status VALID and the last valid T_half at most
twice (L_h − 10). -/
def Container.cooled (k : Container) : Bool :=
  decide (k.tempStatus = .valid) &&
  k.lastTemp.any fun t => decide (t.tHalf ≤ 2 * ((k.cfg.heatLimit : Int) - 10))

/-- Clear Heat (R32, R70). -/
def bodyClearHeat (_p : Port) (ps : List Byte) (s : State) : State × Answer :=
  match s.containers[param0 ps]? with
  | none => refuse s .outOfRange
  | some k =>
    if k.hot = false then done s
    else if k.cooled then
      done ((s.updContainer (param0 ps) fun x =>
        { x with hot := false, nextDue := s.now + seconds (60 * x.cfg.pingMinutes) }).raise .heat)
    else refuse s .hot

/-! ## Inlets -/

/-- Read Inlet (R92). -/
def bodyReadInlet (_p : Port) (ps : List Byte) (s : State) : State × Answer :=
  match s.inlets[param0 ps]? with
  | none => refuse s .outOfRange
  | some x => (s, .reply .ok (inletBytes s (param0 ps) x))

/-- The inlet opens for service (R89). -/
def Inlet.openService (x : Inlet) (now : Nat) : Inlet :=
  { x.clearSlot with
    state := .serviceOpen, window := some ⟨.service, none, none, false⟩, serviceTimer := some (now + seconds 300)
    runOut := false }

/-- The bound container's state turns Open Inlet away (R89). -/
def State.inletBarred (s : State) (x : Inlet) : Bool :=
  s.inState x.cfg.container .claimed || s.inState x.cfg.container .released ||
  s.inState x.cfg.container .lifted || s.inState x.cfg.container .verifying

/-- Open Inlet (R89). -/
def bodyOpenInlet (_p : Port) (ps : List Byte) (s : State) : State × Answer :=
  match s.inlets[param0 ps]? with
  | none => refuse s .outOfRange
  | some x =>
    if s.inletBarred x then refuse s .notNow
    else match x.state with
      | .unlocked | .inUse => refuse s .busy
      | .serviceOpen =>
        done (s.updInlet (param0 ps) fun y => { y with serviceTimer := some (s.now + seconds 300), runOut := false })
      | .locked =>
        if x.lidOpen then refuse s .busy
        else
          let s1 := if x.slot.isSome then s.sendOutcome (param0 ps) .busy else s
          done (s1.updInlet (param0 ps) fun y => y.openService s.now)

/-! ## Cards -/

/-- Put Card's cases from the network port (R96). -/
def putNetwork (ps : List Byte) (s : State) : State × Answer :=
  match carriedCard ps with
  | none => refuse s .outOfRange
  | some new =>
    if s.cards.fullFor new.number then refuse s .tableFull else done { s with cards := s.cards.put new }

/-- The cases that Put Card from the service port checks first (R97). -/
def servicePutRefusal (ps : List Byte) (s : State) : Option Status :=
  if s.clock.set = false then some .notNow
  else if cardKindOf (field ps 7 1) ≠ some .temporary then some .notPermitted
  else if (findCard (field ps 0 5) s.cards.entries).any (fun k => decide (k.kind ≠ .temporary)) then some .notPermitted
  else if s.clock.count + 259200 < field ps 14 4 then some .outOfRange
  else none

/-- Put Card (R96, R97). -/
def bodyPutCard (p : Port) (ps : List Byte) (s : State) : State × Answer :=
  if p = .service then
    (match servicePutRefusal ps s with
     | some st => refuse s st
     | none => putNetwork ps s)
  else putNetwork ps s

/-- Remove Card (R98). -/
def bodyRemoveCard (_p : Port) (ps : List Byte) (s : State) : State × Answer :=
  let n := field ps 0 5
  if n = 0 then refuse s .outOfRange else done { s with cards := s.cards.remove n }

/-- Block Card (R99). -/
def bodyBlockCard (_p : Port) (ps : List Byte) (s : State) : State × Answer :=
  let n := field ps 0 5
  if n = 0 ∨ findCard n s.cards.entries = none then refuse s .outOfRange
  else done { s with cards := s.cards.block n }

/-- Clear Card Table (R100). -/
def bodyClearCardTable (_p : Port) (_ps : List Byte) (s : State) : State × Answer :=
  done { s with cards := { s.cards with entries := [], loaded := false } }

/-- Mark Table Loaded (R101). -/
def bodyMarkTableLoaded (_p : Port) (_ps : List Byte) (s : State) : State × Answer :=
  done { s with cards := { s.cards with loaded := true } }

/-- The entries above a card read cursor (R167). -/
def cardsAbove (cursor : Nat) (cs : List Card) : List Card := cs.filter fun k => decide (cursor < k.number)

/-- Read Cards (R167). -/
def bodyReadCards (p : Port) (_ps : List Byte) (s : State) : State × Answer :=
  let above := cardsAbove (s.port p).cardCursor s.cards.entries
  let taken := above.take 6
  (s.updPort p fun b => { b with cardCursor := (taken.getLast?.map Card.number).getD b.cardCursor },
   .reply .ok (be 1 (markerCode (decide (6 < above.length))) ++ be 1 taken.length ++ (taken.map cardBytes).flatten))

/-- Rewind Card Cursor (R168). -/
def bodyRewindCardCursor (p : Port) (_ps : List Byte) (s : State) : State × Answer :=
  done (s.updPort p fun b => { b with cardCursor := 0 })

/-- Read Queries (R110). -/
def bodyReadQueries (_p : Port) (_ps : List Byte) (s : State) : State × Answer := (s, .reply .ok (queriesBytes s))

/-- The parts of an Answer Card request (R111, R158): inlet, card number, verdict byte, and the carried entry's bytes. -/
structure AnswerParts where
  inlet : Nat
  card : Nat
  verdict : Nat
  entry : Option (List Byte)
deriving DecidableEq, Repr

/-- Answer Card's parameter bytes: 7, or 25 with an entry (R158). -/
def answerParts (ps : List Byte) : AnswerParts :=
  { inlet := param0 ps, card := field ps 1 5, verdict := field ps 6 1,
    entry := if ps.length = 25 then some (ps.drop 7) else none }

/-- A query matches an answer: the inlet named holds one for the card number named (R111). -/
def Inlet.matchesQuery (x : Inlet) (n : Nat) : Bool := x.query.any fun q => decide (q.card = n)

/-- The checks of R111 that refuse the request, in their order. -/
def answerRefusal (a : AnswerParts) (s : State) : Option Status :=
  if s.inlets.length ≤ a.inlet ∨ a.card = 0 ∨ 1 < a.verdict then some .outOfRange
  else match a.entry with
    | some bs =>
      if field bs 0 5 ≠ a.card then some .outOfRange
      else if carriedCard bs = none then some .outOfRange
      else if s.cards.fullFor a.card then some .tableFull
      else none
    | none =>
      if a.verdict = 1 ∧ (s.inlets[a.inlet]?).any (fun x => x.matchesQuery a.card) = true ∧
          findCard a.card s.cards.entries = none then some .outOfRange
      else none

/-- The carried entry, if any, joins or replaces (R111). -/
def addCarried (a : AnswerParts) (s : State) : State :=
  match a.entry.bind carriedCard with
  | some new => { s with cards := s.cards.put new }
  | none => s

/-- The verdict is applied to a matching query at inlet i, and the reply's payload carries the outcome (R111, R112). -/
def applyVerdict (a : AnswerParts) (x : Inlet) (s : State) : State × Answer :=
  if a.verdict = 0 then (s.refuseRead a.inlet .unknown, .reply .ok (be 1 (outcomeCode .unknown)))
  else match findCard a.card s.cards.entries with
    | some e => (s.allowRead a.inlet x e, .reply .ok (be 1 (outcomeCode (s.allowOutcome x e))))
    | none => refuse s .outOfRange

/-- Answer Card (R111 to R113). -/
def bodyAnswerCard (_p : Port) (ps : List Byte) (s : State) : State × Answer :=
  let a := answerParts ps
  match answerRefusal a s with
  | some st => refuse s st
  | none =>
    let s1 := addCarried a s
    match s1.inlets[a.inlet]? with
    | none => refuse s1 .tooLate
    | some x => if x.matchesQuery a.card then applyVerdict a x s1 else refuse s1 .tooLate

/-! ## Journal -/

/-- Read Journal (R128). -/
def bodyReadJournal (p : Port) (_ps : List Byte) (s : State) : State × Answer :=
  let j := s.journal
  let old := (s.port p).journalCursor
  let cursor := max old j.oldest
  let ahead := j.fromCursor cursor
  let taken := ahead.take 8
  (s.updPort p fun b => { b with journalCursor := (taken.getLast?.map fun e => e.seq + 1).getD cursor },
   .reply .ok (be 1 (bitsByte [decide (old < j.oldest), decide (8 < ahead.length)]) ++ be 4 j.oldest ++
     be 4 j.nextSeq ++ be 1 taken.length ++ (taken.map journalEntryBytes).flatten))

/-- Rewind Journal Cursor (R129). -/
def bodyRewindJournalCursor (p : Port) (_ps : List Byte) (s : State) : State × Answer :=
  done (s.updPort p fun b => { b with journalCursor := s.journal.oldest })

/-- Release Journal (R130). -/
def bodyReleaseJournal (_p : Port) (ps : List Byte) (s : State) : State × Answer :=
  let n := field ps 0 4
  if n < s.journal.oldest then done s
  else if s.journal.nextSeq ≤ n then refuse s .outOfRange
  else done { s with journal := s.journal.release n }

/-! ## Emptying sessions -/

/-- The fractions that the vehicle table admits an id with: an empty table admits every id with all eight (R131). -/
def admitted (table : List Vehicle) (id : Nat) : Option FractionSet :=
  if table = [] then some 0xFF else (table.find? fun v => decide (v.id = id)).map Vehicle.fractions

/-- The vehicle table of the running configuration (R131). -/
def State.vehicles (s : State) : List Vehicle := (s.store.running.map StationConfig.vehicles).getD []

/-- A session opens (R133, R135). -/
def State.openSession (s : State) (id : Nat) (fs : FractionSet) : State :=
  { s with
    lift := { s.lift with
      session := some ⟨id, fs, s.clock.count, none⟩
      carrierLoss := if s.lift.carrier then s.lift.carrierLoss else some (s.now + seconds 3) } }

/-- Announce (R133). -/
def bodyAnnounce (_p : Port) (ps : List Byte) (s : State) : State × Answer :=
  let id := field ps 0 2
  if id = 0 then refuse s .outOfRange
  else match s.lift.session with
    | some x => if x.vehicle = id then done s else refuse s .busy
    | none =>
      match admitted s.vehicles id with
      | some fs => done (s.openSession id fs)
      | none => refuse s .notPermitted

/-- End Session (R134). -/
def bodyEndSession (_p : Port) (_ps : List Byte) (s : State) : State × Answer :=
  match s.lift.session with
  | none => refuse s .noSession
  | some x =>
    match x.claimed with
    | none => done { s with lift := s.lift.endSession }
    | some c =>
      if s.inState c .claimed = true ∨ s.inState c .released = true then refuse s .busy
      else done (({ s with lift := s.lift.endSession }).raise .lift)

/-- The checks of Claim Lift, in order (R138). -/
def claimRefusal (c : Nat) (s : State) : Option Status :=
  match s.lift.session with
  | none => some .noSession
  | some x =>
    if x.claimed.isSome ∨ s.liftContainer.isSome then some .busy
    else match s.containers[c]? with
      | none => some .outOfRange
      | some k =>
        if x.fractions.getLsbD k.cfg.fraction = false then some .wrongFraction
        else if k.hot then some .hot
        else if k.state = .suspended ∨ k.state = .verifying ∨ k.displaced = true then some .notNow
        else none

/-- What an accepted claim does to a bound inlet (R139): its window or service opening ends, its query is dropped. -/
def Inlet.claimed (x : Inlet) : Inlet := x.endWindow.endService.clearSlot

/-- The session's claimed container is set and the lid wait runs (R139). -/
def LiftController.claim (l : LiftController) (c waitEnd : Nat) : LiftController :=
  { l with session := l.session.map (fun x => { x with claimed := some c }), lidWait := some waitEnd }

/-- An accepted Claim Lift (R139), and the release condition at its end (R140). -/
def State.acceptClaim (s : State) (c : Nat) : State :=
  let s1 := s.sendSlotOutcomes (fun x => decide (x.cfg.container = c)) .emptying
  let s2 := (s1.updContainer c fun k => { k with state := .claimed }).mapBoundInlets c Inlet.claimed
  ({ s2 with lift := s2.lift.claim c (s2.now + seconds 60) }).judgeRelease c

/-- Claim Lift (R138, R139). -/
def bodyClaimLift (_p : Port) (ps : List Byte) (s : State) : State × Answer :=
  match claimRefusal (param0 ps) s with
  | some st => refuse s st
  | none => (s.acceptClaim (param0 ps), .reply .accepted [])

/-- A container of the station is LIFTED or VERIFYING (R143). -/
def State.liftedOrVerifying (s : State) : Bool :=
  s.containers.any fun k => decide (k.state = .lifted ∨ k.state = .verifying)

/-- Cancel Lift (R143). -/
def bodyCancelLift (_p : Port) (_ps : List Byte) (s : State) : State × Answer :=
  match s.lift.session with
  | none => refuse s .noSession
  | some x =>
    match x.claimed with
    | some c =>
      if s.inState c .claimed = true ∨ s.inState c .released = true then done (s.endClaim c .cancelled)
      else refuse s .notNow
    | none => if s.liftedOrVerifying then refuse s .notNow else refuse s .noSession

/-- Read Lift (R149). -/
def bodyReadLift (_p : Port) (_ps : List Byte) (s : State) : State × Answer := (s, .reply .ok (liftBytes s))

/-! ## The index -/

/-- The one-byte parameter of a request that names a container or an inlet. -/
def oneByte : List (Nat × Nat) := [(1, 1)]
/-- No parameter bytes. -/
def noBytes : List (Nat × Nat) := [(0, 0)]

def reqReadStatus : Request := ⟨⟨0x01, portsNVS, noBytes, true⟩, bodyReadStatus⟩
def reqAcknowledgeAttention : Request := ⟨⟨0x02, portsNVS, [(2, 2)], false⟩, bodyAcknowledgeAttention⟩
def reqSetAttentionMask : Request := ⟨⟨0x03, portsNVS, [(2, 2)], false⟩, bodySetAttentionMask⟩
def reqReadClock : Request := ⟨⟨0x04, portsNVS, noBytes, true⟩, bodyReadClock⟩
def reqSetClock : Request := ⟨⟨0x05, [.network], [(4, 4)], true⟩, bodySetClock⟩
def reqRestart : Request := ⟨⟨0x06, portsNS, noBytes, true⟩, bodyRestart⟩
def reqWriteImageBlock : Request := ⟨⟨0x07, portsNS, [(3, 246)], true⟩, bodyWriteImageBlock⟩
def reqApplyConfiguration : Request := ⟨⟨0x08, portsNS, noBytes, true⟩, bodyApplyConfiguration⟩
def reqReadContainer : Request := ⟨⟨0x10, portsNVS, oneByte, false⟩, bodyReadContainer⟩
def reqSuspendContainer : Request := ⟨⟨0x11, portsNS, oneByte, false⟩, bodySuspendContainer⟩
def reqResumeContainer : Request := ⟨⟨0x12, portsNS, oneByte, false⟩, bodyResumeContainer⟩
def reqMeasureNow : Request := ⟨⟨0x13, portsNVS, oneByte, false⟩, bodyMeasureNow⟩
def reqReadDueList : Request := ⟨⟨0x14, portsNVS, noBytes, false⟩, bodyReadDueList⟩
def reqClearHeat : Request := ⟨⟨0x15, portsNS, oneByte, false⟩, bodyClearHeat⟩
def reqReadInlet : Request := ⟨⟨0x20, portsNVS, oneByte, false⟩, bodyReadInlet⟩
def reqOpenInlet : Request := ⟨⟨0x21, portsNS, oneByte, false⟩, bodyOpenInlet⟩
def reqPutCard : Request := ⟨⟨0x30, portsNS, [(18, 18)], false⟩, bodyPutCard⟩
def reqRemoveCard : Request := ⟨⟨0x31, [.network], [(5, 5)], false⟩, bodyRemoveCard⟩
def reqBlockCard : Request := ⟨⟨0x32, portsNS, [(5, 5)], false⟩, bodyBlockCard⟩
def reqClearCardTable : Request := ⟨⟨0x33, [.network], noBytes, false⟩, bodyClearCardTable⟩
def reqMarkTableLoaded : Request := ⟨⟨0x34, [.network], noBytes, false⟩, bodyMarkTableLoaded⟩
def reqReadCards : Request := ⟨⟨0x35, portsNVS, noBytes, false⟩, bodyReadCards⟩
def reqRewindCardCursor : Request := ⟨⟨0x36, portsNVS, noBytes, false⟩, bodyRewindCardCursor⟩
def reqReadQueries : Request := ⟨⟨0x37, portsNS, noBytes, false⟩, bodyReadQueries⟩
def reqAnswerCard : Request := ⟨⟨0x38, [.network], [(7, 7), (25, 25)], false⟩, bodyAnswerCard⟩
def reqReadJournal : Request := ⟨⟨0x40, portsNVS, noBytes, false⟩, bodyReadJournal⟩
def reqRewindJournalCursor : Request := ⟨⟨0x41, portsNVS, noBytes, false⟩, bodyRewindJournalCursor⟩
def reqReleaseJournal : Request := ⟨⟨0x42, [.network], [(4, 4)], false⟩, bodyReleaseJournal⟩
def reqAnnounce : Request := ⟨⟨0x50, [.vehicle], [(2, 2)], false⟩, bodyAnnounce⟩
def reqEndSession : Request := ⟨⟨0x51, [.vehicle], noBytes, false⟩, bodyEndSession⟩
def reqClaimLift : Request := ⟨⟨0x52, [.vehicle], oneByte, false⟩, bodyClaimLift⟩
def reqCancelLift : Request := ⟨⟨0x53, [.vehicle], noBytes, false⟩, bodyCancelLift⟩
def reqReadLift : Request := ⟨⟨0x54, portsNVS, noBytes, false⟩, bodyReadLift⟩

/-- Every request of the part (R158). -/
def requestIndex : List Request :=
  [reqReadStatus, reqAcknowledgeAttention, reqSetAttentionMask, reqReadClock, reqSetClock, reqRestart,
   reqWriteImageBlock, reqApplyConfiguration, reqReadContainer, reqSuspendContainer, reqResumeContainer,
   reqMeasureNow, reqReadDueList, reqClearHeat, reqReadInlet, reqOpenInlet, reqPutCard, reqRemoveCard,
   reqBlockCard, reqClearCardTable, reqMarkTableLoaded, reqReadCards, reqRewindCardCursor, reqReadQueries,
   reqAnswerCard, reqReadJournal, reqRewindJournalCursor, reqReleaseJournal, reqAnnounce, reqEndSession,
   reqClaimLift, reqCancelLift, reqReadLift]

/-- The request that a code names (R158). -/
def requestOf (code : Byte) : Option Request := requestIndex.find? fun r => decide (r.row.code = code)

end Sys2Proof.Machine
end

