-- ==== Sys2Proof/Machine/Receiver.lean ====
section
/-! DEFINITION. The frame receiver, the taking of a request, and the reply transmitter (R152 to R157, R186). -/

namespace Sys2Proof.Machine

/-! ## Taking a request -/

/-- The sending of a reply begins, and the port becomes REPLYING (R157). -/
def State.sendReply (s : State) (p : Port) (code tag : Byte) (st : Status) (payload : List Byte) : State :=
  s.updPort p fun b => { b with state := .replying (replyFrame code tag (statusCode st) payload) }

/-- The port takes the request and is HOLDING until its reply is sent (R157). -/
def State.holdPort (s : State) (p : Port) (code tag : Byte) : State :=
  s.updPort p fun b => { b with state := .holding code tag }

/-- The reply to a request that has been carried out begins, or waits (R157). -/
def answerRequest (p : Port) (code tag : Byte) (r : State × Answer) : State :=
  match r.2 with
  | .reply st payload => r.1.sendReply p code tag st payload
  | .later => r.1

/-- The port takes a request of the index in the event of its check byte (R157): cases 2 to 4 refuse it, else it is
carried out. -/
def Request.take (r : Request) (p : Port) (tag : Byte) (ps : List Byte) (s : State) : State :=
  let s1 := s.holdPort p r.row.code tag
  match r.row.refusal p ps.length s.configured with
  | some st => s1.sendReply p r.row.code tag st []
  | none => answerRequest p r.row.code tag (r.body p ps s1)

/-- A request whose code is not in the index: UNKNOWN_REQUEST, no record changed (R157, case 1). -/
def State.takeUnknown (s : State) (p : Port) (code tag : Byte) : State :=
  (s.holdPort p code tag).sendReply p code tag .unknownRequest []

/-- The port takes whatever request a good frame carries (R157). -/
def State.takeFrame (s : State) (p : Port) (code tag : Byte) (ps : List Byte) : State :=
  match requestOf code with
  | some r => r.take p tag ps s
  | none => s.takeUnknown p code tag

/-! ## Receiving -/

/-- The gap timer is started again at a byte (R155). -/
def State.startGap (s : State) (p : Port) : State := s.updPort p fun b => { b with gap := some (s.now + 20) }

/-- The receiver of a port becomes something else. -/
def State.setReceiver (s : State) (p : Port) (r : Receiver) : State := s.updPort p fun b => { b with receiver := r }

/-- A frame is discarded and counted, and the receiver goes to a state (R155, R156). -/
def State.discardFrame (s : State) (p : Port) (r : Receiver) : State :=
  s.updPort p fun b => { b with discarded := saturate 255 (b.discarded + 1), receiver := r }

/-- A further byte of a frame in RECEIVING (R155): `got` holds the bytes from the length byte on, the new one last. -/
def State.receiveFurther (s : State) (p : Port) (got : List Byte) : State :=
  match got with
  | [] => s
  | len :: rest =>
    if len.toNat < 2 ∨ 248 < len.toNat then s.discardFrame p .skipping
    else if rest.length ≤ len.toNat then s.setReceiver p (.receiving got)
    else match requestOfBody got with
      | some (code, tag, ps) => (s.setReceiver p .hunting).takeFrame p code tag ps
      | none => s.discardFrame p .hunting

/-- One byte arrives at a port (R155). -/
def State.receiveByte (s : State) (p : Port) (b : RxByte) : State :=
  let s1 := s.startGap p
  match (s.port p).receiver with
  | .skipping => s1
  | .hunting =>
    if b.framingError = false ∧ b.val = 0xA5 then
      (if (s.port p).state = .free then s1.setReceiver p (.receiving []) else s1.discardFrame p .skipping)
    else s1
  | .receiving got =>
    if b.framingError then s1.discardFrame p .skipping else s1.receiveFurther p (got ++ [b.val])

/-- The bytes of a run arrive one after another: what they leave, but for the idle timer. -/
def State.receiveBytes (s : State) (p : Port) (bs : List RxByte) : State := bs.foldl (fun t b => t.receiveByte p b) s

/-- The bytes of a run arrive one after another, each an event of its own (R155) at whose end the idle conditions are
judged (R182). -/
def State.receiveEvents (s : State) (p : Port) (bs : List RxByte) : State :=
  bs.foldl (fun t b => (t.receiveByte p b).judgeIdle) s

/-- A run of bytes on a receive line (R152, R186): received while the part is awake; lost, but marked as receive
activity, while it is not; lost without a trace while it has no power or its power-on reset has not ended. -/
def State.receiveRun (s : State) (p : Port) (bs : List RxByte) : State :=
  if s.power ≠ .running ∨ bs = [] then s
  else if s.wake.state = .awake then s.receiveEvents p bs
  else s.hold (.receive p)

/-- A whole good frame finds the port ready: the part awake, the receiver HUNTING, the port FREE (R155, R157). -/
def State.listening (s : State) (p : Port) : Bool :=
  s.attends && decide ((s.port p).receiver = .hunting ∧ (s.port p).state = .free)

/-- The request frame of a code, tag and parameters, as it stands on the receive line. -/
def lineFrame (code tag : Byte) (ps : List Byte) : List RxByte := (requestFrame code tag ps).map fun b => ⟨b, false⟩

/-- A request of the index arrives as one good frame: taken at a listening port; else its bytes meet the receiver as
they find it (R155). -/
def Request.arrive (r : Request) (p : Port) (tag : Byte) (ps : List Byte) (s : State) : State :=
  if s.listening p then r.take p tag ps (s.startGap p) else s.receiveRun p (lineFrame r.row.code tag ps)

/-! ## Gap and reply -/

/-- The gap timer of a port expires (R155). -/
def State.gapExpires (s : State) (p : Port) : State :=
  match (s.port p).receiver with
  | .hunting => s.updPort p fun b => { b with gap := none }
  | .receiving _ => (s.updPort p fun b => { b with gap := none }).discardFrame p .hunting
  | .skipping => s.updPort p fun b => { b with gap := none, receiver := .hunting }

/-- The stop bit of a reply's last byte is sent: REPLYING becomes FREE (R157). -/
def PortBlock.replySent (b : PortBlock) : PortBlock :=
  match b.state with
  | .replying _ => { b with state := .free }
  | .free | .holding _ _ => b

/-- The reply that a port HOLDING a request was waiting for begins (R177, R178). -/
def State.answerHeld (s : State) (p : Port) (held : PortState) (st : Status) : State :=
  match held with
  | .holding code tag => s.sendReply p code tag st []
  | .free | .replying _ => s

end Sys2Proof.Machine
end

