-- ==== Sys2Proof/Machine/PortCommands.lean ====
section
/-! DEFINITION. The meanings of the requests and of the port events: one definition for each row. -/

namespace Sys2Proof.Machine

/-- The outcome of a command. -/
abbrev CommandOutcome := Host.Outcome State Fault Refusal

/-- A command takes effect while the part is running (R175), and the idle conditions are judged at its end (R182).
Without power, or before power-on reset has ended, nothing is received, read or timed (R152, R175). -/
def whenRunning (s : State) (f : State → State) : CommandOutcome :=
  if s.power = .running then .next (f s).judgeIdle else .next s

/-! ## Requests -/

/-- READ_STATUS (R165). -/
def execReadStatus (p : Port) (tag : Byte) (ps : List Byte) (s : State) : CommandOutcome :=
  whenRunning s (reqReadStatus.arrive p tag ps)

/-- ACKNOWLEDGE_ATTENTION (R163). -/
def execAcknowledgeAttention (p : Port) (tag : Byte) (ps : List Byte) (s : State) : CommandOutcome :=
  whenRunning s (reqAcknowledgeAttention.arrive p tag ps)

/-- SET_ATTENTION_MASK (R164). -/
def execSetAttentionMask (p : Port) (tag : Byte) (ps : List Byte) (s : State) : CommandOutcome :=
  whenRunning s (reqSetAttentionMask.arrive p tag ps)

/-- READ_CLOCK (R172). -/
def execReadClock (p : Port) (tag : Byte) (ps : List Byte) (s : State) : CommandOutcome :=
  whenRunning s (reqReadClock.arrive p tag ps)

/-- SET_CLOCK (R171). -/
def execSetClock (p : Port) (tag : Byte) (ps : List Byte) (s : State) : CommandOutcome :=
  whenRunning s (reqSetClock.arrive p tag ps)

/-- RESTART (R179): the seat lines stand at the given levels when the request is taken. -/
def execRestart (p : Port) (tag : Byte) (ps : List Byte) (l : FieldLines) (s : State) : CommandOutcome :=
  whenRunning s fun s => reqRestart.arrive p tag ps (s.moveLines l)

/-- WRITE_IMAGE_BLOCK (R177). -/
def execWriteImageBlock (p : Port) (tag : Byte) (ps : List Byte) (s : State) : CommandOutcome :=
  whenRunning s (reqWriteImageBlock.arrive p tag ps)

/-- APPLY_CONFIGURATION (R178). -/
def execApplyConfiguration (p : Port) (tag : Byte) (ps : List Byte) (s : State) : CommandOutcome :=
  whenRunning s (reqApplyConfiguration.arrive p tag ps)

/-- READ_CONTAINER (R16). -/
def execReadContainer (p : Port) (tag : Byte) (ps : List Byte) (s : State) : CommandOutcome :=
  whenRunning s (reqReadContainer.arrive p tag ps)

/-- SUSPEND_CONTAINER (R14). -/
def execSuspendContainer (p : Port) (tag : Byte) (ps : List Byte) (s : State) : CommandOutcome :=
  whenRunning s (reqSuspendContainer.arrive p tag ps)

/-- RESUME_CONTAINER (R15). -/
def execResumeContainer (p : Port) (tag : Byte) (ps : List Byte) (s : State) : CommandOutcome :=
  whenRunning s (reqResumeContainer.arrive p tag ps)

/-- MEASURE_NOW (R34). -/
def execMeasureNow (p : Port) (tag : Byte) (ps : List Byte) (s : State) : CommandOutcome :=
  whenRunning s (reqMeasureNow.arrive p tag ps)

/-- READ_DUE_LIST (R65). -/
def execReadDueList (p : Port) (tag : Byte) (ps : List Byte) (s : State) : CommandOutcome :=
  whenRunning s (reqReadDueList.arrive p tag ps)

/-- CLEAR_HEAT (R70). -/
def execClearHeat (p : Port) (tag : Byte) (ps : List Byte) (s : State) : CommandOutcome :=
  whenRunning s (reqClearHeat.arrive p tag ps)

/-- READ_INLET (R92). -/
def execReadInlet (p : Port) (tag : Byte) (ps : List Byte) (s : State) : CommandOutcome :=
  whenRunning s (reqReadInlet.arrive p tag ps)

/-- OPEN_INLET (R89). -/
def execOpenInlet (p : Port) (tag : Byte) (ps : List Byte) (s : State) : CommandOutcome :=
  whenRunning s (reqOpenInlet.arrive p tag ps)

/-- PUT_CARD (R96, R97). -/
def execPutCard (p : Port) (tag : Byte) (ps : List Byte) (s : State) : CommandOutcome :=
  whenRunning s (reqPutCard.arrive p tag ps)

/-- REMOVE_CARD (R98). -/
def execRemoveCard (p : Port) (tag : Byte) (ps : List Byte) (s : State) : CommandOutcome :=
  whenRunning s (reqRemoveCard.arrive p tag ps)

/-- BLOCK_CARD (R99). -/
def execBlockCard (p : Port) (tag : Byte) (ps : List Byte) (s : State) : CommandOutcome :=
  whenRunning s (reqBlockCard.arrive p tag ps)

/-- CLEAR_CARD_TABLE (R100). -/
def execClearCardTable (p : Port) (tag : Byte) (ps : List Byte) (s : State) : CommandOutcome :=
  whenRunning s (reqClearCardTable.arrive p tag ps)

/-- MARK_TABLE_LOADED (R101). -/
def execMarkTableLoaded (p : Port) (tag : Byte) (ps : List Byte) (s : State) : CommandOutcome :=
  whenRunning s (reqMarkTableLoaded.arrive p tag ps)

/-- READ_CARDS (R167). -/
def execReadCards (p : Port) (tag : Byte) (ps : List Byte) (s : State) : CommandOutcome :=
  whenRunning s (reqReadCards.arrive p tag ps)

/-- REWIND_CARD_CURSOR (R168). -/
def execRewindCardCursor (p : Port) (tag : Byte) (ps : List Byte) (s : State) : CommandOutcome :=
  whenRunning s (reqRewindCardCursor.arrive p tag ps)

/-- READ_QUERIES (R110). -/
def execReadQueries (p : Port) (tag : Byte) (ps : List Byte) (s : State) : CommandOutcome :=
  whenRunning s (reqReadQueries.arrive p tag ps)

/-- ANSWER_CARD (R111 to R113). -/
def execAnswerCard (p : Port) (tag : Byte) (ps : List Byte) (s : State) : CommandOutcome :=
  whenRunning s (reqAnswerCard.arrive p tag ps)

/-- READ_JOURNAL (R128). -/
def execReadJournal (p : Port) (tag : Byte) (ps : List Byte) (s : State) : CommandOutcome :=
  whenRunning s (reqReadJournal.arrive p tag ps)

/-- REWIND_JOURNAL_CURSOR (R129). -/
def execRewindJournalCursor (p : Port) (tag : Byte) (ps : List Byte) (s : State) : CommandOutcome :=
  whenRunning s (reqRewindJournalCursor.arrive p tag ps)

/-- RELEASE_JOURNAL (R130). -/
def execReleaseJournal (p : Port) (tag : Byte) (ps : List Byte) (s : State) : CommandOutcome :=
  whenRunning s (reqReleaseJournal.arrive p tag ps)

/-- ANNOUNCE (R133). -/
def execAnnounce (p : Port) (tag : Byte) (ps : List Byte) (s : State) : CommandOutcome :=
  whenRunning s (reqAnnounce.arrive p tag ps)

/-- END_SESSION (R134). -/
def execEndSession (p : Port) (tag : Byte) (ps : List Byte) (s : State) : CommandOutcome :=
  whenRunning s (reqEndSession.arrive p tag ps)

/-- CLAIM_LIFT (R138, R139). -/
def execClaimLift (p : Port) (tag : Byte) (ps : List Byte) (s : State) : CommandOutcome :=
  whenRunning s (reqClaimLift.arrive p tag ps)

/-- CANCEL_LIFT (R143). -/
def execCancelLift (p : Port) (tag : Byte) (ps : List Byte) (s : State) : CommandOutcome :=
  whenRunning s (reqCancelLift.arrive p tag ps)

/-- READ_LIFT (R149). -/
def execReadLift (p : Port) (tag : Byte) (ps : List Byte) (s : State) : CommandOutcome :=
  whenRunning s (reqReadLift.arrive p tag ps)

/-- UNKNOWN_REQUEST_CODE (R157): a good frame with a code outside the index. A code of the index is carried out as
the request it names (log entry 22). -/
def execUnknownRequestCode (p : Port) (code tag : Byte) (ps : List Byte) (s : State) : CommandOutcome :=
  whenRunning s fun s =>
    if s.listening p then (s.startGap p).takeFrame p code tag ps else s.receiveRun p (lineFrame code tag ps)

/-! ## Port events -/

/-- BAD_FRAME (R155, R156): a run of received bytes meets the receiver byte by byte. -/
def execBadFrame (p : Port) (bs : List RxByte) (s : State) : CommandOutcome := whenRunning s fun s => s.receiveRun p bs

/-- GAP_TIMER_EXPIRY (R155): a stopped timer does not expire (R1). -/
def execGapTimerExpiry (p : Port) (s : State) : CommandOutcome :=
  whenRunning s fun s =>
    match (s.port p).gap with
    | some t => (s.advanceTo t).gapExpires p
    | none => s

/-- REPLY_SENT (R157). -/
def execReplySent (p : Port) (s : State) : CommandOutcome := whenRunning s fun s => s.updPort p PortBlock.replySent

end Sys2Proof.Machine
end

