-- ==== Sys2Proof/Machine/FieldCommands.lean ====
section
/-! DEFINITION. The meanings of the field events and of the timers of inlets, containers and the emptying controller: one
definition for each row. A timer's expiry moves the present time to the timer's moment (log entry 3); a timer that
does not run does not expire (R1). -/

namespace Sys2Proof.Machine

/-! ## Inlets -/

/-- CARD_READ (R76): taken while awake, else held by the reader interface (R185). -/
def execCardRead (i : Fin 16) (n : BitVec 40) (s : State) : CommandOutcome :=
  whenRunning s fun s =>
    if s.wake.state = .awake then s.takeRead i n.toNat
    else match s.inlets[i.val]? with
      | some x => if x.cfg.reader then s.hold (.read i n.toNat) else s
      | none => s

/-- QUERY_WAIT_EXPIRY (R109). -/
def execQueryWaitExpiry (i : Fin 16) (s : State) : CommandOutcome :=
  whenRunning s fun s =>
    match (s.inlets[i.val]?).bind Inlet.query with
    | some q => (s.advanceTo q.waitEnd).refuseRead i .noAnswer
    | none => s

/-- WINDOW_EXPIRY (R81). -/
def execWindowExpiry (i : Fin 16) (s : State) : CommandOutcome :=
  whenRunning s fun s =>
    match (s.inlets[i.val]?).bind Inlet.windowTimer with
    | some t => (s.advanceTo t).updInlet i Inlet.endWindow
    | none => s

/-- LID_OPENING (R72, R73, R83, R86, R90, R91). -/
def execLidOpening (i : Fin 16) (s : State) : CommandOutcome := whenRunning s fun s => s.acceptLid i true

/-- LID_CLOSING (R72, R73, R84, R87, R90, R91, R140). -/
def execLidClosing (i : Fin 16) (s : State) : CommandOutcome := whenRunning s fun s => s.acceptLid i false

/-- LID_OPEN_LIMIT_EXPIRY (R88): taken while awake, else held (R183, R185). -/
def execLidOpenLimitExpiry (i : Fin 16) (s : State) : CommandOutcome :=
  whenRunning s fun s =>
    match (s.inlets[i.val]?).bind Inlet.limitTimer with
    | some t =>
      let s1 := s.advanceTo t
      if s.wake.state = .awake then s1.takeLimit i
      else if s.wake.held.contains (.limit i) then s1 else s1.hold (.limit i)
    | none => s

/-- The service timer of an inlet expires (R90): with the lid CLOSED the opening ends, else the run-out marker sets. -/
def Inlet.serviceExpires (x : Inlet) : Inlet :=
  if x.lidOpen then { x with serviceTimer := none, runOut := true } else x.endService

/-- SERVICE_TIMER_EXPIRY (R90). -/
def execServiceTimerExpiry (i : Fin 16) (s : State) : CommandOutcome :=
  whenRunning s fun s =>
    match (s.inlets[i.val]?).bind Inlet.serviceTimer with
    | some t => (s.advanceTo t).updInlet i Inlet.serviceExpires
    | none => s

/-! ## Containers and measurement -/

/-- UNSEAT (R7 to R9, R147). -/
def execUnseat (c : Fin 8) (s : State) : CommandOutcome := whenRunning s fun s => s.acceptSeat c false

/-- RESEAT (R7, R10, R11). -/
def execReseat (c : Fin 8) (s : State) : CommandOutcome := whenRunning s fun s => s.acceptSeat c true

/-- DUE_EVENT (R31): taken while awake, else held (R183). -/
def execDueEvent (c : Fin 8) (s : State) : CommandOutcome :=
  whenRunning s fun s =>
    match s.containers[c.val]? with
    | some k =>
      let s1 := s.advanceTo k.nextDue
      if s.wake.state = .awake then (s1.takeDueEvent c).arbitrate
      else if s.wake.held.contains (.due c) then s1 else s1.hold (.due c)
    | none => s

/-- MEASUREMENT_COMPLETION (R22). -/
def execMeasurementCompletion (conv : Conversion) (echo : EchoSignal) (s : State) : CommandOutcome :=
  whenRunning s fun s => s.takeCompletion conv echo

/-- The spacing timer of a pair expires at a moment (R27). -/
def Pair.spacingExpires (p : Pair) (now : Nat) : Pair :=
  { p with stage := .secondQueued, spacing := none, entry := some now }

/-- SPACING_EXPIRY (R27). -/
def execSpacingExpiry (c : Fin 8) (s : State) : CommandOutcome :=
  whenRunning s fun s =>
    match (s.containers[c.val]?).bind fun k => k.pair.spacing with
    | some t =>
      let s1 := s.advanceTo t
      (s1.updContainer c fun k => { k with pair := k.pair.spacingExpires s1.now }).arbitrate
    | none => s

/-! ## Emptying controller -/

/-- The claim of the container in one state ends, or, if none is in it, the timer of that state just stops. -/
def State.endWait (s : State) (st : ServiceState) (e : LiftEnding) : State :=
  match s.findContainer fun k => decide (k.state = st) with
  | some c => s.endClaim c e
  | none => { s with lift := { s.lift with lidWait := none, releaseWait := none } }

/-- LID_WAIT_EXPIRY (R141). -/
def execLidWaitExpiry (s : State) : CommandOutcome :=
  whenRunning s fun s =>
    match s.lift.lidWait with
    | some t => (s.advanceTo t).endWait .claimed .lidTimeout
    | none => s

/-- RELEASE_WAIT_EXPIRY (R142). -/
def execReleaseWaitExpiry (s : State) : CommandOutcome :=
  whenRunning s fun s =>
    match s.lift.releaseWait with
    | some t => (s.advanceTo t).endWait .released .releaseTimeout
    | none => s

/-- CARRIER_CHANGE (R135): the line's new level is taken while awake, else held (R183). -/
def execCarrierChange (present : Bool) (s : State) : CommandOutcome :=
  whenRunning s fun s =>
    if s.wake.state = .awake then s.takeCarrier present
    else if s.seenCarrier = present then s else s.hold (.carrier present)

/-- A carrier loss (R136): a claim in CLAIMED or RELEASED is cancelled, the session ends, attention LIFT. -/
def State.loseCarrier (s : State) : State :=
  match s.lift.session with
  | none => { s with lift := { s.lift with carrierLoss := none } }
  | some x =>
    let s1 := match x.claimed with
      | some c => if s.inState c .claimed = true ∨ s.inState c .released = true then s.endClaim c .carrierLost else s
      | none => s
    ({ s1 with lift := s1.lift.endSession }).raise .lift

/-- CARRIER_LOSS (R136). -/
def execCarrierLoss (s : State) : CommandOutcome :=
  whenRunning s fun s =>
    match s.lift.carrierLoss with
    | some t => (s.advanceTo t).loseCarrier
    | none => s

end Sys2Proof.Machine
end

