-- ==== Sys2Proof/Machine/SystemCommands.lean ====
section
/-! DEFINITION. The meanings of the resets, of the supply, of the configuration store's completions, of the clock and of
the wake controller: one definition for each row. -/

namespace Sys2Proof.Machine

/-! ## Supply and resets -/

/-- POWER_ON_RESET (R175): power is applied, and power-on reset begins. -/
def execPowerOnReset (s : State) : CommandOutcome := .next (s.unpowered .starting)

/-- POWER_ON_RESET_END (R175): the image has been read and judged. It can come only while power-on reset lasts. The idle
conditions are judged in this event and may start the idle timer at once (R181, R182): DESIGN CHOICE, log entry 37. -/
def execPowerOnResetEnd (l : FieldLines) (carrier : Bool) (s : State) : CommandOutcome :=
  if s.power = .starting then .next (s.powerOnEnd l carrier).judgeIdle else .next s

/-- POWER_LOSS (R175, R177). -/
def execPowerLoss (s : State) : CommandOutcome := .next (s.unpowered .off)

/-- RESET_LINE_ASSERTION (R179): a warm restart, taken while awake, else held once (R183, R184). -/
def execResetLineAssertion (l : FieldLines) (s : State) : CommandOutcome :=
  whenRunning s fun s =>
    if s.wake.state = .awake then (s.moveLines l).warmRestart else (s.moveLines l).hold .restart

/-! ## Configuration store -/

/-- The oldest block write under way completes (R177): its bytes stand, and its port's reply is sent. -/
def State.completeWrite (s : State) : State :=
  match s.store.writes with
  | [] => s
  | w :: ws =>
    let s1 : State := { s with store := { s.store with memory := writeBytes s.store.memory w.offset w.data, writes := ws } }
    match w.port with
    | some p => s1.answerHeld p (s.port p).state .ok
    | none => s1

/-- WRITE_COMPLETION (R177). -/
def execWriteCompletion (s : State) : CommandOutcome := whenRunning s State.completeWrite

/-- The writer is released and its idle timer stopped (R177, R178). -/
def Store.releaseWriter (st : Store) : Store := { st with writer := none, writerIdle := none }

/-- WRITER_IDLE_EXPIRY (R177). -/
def execWriterIdleExpiry (s : State) : CommandOutcome :=
  whenRunning s fun s =>
    match s.store.writerIdle with
    | some t => { s.advanceTo t with store := s.store.releaseWriter }
    | none => s

/-- A container stands in CLAIMED, RELEASED, LIFTED or VERIFYING (R178). -/
def State.inHand (s : State) : Bool :=
  s.containers.any fun k =>
    decide (k.state = .claimed ∨ k.state = .released ∨ k.state = .lifted ∨ k.state = .verifying)

/-- The end of an Apply Configuration check from port p (R178). -/
def State.endCheck (s : State) (p : Port) (image : Option StationConfig) : State :=
  let held := (s.port p).state
  let s1 : State := { s with store := { s.store with check := none } }
  match image with
  | none => ({ s1 with store := s1.store.releaseWriter }).answerHeld p held .badImage
  | some g => if s1.inHand then s1.answerHeld p held .busy else (s1.configRestart g).answerHeld p held .ok

/-- APPLY_CHECK_COMPLETION (R178): the image and the station are judged as they then stand; bytes of a write still
under way may stand in any state (log entry 6). -/
def execApplyCheckCompletion (l : FieldLines) (s : State) : CommandOutcome :=
  whenRunning s fun s =>
    match s.store.check with
    | none => s
    | some p =>
      let s1 : State :=
        { s.moveLines l with drawn := if s.store.writes = [] then s.drawn else s.drawn + 1 }
      s1.endCheck p (judgeImage s.settledMemory)

/-! ## Clock -/

/-- The clock counts one second, stopping at its greatest count (R170). -/
def Clock.tick (c : Clock) : Clock := { c with count := saturate 4294967295 (c.count + 1), next := c.next + 1000 }

/-- CLOCK_COUNT (R170, R114): taken in every wake state. -/
def execClockCount (s : State) : CommandOutcome :=
  whenRunning s fun s => ({ s.advanceTo s.clock.next with clock := s.clock.tick }).judgePeriod

/-! ## Wake controller -/

/-- IDLE_TIMER_EXPIRY (R182, R183): it runs only while the part is AWAKE. -/
def execIdleTimerExpiry (s : State) : CommandOutcome :=
  whenRunning s fun s =>
    match s.wake.state, s.wake.idleTimer with
    | .awake, some t => (s.advanceTo t).enterDoze
    | _, _ => s

/-- The wake timer expires: what has come is held, and the part begins to wake (R183, R184). -/
def State.wakeExpires (s : State) (t : Nat) : State :=
  let s1 := (s.advanceTo t).beginWaking
  let s2 : State := { s1 with wake := { s1.wake with wakeTimer := none } }
  s2.holdAll s2.comeCauses

/-- WAKE_TIMER_EXPIRY (R183): the timer runs only while the part is not AWAKE. -/
def execWakeTimerExpiry (s : State) : CommandOutcome :=
  whenRunning s fun s =>
    match s.wake.state, s.wake.wakeTimer with
    | .doze, some t => s.wakeExpires t
    | .waking, some t => s.wakeExpires t
    | _, _ => s

/-- RECEIVE_ACTIVITY_IN_DOZE (R186): an edge on a receive line while the part is not AWAKE. -/
def execReceiveActivityInDoze (p : Port) (s : State) : CommandOutcome :=
  whenRunning s fun s => if s.wake.state = .awake then s else s.hold (.receive p)

/-- WAKE_SETTLING_END (R184, R185): the lines stand at the given levels, and the held causes that reach the same
state are taken in the given order (log entry 9). -/
def execWakeSettlingEnd (l : FieldLines) (order : List Nat) (s : State) : CommandOutcome :=
  whenRunning s fun s =>
    match s.wake.state, s.wake.settleEnd with
    | .waking, some t => ((s.advanceTo t).moveLines l).awaken order
    | _, _ => s

end Sys2Proof.Machine
end

