-- ==== Sys2Proof/Machine/Tick.lean ====
section
/-! DEFINITION. What a step does while no command waits (DESIGN CHOICE, log entry 2): the first timer or debouncer event
whose moment has come, or else one millisecond that passes, in which the debouncers watch their raw lines. -/

namespace Sys2Proof.Machine

/-! ## The debouncers -/

/-- The start of an interval after a look at a raw line: begun while the line stands off the accepted level, else
abandoned (R7, R72). -/
def watch (differs : Bool) (start : Option Nat) (now : Nat) : Option Nat :=
  if differs then some (start.getD now) else none

/-- The inlet records after a look at the lid lines, counting from inlet n. -/
def watchInlets (s : State) : Nat → List Inlet → List Inlet
  | _, [] => []
  | n, x :: xs => { x with rejectStart := watch (s.lidDiffers n x) x.rejectStart s.now } :: watchInlets s (n + 1) xs

/-- The container records after a look at the seat lines, counting from container n. -/
def watchContainers (s : State) : Nat → List Container → List Container
  | _, [] => []
  | n, k :: ks =>
    { k with seatHold := watch (s.seatDiffers n k) k.seatHold s.now } :: watchContainers s (n + 1) ks

/-- One millisecond passes on the monotonic timer, which counts only while the part is running (R175). -/
def State.tick (s : State) : State :=
  if s.power = .running then
    { s with
      inlets := watchInlets s 0 s.inlets
      containers := watchContainers s 0 s.containers
      now := s.now + 1 }
  else s

/-! ## What has come -/

/-- A timer's moment has come. -/
def come (now : Nat) (t : Option Nat) : Bool := t.any fun m => decide (m ≤ now)

/-- A command, if a condition holds. -/
def when (b : Bool) (c : Instr) : List Instr := if b then [c] else []

/-- The lid event that inlet n's debouncer accepts now, if any (R72). -/
def lidCommands (s : State) (n : Nat) (x : Inlet) : List Instr :=
  (s.stoodLid n x).map fun e => if e.2 then .lidOpening (Fin.ofNat 16 e.1) else .lidClosing (Fin.ofNat 16 e.1)

/-- The seat change that is accepted for container n now, if any (R7). -/
def seatCommands (s : State) (n : Nat) (k : Container) : List Instr :=
  (s.stoodSeat n k).map fun e => if e.2 then .reseat (Fin.ofNat 8 e.1) else .unseat (Fin.ofNat 8 e.1)

/-- The timers of inlet n that have come. -/
def inletCommands (s : State) (n : Nat) (x : Inlet) : List Instr :=
  when (come s.now (x.query.map CardQuery.waitEnd)) (.queryWaitExpiry (Fin.ofNat 16 n)) ++
  when (come s.now x.windowTimer) (.windowExpiry (Fin.ofNat 16 n)) ++
  when (come s.now x.serviceTimer) (.serviceTimerExpiry (Fin.ofNat 16 n)) ++
  when (come s.now x.limitTimer) (.lidOpenLimitExpiry (Fin.ofNat 16 n))

/-- The timers of container n that have come. -/
def containerCommands (s : State) (n : Nat) (k : Container) : List Instr :=
  when (come s.now k.pair.spacing) (.spacingExpiry (Fin.ofNat 8 n)) ++
  when (decide (k.nextDue ≤ s.now)) (.dueEvent (Fin.ofNat 8 n))

/-- The gap timer of a port. -/
def gapCommands (s : State) (p : Port) : List Instr := when (come s.now (s.port p).gap) (.gapTimerExpiry p)

/-- The events that have come while the part is AWAKE. -/
def awakeCommands (s : State) : List Instr :=
  gapCommands s .network ++ gapCommands s .vehicle ++ gapCommands s .service ++
  eachOf (inletCommands s) 0 s.inlets ++ eachOf (containerCommands s) 0 s.containers ++
  when (come s.now s.lift.lidWait) .lidWaitExpiry ++ when (come s.now s.lift.releaseWait) .releaseWaitExpiry ++
  when (come s.now s.lift.carrierLoss) .carrierLoss ++ when (come s.now s.store.writerIdle) .writerIdleExpiry ++
  when (come s.now s.wake.idleTimer) .idleTimerExpiry

/-- The events that have come while the part is not AWAKE. -/
def dozeCommands (s : State) : List Instr :=
  when (come s.now s.wake.wakeTimer) .wakeTimerExpiry ++
  when (come s.now s.wake.settleEnd) (.wakeSettlingEnd s.lines [])

/-- The timer and debouncer events whose moment has come, in the order in which idle steps take them. -/
def State.dueCommands (s : State) : List Instr :=
  if s.power = .running then
    when (decide (s.clock.next ≤ s.now)) .clockCount ++ eachOf (lidCommands s) 0 s.inlets ++
    eachOf (seatCommands s) 0 s.containers ++
    (if s.wake.state = .awake then awakeCommands s else dozeCommands s)
  else []

end Sys2Proof.Machine
end

