-- ==== Sys2Proof/Machine/Dispatch.lean ====
section
/-! DEFINITION. The dispatch: one arm for each command, each a direct call of its meaning. -/

namespace Sys2Proof.Machine

/-- The effect of a command on everything but the queue. -/
def exec (i : Instr) (s : State) : Host.Outcome State Fault Refusal :=
  match i with
  | .powerOnReset => Sys2Proof.Machine.execPowerOnReset s
  | .powerOnResetEnd l b => Sys2Proof.Machine.execPowerOnResetEnd l b s
  | .resetLineAssertion l => Sys2Proof.Machine.execResetLineAssertion l s
  | .readStatus p tag ps => Sys2Proof.Machine.execReadStatus p tag ps s
  | .acknowledgeAttention p tag ps => Sys2Proof.Machine.execAcknowledgeAttention p tag ps s
  | .setAttentionMask p tag ps => Sys2Proof.Machine.execSetAttentionMask p tag ps s
  | .readClock p tag ps => Sys2Proof.Machine.execReadClock p tag ps s
  | .setClock p tag ps => Sys2Proof.Machine.execSetClock p tag ps s
  | .restart p tag ps l => Sys2Proof.Machine.execRestart p tag ps l s
  | .writeImageBlock p tag ps => Sys2Proof.Machine.execWriteImageBlock p tag ps s
  | .writeCompletion => Sys2Proof.Machine.execWriteCompletion s
  | .writerIdleExpiry => Sys2Proof.Machine.execWriterIdleExpiry s
  | .applyConfiguration p tag ps => Sys2Proof.Machine.execApplyConfiguration p tag ps s
  | .applyCheckCompletion l => Sys2Proof.Machine.execApplyCheckCompletion l s
  | .readContainer p tag ps => Sys2Proof.Machine.execReadContainer p tag ps s
  | .suspendContainer p tag ps => Sys2Proof.Machine.execSuspendContainer p tag ps s
  | .resumeContainer p tag ps => Sys2Proof.Machine.execResumeContainer p tag ps s
  | .measureNow p tag ps => Sys2Proof.Machine.execMeasureNow p tag ps s
  | .readDueList p tag ps => Sys2Proof.Machine.execReadDueList p tag ps s
  | .clearHeat p tag ps => Sys2Proof.Machine.execClearHeat p tag ps s
  | .readInlet p tag ps => Sys2Proof.Machine.execReadInlet p tag ps s
  | .openInlet p tag ps => Sys2Proof.Machine.execOpenInlet p tag ps s
  | .putCard p tag ps => Sys2Proof.Machine.execPutCard p tag ps s
  | .removeCard p tag ps => Sys2Proof.Machine.execRemoveCard p tag ps s
  | .blockCard p tag ps => Sys2Proof.Machine.execBlockCard p tag ps s
  | .clearCardTable p tag ps => Sys2Proof.Machine.execClearCardTable p tag ps s
  | .markTableLoaded p tag ps => Sys2Proof.Machine.execMarkTableLoaded p tag ps s
  | .readCards p tag ps => Sys2Proof.Machine.execReadCards p tag ps s
  | .rewindCardCursor p tag ps => Sys2Proof.Machine.execRewindCardCursor p tag ps s
  | .readQueries p tag ps => Sys2Proof.Machine.execReadQueries p tag ps s
  | .answerCard p tag ps => Sys2Proof.Machine.execAnswerCard p tag ps s
  | .readJournal p tag ps => Sys2Proof.Machine.execReadJournal p tag ps s
  | .rewindJournalCursor p tag ps => Sys2Proof.Machine.execRewindJournalCursor p tag ps s
  | .releaseJournal p tag ps => Sys2Proof.Machine.execReleaseJournal p tag ps s
  | .announce p tag ps => Sys2Proof.Machine.execAnnounce p tag ps s
  | .endSession p tag ps => Sys2Proof.Machine.execEndSession p tag ps s
  | .claimLift p tag ps => Sys2Proof.Machine.execClaimLift p tag ps s
  | .cancelLift p tag ps => Sys2Proof.Machine.execCancelLift p tag ps s
  | .readLift p tag ps => Sys2Proof.Machine.execReadLift p tag ps s
  | .badFrame p bs => Sys2Proof.Machine.execBadFrame p bs s
  | .gapTimerExpiry p => Sys2Proof.Machine.execGapTimerExpiry p s
  | .replySent p => Sys2Proof.Machine.execReplySent p s
  | .cardRead n card => Sys2Proof.Machine.execCardRead n card s
  | .queryWaitExpiry n => Sys2Proof.Machine.execQueryWaitExpiry n s
  | .windowExpiry n => Sys2Proof.Machine.execWindowExpiry n s
  | .lidOpening n => Sys2Proof.Machine.execLidOpening n s
  | .lidClosing n => Sys2Proof.Machine.execLidClosing n s
  | .lidOpenLimitExpiry n => Sys2Proof.Machine.execLidOpenLimitExpiry n s
  | .serviceTimerExpiry n => Sys2Proof.Machine.execServiceTimerExpiry n s
  | .unseat c => Sys2Proof.Machine.execUnseat c s
  | .reseat c => Sys2Proof.Machine.execReseat c s
  | .dueEvent c => Sys2Proof.Machine.execDueEvent c s
  | .measurementCompletion conv echo => Sys2Proof.Machine.execMeasurementCompletion conv echo s
  | .spacingExpiry c => Sys2Proof.Machine.execSpacingExpiry c s
  | .lidWaitExpiry => Sys2Proof.Machine.execLidWaitExpiry s
  | .releaseWaitExpiry => Sys2Proof.Machine.execReleaseWaitExpiry s
  | .carrierChange b => Sys2Proof.Machine.execCarrierChange b s
  | .carrierLoss => Sys2Proof.Machine.execCarrierLoss s
  | .clockCount => Sys2Proof.Machine.execClockCount s
  | .idleTimerExpiry => Sys2Proof.Machine.execIdleTimerExpiry s
  | .wakeTimerExpiry => Sys2Proof.Machine.execWakeTimerExpiry s
  | .receiveActivityInDoze p => Sys2Proof.Machine.execReceiveActivityInDoze p s
  | .wakeSettlingEnd l order => Sys2Proof.Machine.execWakeSettlingEnd l order s
  | .unknownRequestCode p code tag ps => Sys2Proof.Machine.execUnknownRequestCode p code tag ps s
  | .powerLoss => Sys2Proof.Machine.execPowerLoss s

end Sys2Proof.Machine
end

