-- ==== Sys2Proof/Safety.lean ====
section
/-! DEFINITION. What a sound state of the station is: the manual's statements about every state, each a check of one
part of the state; and what a sent reply leaves of a port, in which the statements about requests are written. -/

namespace Sys2Proof.Machine

/-! ## The journal (R117, R118, R123 to R125, R127) -/

/-- A DEPOSIT entry. -/
def JournalBody.isDeposit : JournalBody → Bool
  | .deposit .. => true
  | .forced .. | .emptying .. => false

/-- The journal's figures fit together: at most 1,024 entries with consecutive sequence numbers that end just below
the next one, every DEPOSIT among the oldest 1,008, saturated counts, markers only while the ring stands at their
limit. -/
structure Journal.Sound (j : Journal) : Prop where
  places : j.entries.length ≤ journalPlaces
  room : j.entries.length < j.nextSeq
  consecutive : j.entries.map JournalEntry.seq = List.range' j.oldest j.entries.length
  deposits : ∀ e ∈ j.entries.drop depositPlaces, e.body.isDeposit = false
  overflow : j.overflow ≤ 65535
  lost : j.lost ≤ 65535
  depositFull : j.depositFull = true → depositPlaces ≤ j.entries.length
  lostMarker : j.lostMarker = true → j.entries.length = journalPlaces

/-- The journal is sound, and every port's cursor stands at or below the next sequence number (R127). -/
structure State.JournalSound (s : State) : Prop where
  journal : s.journal.Sound
  cursors : ∀ p, (s.port p).journalCursor ≤ s.journal.nextSeq

/-! ## The card table (R93, R94) -/

/-- An entry's fields are within their values. -/
structure Card.Sound (k : Card) : Prop where
  number : 0 < k.number ∧ k.number < 2 ^ 40
  household : 0 < k.household ∧ k.household < 2 ^ 16
  quota : k.quota ≤ 255
  used : k.used ≤ 255
  overflow : k.overflow ≤ 65535
  expiry : expiryFits k.kind k.expiry = true

/-- The table is in ascending card-number order, holds no number twice and at most 3,000 entries. -/
structure CardTable.Sound (t : CardTable) : Prop where
  ascending : t.entries.Pairwise fun a b => a.number < b.number
  places : t.entries.length ≤ cardPlaces
  entries : ∀ k ∈ t.entries, k.Sound

/-! ## The serial memory (R173, R177) -/

/-- The memory keeps its canonical form, and no write under way passes its end. -/
structure Store.Sound (st : Store) : Prop where
  memory : memoryWf st.memory = true
  writes : ∀ w ∈ st.writes, w.offset + w.data.length ≤ memorySize

/-! ## The due list (R61) -/

/-- The due list holds no container twice and only configured containers, of which there are at most eight. -/
structure State.DueListSound (s : State) : Prop where
  containers : s.containers.length ≤ 8
  configured : ∀ e ∈ s.dueList, e.container < s.containers.length
  once : (s.dueList.map DueEntry.container).Nodup

/-! ## Containers, the measurement channel and the lift (R6, R9, R12, R19, R24, R35, R132, R138) -/

/-- A container that the lift protocol holds (R138). -/
def ServiceState.inLift : ServiceState → Bool
  | .claimed | .released | .lifted => true
  | .serving | .verifying | .suspended => false

/-- The stage of a container whose measurement runs (R24). -/
def Stage.runs : Stage → Option Bool
  | .firstRunning => some false
  | .secondRunning => some true
  | .firstQueued | .awaitSecond | .secondQueued => Option.none
  | Stage.none => Option.none

/-- What a container's stage carries is present exactly while R24 says so. -/
structure Pair.Sound (p : Pair) : Prop where
  cls : p.cls = none ↔ p.stage = .none
  entry : p.entry.isSome = true ↔ p.stage = .firstQueued ∨ p.stage = .secondQueued
  first : p.first.isSome = true ↔ p.stage = .awaitSecond ∨ p.stage = .secondQueued ∨ p.stage = .secondRunning
  spacing : p.spacing.isSome = true ↔ p.stage = .awaitSecond
  attempt : p.attempt.isSome = true ↔ p.cls = some .verify
  attempts : ∀ n, p.attempt = some n → 1 ≤ n ∧ n ≤ 3

/-- One container record is sound: a displaced container is unseated and SERVING or SUSPENDED, an unmeasured one has
no pair, a VERIFY pair belongs to a VERIFYING container, and the counts keep their limits. -/
structure Container.Sound (k : Container) : Prop where
  displaced : k.displaced = true → k.seated = false ∧ (k.state = .serving ∨ k.state = .suspended)
  unmeasured : k.unmeasured = true → k.pair = .idle
  verify : k.pair.cls = some .verify → k.state = .verifying
  pair : k.pair.Sound
  misses : k.misses ≤ 4
  mismatches : k.mismatches ≤ 6
  added : k.added ≤ 65535

/-- The containers, the front end and the emptying controller fit together. -/
structure State.LiftSound (s : State) : Prop where
  records : ∀ k ∈ s.containers, k.Sound
  /-- at most one container is in CLAIMED, RELEASED or LIFTED (R138) -/
  one : ∀ (c d : Nat) (k m : Container), s.containers[c]? = some k → s.containers[d]? = some m →
    k.state.inLift = true → m.state.inLift = true → c = d
  /-- a measurement runs for a container exactly while the front end holds an attached run of it (R19, R24, R35) -/
  front : ∀ (c : Nat) (k : Container) (b : Bool), s.containers[c]? = some k → 
    (k.pair.stage.runs = some b ↔ s.run = some (.started c b))
  /-- no conversion of a run under way has ended between two events (R20; log entry 14) -/
  converting : ∀ r, s.run = some r → r.gate = none ∧ r.result = none
  /-- the session's claimed container is held by the lift protocol (R132) -/
  claim : ∀ (x : Session) (c : Nat), s.lift.session = some x → x.claimed = some c →
    s.inState c .claimed = true ∨ s.inState c .released = true ∨ s.inState c .lifted = true
  /-- a container in CLAIMED or RELEASED is the claimed container of a session (R132) -/
  held : ∀ (c : Nat) (k : Container), s.containers[c]? = some k → k.state = .claimed ∨ k.state = .released →
    s.lift.session.bind Session.claimed = some c
  /-- the lid wait runs exactly in CLAIMED, the release wait exactly in RELEASED (R139 to R142, R144) -/
  lidWait : s.lift.lidWait.isSome = true ↔ ∃ c, s.inState c .claimed = true
  releaseWait : s.lift.releaseWait.isSome = true ↔ ∃ c, s.inState c .released = true
  /-- the carrier-loss timer runs only in a session, while the carrier is absent (R135) -/
  carrierLoss : s.lift.carrierLoss.isSome = true ↔ s.lift.session.isSome = true ∧ s.lift.carrier = false

/-! ## Inlets (R5, R72 to R74, R77, R88, R108) -/

/-- One inlet record is sound: the window record, the timers, the slot, the query and the lid fit its state. -/
structure Inlet.Sound (x : Inlet) : Prop where
  window : x.window = none ↔ x.state = .locked
  windowTimer : x.windowTimer.isSome = true ↔ x.state = .unlocked
  serviceTimer : x.serviceTimer.isSome = true → x.state = .serviceOpen
  runOut : x.runOut = true → x.state = .serviceOpen ∧ x.lidOpen = true
  slot : x.slot.isSome = true ↔ x.query.isSome = true
  query : x.query.isSome = true → x.state = .locked
  lid : x.lid.isSome = true ↔ x.lidOpen = true
  inUse : x.state = .inUse ↔ x.lid.map LidOpen.cause = some .window
  service : x.state = .serviceOpen → ∀ l, x.lid = some l → l.cause = .service
  stuck : x.stuck = true → x.lidOpen = true ∧ x.limitTimer = none
  limitTimer : x.limitTimer.isSome = true → x.lidOpen = true
  forced : x.forced ≤ 255
  cycles : x.cycles ≤ 255

/-- Every inlet is sound, and "While a container is in RELEASED, LIFTED or VERIFYING, every inlet bound to it is
LOCKED" (R5). -/
structure State.InletsSound (s : State) : Prop where
  /-- at most sixteen inlets are configured (R71) -/
  places : s.inlets.length ≤ 16
  records : ∀ x ∈ s.inlets, x.Sound
  locked : ∀ x ∈ s.inlets,
    s.inState x.cfg.container .released = true ∨ s.inState x.cfg.container .lifted = true ∨
      s.inState x.cfg.container .verifying = true → x.state = .locked

/-! ## Ports (R155, R156, R162, R164) -/

/-- One port block is sound: it receives only while FREE, its count is saturated, its mask leaves HEAT out (HEAT is
enabled without it). -/
structure PortBlock.Sound (b : PortBlock) : Prop where
  receiving : ∀ got, b.receiver = .receiving got → b.state = .free
  discarded : b.discarded ≤ 255
  mask : b.mask &&& kindSet .heat = 0

/-- The three port blocks are sound. -/
def State.PortsSound (s : State) : Prop := ∀ p, (s.port p).Sound

/-! ## The wake controller (R176, R181 to R184) -/

/-- The idle timer runs only while the part is AWAKE and every idle condition holds; causes are held and the settling
runs only in WAKING; the wake timer does not run while AWAKE, which is the model's choice (DEDUCED, log entry 32); an
UNCONFIGURED part is AWAKE. -/
structure State.WakeSound (s : State) : Prop where
  idleTimer : s.wake.idleTimer.isSome = true → s.attends = true ∧ s.idle = true
  held : s.wake.held ≠ [] → s.wake.state = .waking
  settleEnd : s.wake.settleEnd.isSome = true ↔ s.wake.state = .waking
  wakeTimer : s.wake.wakeTimer.isSome = true → s.wake.state ≠ .awake
  unconfigured : s.store.running = none → s.wake.state = .awake

/-! ## The station clock (R170) -/

/-- The count stays within its range. -/
def Clock.Sound (c : Clock) : Prop := c.count ≤ 4294967295

/-! ## Requests -/

/-- What stands when a request has been taken at port p and its reply is being sent: the gap timer started at its
check byte, and the port REPLYING with the reply frame (R153 to R157). -/
def State.replied (s : State) (p : Port) (code tag status : Byte) (payload : List Byte) : State :=
  s.updPort p fun b => { b with gap := some (s.now + 20), state := .replying (replyFrame code tag status payload) }

/-- What stands when a request has been taken at port p and its reply waits for a completion (R157). -/
def State.awaiting (s : State) (p : Port) (code tag : Byte) : State :=
  s.updPort p fun b => { b with gap := some (s.now + 20), state := .holding code tag }

/-- The request index of R158 as the manual prints it: code, ports, least and greatest parameter byte count, Open mark.
Answer Card's counts are 7 and 25 alone. -/
def printedIndex : List (Byte × List Port × Nat × Nat × Bool) :=
  [(0x01, [.network, .vehicle, .service], 0, 0, true), (0x02, [.network, .vehicle, .service], 2, 2, false),
   (0x03, [.network, .vehicle, .service], 2, 2, false), (0x04, [.network, .vehicle, .service], 0, 0, true),
   (0x05, [.network], 4, 4, true), (0x06, [.network, .service], 0, 0, true),
   (0x07, [.network, .service], 3, 246, true), (0x08, [.network, .service], 0, 0, true),
   (0x10, [.network, .vehicle, .service], 1, 1, false), (0x11, [.network, .service], 1, 1, false),
   (0x12, [.network, .service], 1, 1, false), (0x13, [.network, .vehicle, .service], 1, 1, false),
   (0x14, [.network, .vehicle, .service], 0, 0, false), (0x15, [.network, .service], 1, 1, false),
   (0x20, [.network, .vehicle, .service], 1, 1, false), (0x21, [.network, .service], 1, 1, false),
   (0x30, [.network, .service], 18, 18, false), (0x31, [.network], 5, 5, false),
   (0x32, [.network, .service], 5, 5, false), (0x33, [.network], 0, 0, false), (0x34, [.network], 0, 0, false),
   (0x35, [.network, .vehicle, .service], 0, 0, false), (0x36, [.network, .vehicle, .service], 0, 0, false),
   (0x37, [.network, .service], 0, 0, false), (0x38, [.network], 7, 25, false),
   (0x40, [.network, .vehicle, .service], 0, 0, false), (0x41, [.network, .vehicle, .service], 0, 0, false),
   (0x42, [.network], 4, 4, false), (0x50, [.vehicle], 2, 2, false), (0x51, [.vehicle], 0, 0, false),
   (0x52, [.vehicle], 1, 1, false), (0x53, [.vehicle], 0, 0, false), (0x54, [.network, .vehicle, .service], 0, 0, false)]

/-- The port, the code, the tag and the parameter bytes of a command that is a request of the index (R158). -/
def requestParts : Instr → Option (Port × Byte × Byte × List Byte)
  | .readStatus p t ps => some (p, 0x01, t, ps)
  | .acknowledgeAttention p t ps => some (p, 0x02, t, ps)
  | .setAttentionMask p t ps => some (p, 0x03, t, ps)
  | .readClock p t ps => some (p, 0x04, t, ps)
  | .setClock p t ps => some (p, 0x05, t, ps)
  | .restart p t ps _ => some (p, 0x06, t, ps)
  | .writeImageBlock p t ps => some (p, 0x07, t, ps)
  | .applyConfiguration p t ps => some (p, 0x08, t, ps)
  | .readContainer p t ps => some (p, 0x10, t, ps)
  | .suspendContainer p t ps => some (p, 0x11, t, ps)
  | .resumeContainer p t ps => some (p, 0x12, t, ps)
  | .measureNow p t ps => some (p, 0x13, t, ps)
  | .readDueList p t ps => some (p, 0x14, t, ps)
  | .clearHeat p t ps => some (p, 0x15, t, ps)
  | .readInlet p t ps => some (p, 0x20, t, ps)
  | .openInlet p t ps => some (p, 0x21, t, ps)
  | .putCard p t ps => some (p, 0x30, t, ps)
  | .removeCard p t ps => some (p, 0x31, t, ps)
  | .blockCard p t ps => some (p, 0x32, t, ps)
  | .clearCardTable p t ps => some (p, 0x33, t, ps)
  | .markTableLoaded p t ps => some (p, 0x34, t, ps)
  | .readCards p t ps => some (p, 0x35, t, ps)
  | .rewindCardCursor p t ps => some (p, 0x36, t, ps)
  | .readQueries p t ps => some (p, 0x37, t, ps)
  | .answerCard p t ps => some (p, 0x38, t, ps)
  | .readJournal p t ps => some (p, 0x40, t, ps)
  | .rewindJournalCursor p t ps => some (p, 0x41, t, ps)
  | .releaseJournal p t ps => some (p, 0x42, t, ps)
  | .announce p t ps => some (p, 0x50, t, ps)
  | .endSession p t ps => some (p, 0x51, t, ps)
  | .claimLift p t ps => some (p, 0x52, t, ps)
  | .cancelLift p t ps => some (p, 0x53, t, ps)
  | .readLift p t ps => some (p, 0x54, t, ps)
  | .powerOnReset | .powerOnResetEnd _ _ | .resetLineAssertion _ | .writeCompletion | .writerIdleExpiry
  | .applyCheckCompletion _ | .badFrame _ _ | .gapTimerExpiry _ | .replySent _ | .cardRead _ _ | .queryWaitExpiry _
  | .windowExpiry _ | .lidOpening _ | .lidClosing _ | .lidOpenLimitExpiry _ | .serviceTimerExpiry _ | .unseat _
  | .reseat _ | .dueEvent _ | .measurementCompletion _ _ | .spacingExpiry _ | .lidWaitExpiry | .releaseWaitExpiry
  | .carrierChange _ | .carrierLoss | .clockCount | .idleTimerExpiry | .wakeTimerExpiry | .receiveActivityInDoze _
  | .wakeSettlingEnd _ _ | .unknownRequestCode _ _ _ _ | .powerLoss => none

/-- The state after the field lines have moved to the levels that a request's command brings: RESTART's; the other requests
bring none. -/
def State.linesOf (s : State) : Instr → State
  | .restart _ _ _ l => s.moveLines l
  | _ => s

/-! ## The events of timers and debouncers (R1, R7, R72) -/

/-- The lid level that inlet i's debouncer last accepted: the last held lid event's, or the record's where none is held
(R72, R185). -/
def State.acceptedLid (s : State) (i : Nat) (x : Inlet) (b : Bool) : Prop :=
  (∃ before t later, s.wake.held = before ++ .lid i b t :: later ∧ ∀ c u, HeldCause.lid i c u ∉ later) ∨
  x.lidOpen = b ∧ ∀ c u, HeldCause.lid i c u ∉ s.wake.held

/-- The seat level last accepted for container c (R7, R185). -/
def State.acceptedSeat (s : State) (c : Nat) (k : Container) (b : Bool) : Prop :=
  (∃ before t later, s.wake.held = before ++ .seat c b t :: later ∧ ∀ d u, HeldCause.seat c d u ∉ later) ∨
  k.seated = b ∧ ∀ d u, HeldCause.seat c d u ∉ s.wake.held

/-- The reject interval of a noise-reject width in ms; none for OFF (R72). -/
def rejectInterval : RejectWidth → Option Nat
  | .off => none
  | .ms4 => some 4
  | .ms16 => some 16
  | .ms64 => some 64

/-- Inlet i's raw lid line shows a level that is not the accepted one, and the reject interval, if there is one, has run
out (R72). -/
def State.lidHasCome (s : State) (i : Nat) (b : Bool) : Prop :=
  ∃ x, s.inlets[i]? = some x ∧ (s.lines.lid.getLsbD i == x.cfg.activeHigh) = b ∧ s.acceptedLid i x (!b) ∧
    ∀ w, rejectInterval x.cfg.width = some w → ∃ t, x.rejectStart = some t ∧ t + w ≤ s.now

/-- Container c's seat line has shown a level that is not the accepted one for 200 ms (R7). -/
def State.seatHasCome (s : State) (c : Nat) (b : Bool) : Prop :=
  ∃ k, s.containers[c]? = some k ∧ s.lines.seat.getLsbD c = b ∧ s.acceptedSeat c k (!b) ∧
    ∃ t, k.seatHold = some t ∧ t + 200 ≤ s.now

/-- A running timer has come to its moment (R1). -/
def State.timerHasCome (s : State) (t : Option Nat) : Prop := ∃ m, t = some m ∧ m ≤ s.now

/-- A timer or debouncer event whose moment has come in the running part: those of the clock and the debouncers in every
wake state, the wake timer's and the settling's while not AWAKE, every other one while AWAKE (R170, R181, R183). -/
def State.hasCome (s : State) (e : Instr) : Prop :=
  s.power = .running ∧
  match e with
  | .clockCount => s.clock.next ≤ s.now
  | .lidOpening i => s.lidHasCome i.val true
  | .lidClosing i => s.lidHasCome i.val false
  | .reseat c => s.seatHasCome c.val true
  | .unseat c => s.seatHasCome c.val false
  | .gapTimerExpiry p => s.wake.state = .awake ∧ s.timerHasCome (s.port p).gap
  | .queryWaitExpiry i =>
    s.wake.state = .awake ∧ ∃ x q, s.inlets[i.val]? = some x ∧ x.query = some q ∧ q.waitEnd ≤ s.now
  | .windowExpiry i => s.wake.state = .awake ∧ ∃ x, s.inlets[i.val]? = some x ∧ s.timerHasCome x.windowTimer
  | .serviceTimerExpiry i => s.wake.state = .awake ∧ ∃ x, s.inlets[i.val]? = some x ∧ s.timerHasCome x.serviceTimer
  | .lidOpenLimitExpiry i => s.wake.state = .awake ∧ ∃ x, s.inlets[i.val]? = some x ∧ s.timerHasCome x.limitTimer
  | .spacingExpiry c => s.wake.state = .awake ∧ ∃ k, s.containers[c.val]? = some k ∧ s.timerHasCome k.pair.spacing
  | .dueEvent c => s.wake.state = .awake ∧ ∃ k, s.containers[c.val]? = some k ∧ k.nextDue ≤ s.now
  | .lidWaitExpiry => s.wake.state = .awake ∧ s.timerHasCome s.lift.lidWait
  | .releaseWaitExpiry => s.wake.state = .awake ∧ s.timerHasCome s.lift.releaseWait
  | .carrierLoss => s.wake.state = .awake ∧ s.timerHasCome s.lift.carrierLoss
  | .writerIdleExpiry => s.wake.state = .awake ∧ s.timerHasCome s.store.writerIdle
  | .idleTimerExpiry => s.wake.state = .awake ∧ s.timerHasCome s.wake.idleTimer
  | .wakeTimerExpiry => s.wake.state ≠ .awake ∧ s.timerHasCome s.wake.wakeTimer
  | .wakeSettlingEnd l order => s.wake.state ≠ .awake ∧ l = s.lines ∧ order = [] ∧ s.timerHasCome s.wake.settleEnd
  | _ => False

/-- The place of an event among those that have come, in the order in which idle steps take them (log entry 2). -/
def eventPlace : Instr → Nat
  | .clockCount => 0
  | .lidOpening i | .lidClosing i => 1 + i.val
  | .reseat c | .unseat c => 17 + c.val
  | .gapTimerExpiry .network => 25
  | .gapTimerExpiry .vehicle => 26
  | .gapTimerExpiry .service => 27
  | .queryWaitExpiry i => 28 + 4 * i.val
  | .windowExpiry i => 29 + 4 * i.val
  | .serviceTimerExpiry i => 30 + 4 * i.val
  | .lidOpenLimitExpiry i => 31 + 4 * i.val
  | .spacingExpiry c => 92 + 2 * c.val
  | .dueEvent c => 93 + 2 * c.val
  | .lidWaitExpiry => 108
  | .releaseWaitExpiry => 109
  | .carrierLoss => 110
  | .writerIdleExpiry => 111
  | .idleTimerExpiry => 112
  | .wakeTimerExpiry => 113
  | .wakeSettlingEnd _ _ => 114
  | _ => 115

/-! ## The image (R42, R48, R173, R174) -/

/-- The byte at an address of the serial memory, as a number. -/
def byteAt (m : List Host.Cell) (a : Nat) : Nat := (readByte m a).toNat

/-- The two bytes at an address of the serial memory, most significant first. -/
def pairAt (m : List Host.Cell) (a : Nat) : Nat := byteAt m a * 256 + byteAt m (a + 1)

/-- The address of shape table j, or of the vehicle table where j is their number (R173). -/
def shapeAddress (g : StationConfig) (j : Nat) : Nat :=
  53 + 16 * g.containers.length + 8 * g.inlets.length + ((g.shapes.take j).map fun t => 1 + 4 * t.length).sum

/-- The serial memory holds a valid image, and its clamped settings are g: the first pass finds no fault, and each setting is
the field that R173 places, brought to the nearer limit of its range (R3, R42, R48, R173, R174). -/
structure ImageGives (m : List Host.Cell) (g : StationConfig) : Prop where
  marker : byteAt m 0 = 0x81 ∧ byteAt m 1 = 0x6E
  length : 17 ≤ pairAt m 3 ∧ pairAt m 3 ≤ 4096
  sum : pairAt m 5 = ((List.range (pairAt m 3 - 7)).map fun i => byteAt m (7 + i)).sum % 65536
  size : pairAt m 3 = shapeAddress g g.shapes.length + 3 * g.vehicles.length
  containerCount : g.containers.length = byteAt m 7 ∧ 1 ≤ g.containers.length ∧ g.containers.length ≤ 8
  inletCount : g.inlets.length = byteAt m 8 ∧ 1 ≤ g.inlets.length ∧ g.inlets.length ≤ 16
  shapeCount : g.shapes.length = byteAt m 15 ∧ g.shapes.length ≤ 4
  vehicleCount : g.vehicles.length = byteAt m 16 ∧ g.vehicles.length ≤ 16
  station : g.version.toNat = byteAt m 2 ∧ g.periodDays = max 1 (min (byteAt m 9) 31) ∧
    (g.dozePermitted = true ↔ byteAt m 10 ≠ 0) ∧ g.dozeSeconds = max 1 (min (byteAt m 11) 60) ∧
    g.queryWaitSeconds = max 1 (min (byteAt m 12) 10) ∧ (g.queryEnabled = true ↔ byteAt m 13 ≠ 0) ∧
    g.fallbackOpen.toNat = byteAt m 14
  containers : ∀ c k, g.containers[c]? = some k →
    k.fraction.val = byteAt m (17 + 16 * c) ∧ k.shape = byteAt m (18 + 16 * c) ∧ k.shape < g.shapes.length ∧
    k.floor = max 300 (min (pairAt m (19 + 16 * c)) 4000) ∧
    k.blanking = min (max 150 (min (pairAt m (21 + 16 * c)) 600)) (k.floor - 100) ∧
    k.floorBand = max 20 (min (byteAt m (23 + 16 * c)) 200) ∧
    k.confirmBand = max 10 (min (byteAt m (24 + 16 * c)) 255) ∧
    k.pingMinutes = max 5 (min (pairAt m (25 + 16 * c)) 1440) ∧
    k.dueAt = max 100 (min (pairAt m (27 + 16 * c)) 990) ∧
    k.fullAt = max k.dueAt (min (pairAt m (29 + 16 * c)) 1000) ∧
    k.heatLimit = max 40 (min (byteAt m (31 + 16 * c)) 90) ∧ k.riseLimit = max 4 (min (byteAt m (32 + 16 * c)) 40) ∧
    k.bound = ((List.range g.inlets.length).filter fun i => ((g.inlets[i]?).map InletSettings.container) == some c) ∧
    1 ≤ k.bound.length ∧ k.bound.length ≤ 4
  inlets : ∀ i x, g.inlets[i]? = some x → ∃ a, a = 17 + 16 * g.containers.length + 8 * i ∧
    x.container = byteAt m a ∧ x.container < g.containers.length ∧ x.nominal = min (byteAt m (a + 1)) 250 ∧
    x.windowSeconds = max 3 (min (byteAt m (a + 2)) 60) ∧ x.limitSeconds = max 30 (min (pairAt m (a + 3)) 300) ∧
    (x.activeHigh = true ↔ byteAt m (a + 5) ≠ 0) ∧
    [RejectWidth.off, .ms4, .ms16, .ms64][min (byteAt m (a + 6)) 3]? = some x.width ∧
    (x.reader = true ↔ byteAt m (a + 7) ≠ 0)
  thermistor : g.thermistor.length = 9 ∧
    (∀ i q t, g.thermistor[i]? = some (q, t) → ∃ a, a = 17 + 16 * g.containers.length + 8 * g.inlets.length + 4 * i ∧
      q = pairAt m a ∧ q ≠ 0 ∧ t = max (-80) (min (BitVec.ofNat 16 (pairAt m (a + 2))).toInt 160)) ∧
    g.thermistor.Pairwise fun x y => y.1 < x.1 ∧ x.2 < y.2
  shapes : ∀ j t, g.shapes[j]? = some t →
    t.length = byteAt m (shapeAddress g j) ∧ 2 ≤ t.length ∧ t.length ≤ 12 ∧
    (∀ p h v, t[p]? = some (h, v) → h = pairAt m (shapeAddress g j + 1 + 4 * p) ∧
      v = pairAt m (shapeAddress g j + 3 + 4 * p) ∧ h ≤ 4000) ∧
    t[0]? = some (0, 0) ∧ t.Pairwise (fun x y => x.1 < y.1 ∧ x.2 < y.2) ∧ (∀ l, t.getLast? = some l → 100 ≤ l.2)
  vehicles : ∀ v e, g.vehicles[v]? = some e → e.id ≠ 0 ∧
    e.id = pairAt m (shapeAddress g g.shapes.length + 3 * v) ∧
    e.fractions.toNat = byteAt m (shapeAddress g g.shapes.length + 3 * v + 2)

/-! ## A warm restart's values -/

/-- What the blocks but the containers and the front end hold in u once a warm restart of s has taken place (R63, R75, R95,
R126, R150, R160, R170, R179; log entries 13, 35, 41). -/
structure State.WarmBlocks (s u : State) : Prop where
  frame : u = { s with
    containers := u.containers, inlets := u.inlets, run := u.run, ports := u.ports
    outcomes := s.outcomes ++ slotOutcomes (fun _ => true) .noAnswer 0 s.inlets
    wake := { s.wake with idleTimer := u.wake.idleTimer }
    store := { s.store with
      writes := s.store.writes.map (fun w => { w with port := none }), writer := none, writerIdle := none, check := none }
    lift := { s.lift with
      session := none, lidWait := none, releaseWait := none, carrierLoss := none, last := u.lift.last } }
  ports : ∀ p, u.port p = { s.port p with
    receiver := .hunting, gap := none, flags := kindSet .restart
    state := match (s.port p).state with
      | .replying f => .replying f
      | .free | .holding _ _ => .free
    discarded := match (s.port p).receiver with
      | .receiving _ => min ((s.port p).discarded + 1) 255
      | .hunting | .skipping => (s.port p).discarded }
  inletCount : u.inlets.length = s.inlets.length
  inlets : ∀ (i : Nat) (x : Inlet), s.inlets[i]? = some x → ∃ y : Inlet, u.inlets[i]? = some y ∧
    y = { x with
      state := .locked, window := none, windowTimer := none, serviceTimer := none, runOut := false, slot := none
      query := none, lid := y.lid, limitTimer := y.limitTimer
      stuck := x.stuck && x.lidOpen } ∧
    y.lid.map LidOpen.cause = (if x.lidOpen then some .uncounted else none) ∧
    y.limitTimer = (if x.lidOpen && !x.stuck then some (s.now + x.cfg.limitSeconds * 1000) else none)
  lastKept : (∀ c, s.inState c .claimed = false ∧ s.inState c .released = false) → u.lift.last = s.lift.last
  lastRestart : (∃ c, s.inState c .claimed = true ∨ s.inState c .released = true) →
    ∃ c, (s.inState c .claimed = true ∨ s.inState c .released = true) ∧
      u.lift.last = some ⟨c, .restart, s.clock.count⟩

/-! ## Words of the statements about commands -/

/-- A roll of the card table at a count of the clock, to a period index (R115). -/
structure CardTable.RolledTo (t u : CardTable) (count index : Nat) : Prop where
  period : u.period = index
  loaded : u.loaded = t.loaded
  entries : u.entries = (t.entries.filter fun k =>
      !(decide (k.kind = .temporary) && k.expiry.any fun e => decide (e ≤ count))).map fun k => { k with used := 0 }

/-- The card table after the period index has been judged at a count of the clock, under a period length in days
(R114); while the part is UNCONFIGURED there is none, and nothing is judged (log entry 21). -/
structure CardTable.JudgedAt (t u : CardTable) (days : Option Nat) (count : Nat) : Prop where
  unconfigured : days = none → u = t
  stays : ∀ d, days = some d → count / (86400 * d) ≤ t.period → u = t
  rolls : ∀ d, days = some d → t.period < count / (86400 * d) → t.RolledTo u count (count / (86400 * d))

/-- A conversion gives a temperature through the station's table, or is faulted (R20, R41, R43). -/
def State.conversionGives (s : State) (conv : Conversion) (temp : Option (Int × Bool)) : Prop :=
  temp = none ∧ (conv = .overrun ∨ ∃ gate n, conv = .cycles gate n ∧ (100000 < gate ∨ n ≤ 128 ∨ 65535 ≤ n)) ∨
  ∃ gate n g, conv = .cycles gate n ∧ gate ≤ 100000 ∧ 128 < n ∧ n < 65535 ∧ s.store.running = some g ∧
    temp = some (temperature g.thermistor (thermistorRatio n))

/-- A temperature makes a container hot: it is not hot, and the limit condition or the rise condition holds (R67). -/
def Container.heats (k : Container) (temp : Option (Int × Bool)) (now : Nat) : Prop :=
  k.hot = false ∧ ∃ t clamped, temp = some (t, clamped) ∧
    ((2 * k.cfg.heatLimit : Int) ≤ t ∨
      ∃ l, k.lastTemp = some l ∧ now - l.time ≤ 1800000 ∧ l.tHalf + 2 * (k.cfg.riseLimit : Int) ≤ t)

/-- A container after a temperature that does not make it hot (R23, R66). -/
def Container.withTemp (k : Container) (temp : Option (Int × Bool)) (now : Nat) : Container :=
  match temp with
  | some (t, clamped) => { k with tempStatus := .valid, lastTemp := some ⟨t, clamped, now⟩ }
  | none => { k with tempStatus := .fault }

/-- A fault status that is new raises SENSOR (R23). -/
def Container.newFault (k : Container) (temp : Option (Int × Bool)) : Bool :=
  temp.isNone && decide (k.tempStatus ≠ .fault)

/-- A container that leaves its platform outside a lift (R9, R35): unseated, displaced, its pair gone. -/
def Container.displacedRecord (k : Container) : Container :=
  { k with seated := false, seatHold := none, displaced := true, pair := .idle }

/-- The run record after an unseat of container c (R35): a run for c is marked detached. -/
def detachedRun (c : Nat) (run : Option Run) : Option Run :=
  run.map fun r => if r.container = c then { r with detached := true } else r

/-- The inlet records after the windows at container c's UNLOCKED inlets end (R82). -/
def windowsEnded (c : Nat) (xs : List Inlet) : List Inlet :=
  xs.map fun x =>
    if x.cfg.container = c ∧ x.state = .unlocked then { x with state := .locked, window := none, windowTimer := none } else x

/-- The emptying controller after a claim has ended for container c (R136, R137, R141 to R143). -/
def LiftController.claimEnded (l : LiftController) (c : Nat) (e : LiftEnding) (clock : Nat) : LiftController :=
  { l with
    session := l.session.map fun x => { x with claimed := none }
    lidWait := none, releaseWait := none, last := some ⟨c, e, clock⟩ }

/-- A container record at a warm restart, before the seat reconciliation (R4, R17, R33): the due event taken at once. -/
def Container.restartedRecord (k : Container) (now : Nat) (pair : Pair) : Container :=
  { k with
    state := if k.state = .claimed ∨ k.state = .released then .serving else k.state
    seatHold := none, nextDue := now + k.pingInterval, pair := pair }

/-- The level of an assumed-empty container (R57). -/
def assumedEmptyLevel (k : Container) (clock : Nat) : Level :=
  { height := 0, volume := 0, perMille := 0, time := clock, assumed := true
    tHalf := match k.lastTemp with
      | some l => l.tHalf
      | none => 30 }

/-- A pair that has just been requested (R25). -/
def requestedPair (cls : PairClass) (now : Nat) : Pair :=
  { stage := .firstQueued, cls := some cls, entry := some now, first := none, spacing := none
    attempt := match cls with
      | .verify => some 1
      | .scheduled | .demand => none }

/-- The reason by which checks 1 to 11 of an access decision refuse a card with an entry, if any does (R102, R105,
R106). `held` is the number of windows held for the card. -/
def refusedFor (x : Inlet) (k : Container) (e : Card) (clock held : Nat) : Option ReadOutcome :=
  if x.stuck = true ∨ k.displaced = true then some .fault
  else if k.state = .suspended then some .suspended
  else if k.hot = true then some .hot
  else if k.state ≠ .serving then some .emptying
  else if e.blocked = true then some .blocked
  else if e.kind = .temporary ∧ ∃ t, e.expiry = some t ∧ t ≤ clock then some .expired
  else if e.kind = .service then none
  else if e.rights.getLsbD k.cfg.fraction = false then some .noRight
  else if k.full = true then some .full
  else if e.quota < 255 ∧ e.quota ≤ e.used + held then some .quota
  else none

/-- The windows held for a card: inlets UNLOCKED or IN_USE with that card number in their window record (R106). -/
def windowsFor (n : Nat) (xs : List Inlet) : Nat :=
  (xs.filter fun x =>
    decide ((x.state = .unlocked ∨ x.state = .inUse) ∧ ∃ w, x.window = some w ∧ w.card = some n)).length

/-- An inlet whose window has just opened (R79). -/
def openedInlet (x : Inlet) (w : WindowRecord) (now : Nat) : Inlet :=
  { x with
    slot := none, query := none, state := .unlocked, window := some w
    windowTimer := some (now + x.cfg.windowSeconds * 1000) }

end Sys2Proof.Machine
end

