-- ==== Sys2Proof/Certificates/Slice0/Obligations.lean ====
section
/-! DEFINITION. The statements for the provers. Each docstring names the rules a statement formalises, or says that it
states a choice of the model and names the log entry. -/

open Sys2Proof Sys2Proof.Machine

/-! ## The machine -/

/-- A step takes the command at the front of the queue, whole (spec/95_what_each_step_holds.md). -/
def Obligations.StepTakesFrontCommand : Prop :=
  ∀ (c : Instr) (rest : List Instr) (s : State),
    step { s with pending := c :: rest } = exec c { s with pending := rest }

/-- MODEL'S CHOICE (log entries 2, 24): with no command waiting, a step takes the first timer or debouncer event whose moment
has come, in the order of log entry 2, or else one millisecond passes on the monotonic timer, which counts only while
the part is running (R31, R175). Which events those are: each running timer's at its moment, a lid level after its reject
interval, a seat level after 200 ms (R1, R7, R72). In a millisecond that passes nothing changes but the time and the
debouncers' intervals in progress: begun while the line stands off the accepted level, else abandoned. Where a command
moves the lines to new levels (R7, R72), every change that has stood out its interval is accepted first, as its own
command would; then the interval of each line that changed begins again or is abandoned, and the others run on; and a
change of a line whose reject width is OFF is accepted at once. -/
def Obligations.StepWithoutCommand : Prop :=
  (∀ s : State, s.pending = [] →
    (∀ c rest, s.dueCommands = c :: rest → step s = exec c s) ∧
    (s.dueCommands = [] → s.power ≠ .running → step s = .next s) ∧
    (s.dueCommands = [] → s.power = .running →
      ∃ xs ks, step s = .next { s with now := s.now + 1, inlets := xs, containers := ks } ∧
        xs.map (fun x => { x with rejectStart := none }) = s.inlets.map (fun x => { x with rejectStart := none }) ∧
        ks.map (fun k => { k with seatHold := none }) = s.containers.map (fun k => { k with seatHold := none }) ∧
        (∀ i x b, s.inlets[i]? = some x → s.acceptedLid i x b → xs[i]? = some { x with
          rejectStart := if (s.lines.lid.getLsbD i == x.cfg.activeHigh) = b then none
            else some (x.rejectStart.getD s.now) }) ∧
        (∀ c k b, s.containers[c]? = some k → s.acceptedSeat c k b → ks[c]? = some { k with
          seatHold := if s.lines.seat.getLsbD c = b then none else some (k.seatHold.getD s.now) }))) ∧
  (∀ s : State, s.inlets.length ≤ 16 → s.containers.length ≤ 8 →
    (∀ e : Instr, e ∈ s.dueCommands ↔ s.hasCome e) ∧
    s.dueCommands.Pairwise fun a b => eventPlace a < eventPlace b) ∧
  (∀ (s : State) (l : FieldLines),
    ∃ xs ks, s.withLines l = { s with lines := l, inlets := xs, containers := ks } ∧
      xs.length = s.inlets.length ∧ ks.length = s.containers.length ∧
      (∀ i x, s.inlets[i]? = some x →
        (l.lid.getLsbD i = s.lines.lid.getLsbD i → xs[i]? = some x) ∧
        (l.lid.getLsbD i ≠ s.lines.lid.getLsbD i → ∀ b, s.acceptedLid i x b → xs[i]? = some { x with
          rejectStart := if (l.lid.getLsbD i == x.cfg.activeHigh) = b then none else some s.now })) ∧
      (∀ c k, s.containers[c]? = some k →
        (l.seat.getLsbD c = s.lines.seat.getLsbD c → ks[c]? = some k) ∧
        (l.seat.getLsbD c ≠ s.lines.seat.getLsbD c → ∀ b, s.acceptedSeat c k b → ks[c]? = some { k with
          seatHold := if l.seat.getLsbD c = b then none else some s.now }))) ∧
  (∀ (s : State) (l : FieldLines),
    s.moveLines l = (s.acceptStood.withLines l).acceptStood ∧ (s.moveLines l).lines = l ∧
    ∃ lids seats : List (Nat × Bool),
      (∀ i b, (i, b) ∈ lids ↔ s.lidHasCome i b) ∧ lids.Pairwise (fun x y => x.1 < y.1) ∧
      (∀ c b, (c, b) ∈ seats ↔ s.seatHasCome c b) ∧ seats.Pairwise (fun x y => x.1 < y.1) ∧
      s.acceptStood = seats.foldl (fun v e => v.acceptSeat e.1 e.2) (lids.foldl (fun v e => v.acceptLid e.1 e.2) s)) ∧
  (∀ s : State, s.power = .running →
    (∀ i : Fin 16, exec (.lidOpening i) s = .next (s.acceptLid i.val true).judgeIdle ∧
      exec (.lidClosing i) s = .next (s.acceptLid i.val false).judgeIdle) ∧
    (∀ c : Fin 8, exec (.reseat c) s = .next (s.acceptSeat c.val true).judgeIdle ∧
      exec (.unseat c) s = .next (s.acceptSeat c.val false).judgeIdle))

/-- No command touches the commands that wait behind it (the queue is the model's; R1: an event is taken whole). -/
def Obligations.ExecKeepsQueue : Prop :=
  ∀ (c : Instr) (s t : State), exec c s = .next t → t.pending = s.pending

/-- Every command has a next state in every state: no condition of the manual stops the part. -/
def Obligations.ExecAlwaysAnswers : Prop :=
  ∀ (c : Instr) (s : State), ∃ t : State, exec c s = .next t

/-- From power loss until power-on reset has ended nothing is received, read or timed (R152, R175): every command but
those of the supply leaves the state as it stands. The model's choices in it: log entry 16. -/
def Obligations.UnpoweredPartTakesNothing : Prop :=
  ∀ (c : Instr) (s : State), s.power ≠ .running →
    c ≠ .powerOnReset → c ≠ .powerLoss → (∀ l b, c ≠ .powerOnResetEnd l b) → exec c s = .next s

/-- The idle conditions of R182, one by one: the idle timer runs after the judgement exactly when the running part is AWAKE
and all of them hold; a running timer runs on, a stopped one starts at the doze idle time; the judgement changes nothing
else. "The conditions are judged again in every event that changes any of them": after every command taken by a running
part the timer stands as the judgement leaves it (log entry 12: judged at the event's end). The end of a power-on reset
does not come to a running part. -/
def Obligations.IdleTimerRunsWhileIdle : Prop :=
  (∀ s : State,
    (∃ o, s.judgeIdle = { s with wake := { s.wake with idleTimer := o } }) ∧
    (s.judgeIdle.wake.idleTimer.isSome = true ↔
      s.power = .running ∧ s.wake.state = .awake ∧
      (∃ g, s.store.running = some g ∧ g.dozePermitted = true) ∧
      (∀ x ∈ s.inlets, x.state = .locked ∧ x.slot = none ∧ x.query = none) ∧
      s.lift.session = none ∧ s.lift.carrier = false ∧
      (∀ k ∈ s.containers, k.pair.stage = .none) ∧
      (∀ p, (s.port p).receiver = .hunting ∧ (s.port p).state = .free) ∧
      s.store.writer = none) ∧
    (∀ t, s.judgeIdle.wake.idleTimer = some t → s.wake.idleTimer = some t ∨
      s.wake.idleTimer = none ∧ ∃ g, s.store.running = some g ∧ t = s.now + g.dozeSeconds * 1000)) ∧
  (∀ (c : Instr) (s t : State), s.power = .running → (∀ l b, c ≠ .powerOnResetEnd l b) → exec c s = .next t →
    t.judgeIdle = t)

/-! ## Power and resets -/

/-- What the machine holds right after power-on reset over a memory without a valid image (R95, R126, R151, R160, R170,
R175, R176, R181). The unwritten memory and the pin levels are the model's choice (log entry 4). -/
def Obligations.ResetState : Prop :=
  State.reset.power = .running ∧ State.reset.now = 0 ∧ State.reset.store.running = none ∧
  State.reset.clock.count = 0 ∧ State.reset.clock.set = false ∧ State.reset.run = none ∧
  State.reset.containers = [] ∧ State.reset.inlets = [] ∧ State.reset.dueList = [] ∧
  State.reset.cards = ⟨[], false, 0⟩ ∧ State.reset.journal = ⟨[], 1, 0, 0, false, false⟩ ∧
  State.reset.lift.session = none ∧ State.reset.lift.last = none ∧ State.reset.store.writer = none ∧
  State.reset.store.writerIdle = none ∧ State.reset.wake.state = .awake ∧ State.reset.wake.idleTimer = none ∧
  (∀ p, State.reset.port p = ⟨.hunting, none, .free, 0, kindSet .restart, 0, 0, 1⟩)

/-- The machine right after reset is sound in every respect of Safety.lean. -/
def Obligations.ResetIsSound : Prop :=
  State.reset.JournalSound ∧ State.reset.cards.Sound ∧ State.reset.store.Sound ∧ State.reset.DueListSound ∧
  State.reset.LiftSound ∧ State.reset.InletsSound ∧ State.reset.PortsSound ∧ State.reset.WakeSound ∧
  State.reset.clock.Sound

/-- POWER_ON_RESET and POWER_LOSS (R2, R71, R152, R175): nothing survives but the serial memory, of which only the bytes
of a write under way may change (R177), with every lock and lift lock output engaged and every attention line released.
And when an output is released at all: in a running part, a lift lock exactly while its container is RELEASED or LIFTED
(R6), an inlet lock exactly while its inlet is not LOCKED (R71, R74), so that neither is for a number that is not
configured; the outputs follow the records (log entry 33). That the pins and the queue stand outside the part is the
model's choice (log entries 4 and 17). The model's choices in it: log entry 6. -/
def Obligations.PowerOnResetAndPowerLoss : Prop :=
  (∀ (s : State) (c : Instr) (q : Power), c = .powerOnReset ∧ q = .starting ∨ c = .powerLoss ∧ q = .off →
    ∃ (t : State) (m : List Host.Cell) (d : Nat), exec c s = .next t ∧
      t = { State.reset with
            power := q, lines := s.lines, store := { State.reset.store with memory := m }, drawn := d
            pending := s.pending } ∧
      (∀ a, (∀ w ∈ s.store.writes, a < w.offset ∨ w.offset + w.data.length ≤ a) →
        readByte m a = readByte s.store.memory a) ∧
      (s.store.writes = [] → m = s.store.memory) ∧
      (∀ n, t.liftLockReleased n = false ∧ t.inletLockReleased n = false) ∧ (∀ p, t.attentionLine p = false)) ∧
  (∀ (s : State) (n : Nat), s.power = .running →
    (s.liftLockReleased n = true ↔ ∃ k, s.containers[n]? = some k ∧ (k.state = .released ∨ k.state = .lifted)) ∧
    (s.inletLockReleased n = true ↔ ∃ x, s.inlets[n]? = some x ∧ x.state ≠ .locked))

/-- POWER_ON_RESET_END. Over an invalid image (R175, R176): UNCONFIGURED, every block at its power-on values. Over a
valid image (R4, R33, R75, R95, R126, R151, R160, R175): CONFIGURED; the container and inlet records at their power-on
values, every container not displaced queued SCHEDULED at once, every other block as at reset; then the arbiter, which
ArbiterChoice states (R30), and the judgement of the idle conditions, which IdleTimerRunsWhileIdle states (log entry
37). The carrier line is read in both cases (R132, R151), in the UNCONFIGURED one by the model's choice (R176; log entry
25). The model's other choices in it: log entries 8, 10, 37. -/
def Obligations.PowerOnResetEnd : Prop :=
  (∀ (s : State) (l : FieldLines) (carrier : Bool), s.power = .starting → judgeImage s.store.memory = none →
    exec (.powerOnResetEnd l carrier) s = .next
      { State.reset with
        lines := l, store := { State.reset.store with memory := s.store.memory }
        lift := { State.reset.lift with carrier := carrier }, drawn := s.drawn, pending := s.pending }) ∧
  (∀ (s : State) (l : FieldLines) (carrier : Bool) (g : StationConfig),
    s.power = .starting → judgeImage s.store.memory = some g →
    ∃ t : State, exec (.powerOnResetEnd l carrier) s = .next t.arbitrate.judgeIdle ∧
      t = { State.reset with
            lines := l, store := { State.reset.store with memory := s.store.memory, running := some g }
            lift := { State.reset.lift with carrier := carrier }, drawn := s.drawn, pending := s.pending
            containers := t.containers, inlets := t.inlets } ∧
      t.containers.length = g.containers.length ∧ t.inlets.length = g.inlets.length ∧
      (∀ (c : Nat) (cfg : ContainerSettings), g.containers[c]? = some cfg → t.containers[c]? = some
        { cfg := cfg, state := .serving, seated := l.seat.getLsbD c, seatHold := none,
          displaced := !l.seat.getLsbD c, hot := false, note := none, level := none, levelStatus := .noReading,
          tempStatus := .none, lastTemp := none, added := 0, floorRef := cfg.floor, residue := false, misses := 0,
          mismatches := 0, full := false, pair := if l.seat.getLsbD c then requestedPair .scheduled 0 else .idle
          nextDue := cfg.pingMinutes * 60000 }) ∧
      (∀ (i : Nat) (cfg : InletSettings), g.inlets[i]? = some cfg → ∃ x : Inlet, t.inlets[i]? = some x ∧
        x = { cfg := cfg, state := .locked, window := none, windowTimer := none, serviceTimer := none, runOut := false,
              slot := none, query := none, lidOpen := (l.lid.getLsbD i == cfg.activeHigh), rejectStart := none,
              lid := x.lid, limitTimer := x.limitTimer, stuck := false, forced := 0, cycles := 0 } ∧
        (x.lidOpen = false → x.lid = none ∧ x.limitTimer = none) ∧
        (x.lidOpen = true → x.lid.map LidOpen.cause = some .uncounted ∧ x.limitTimer = some (cfg.limitSeconds * 1000))))

/-- A warm restart by the reset line of an AWAKE part (R4, R17, R33, R61, R63, R75, R95, R126, R150, R160, R170, R179), from
the state v in which the lines have moved to the given levels, as StepWithoutCommand says (R7, R72). Where
the seat lines agree with the kept seat states: what each block keeps and what it loses. Whatever the lines show: the
warm values and the due events, then each container in ascending number taken as a seat change to the level that its line
shows (R17), then the arbiter. And what such a seat change does: nothing where the line agrees; an unseat makes a
SERVING or SUSPENDED container displaced and ends the emptying of a VERIFYING one; a reseat makes a LIFTED container
VERIFYING, with the session as it then stands, and a displaced one displaced no longer. The model's choices in it: log
entries 8, 10, 13, 24, 34, 35, 41. -/
def Obligations.WarmRestartByResetLine : Prop :=
  (∀ (s v : State) (l : FieldLines), s.attends = true → v = s.moveLines l →
    (∀ (c : Nat) (k : Container), v.containers[c]? = some k → k.seated = l.seat.getLsbD c) →
    ∃ t : State, exec (.resetLineAssertion l) s = .next t ∧ v.WarmBlocks t ∧
      t.containers.length = v.containers.length ∧
      (∀ (c : Nat) (k : Container), v.containers[c]? = some k → ∃ m : Container, t.containers[c]? = some m ∧
        m = k.restartedRecord v.now m.pair ∧
        (k.state = .claimed ∨ k.state = .released → m.state = .serving) ∧
        (k.state ≠ .claimed → k.state ≠ .released → m.state = k.state) ∧
        (k.state = .verifying → m.pair.cls = some .verify ∧ m.pair.attempt = some 1 ∧ m.pair.stage ≠ .none) ∧
        (k.state ≠ .verifying → k.unmeasured = true → m.pair = .idle) ∧
        (k.state ≠ .verifying → k.unmeasured = false →
          m.pair.cls = some (if k.hot then .demand else .scheduled) ∧
          (m.pair.stage = .firstQueued ∨ m.pair.stage = .firstRunning)))) ∧
  (∀ (s v : State) (l : FieldLines), s.attends = true → v = s.moveLines l →
    ∃ u : State, v.WarmBlocks u ∧ u.run = none ∧ u.wake.idleTimer = none ∧
      u.containers = v.containers.map (fun k => k.restartedRecord v.now
        (if k.state = ServiceState.verifying then requestedPair .verify v.now
          else if k.state = ServiceState.lifted ∨ k.displaced = true then .idle
          else requestedPair (if k.hot then .demand else .scheduled) v.now)) ∧
      exec (.resetLineAssertion l) s = .next
        (((List.range v.containers.length).foldl (fun w c => w.takeSeat c (l.seat.getLsbD c)) u).arbitrate.judgeIdle)) ∧
  (∀ (s : State) (c : Nat) (k : Container), s.containers[c]? = some k →
    let away : Container := { k.displacedRecord with seatHold := k.seatHold }
    let s1 : State := { s with
      run := detachedRun c s.run, containers := s.containers.set c away, inlets := windowsEnded c s.inlets }.raise .seat
    s.takeSeat c k.seated = s ∧
    (k.seated = true → k.state = .serving ∨ k.state = .suspended → s.takeSeat c false = s1) ∧
    (k.seated = true → k.state = .verifying →
      s.takeSeat c false = { s1 with
        containers := s.containers.set c { away with
          level := some (assumedEmptyLevel k s.clock.count), added := 0 } }.finishEmptying c none false
            .verifyUnseated) ∧
    (k.seated = false → k.pair = .idle → k.state = .lifted →
      s.takeSeat c true = { s with
        containers := s.containers.set c { k with
          seated := true, state := .verifying, pair := requestedPair .verify s.now
          note := some ⟨k.note.bind EmptyingNote.before, s.lift.session.map Session.vehicle,
            some s.lift.session.isSome⟩ }
        lift := { s.lift with session := s.lift.session.map fun x : Session => { x with claimed := none } } }.raise
          .lift) ∧
    (k.seated = false → k.pair = .idle → k.state ≠ .lifted → k.displaced = true →
      s.takeSeat c true = { s with
        containers := s.containers.set c { k with
          seated := true, displaced := false, pair := requestedPair .demand s.now } }.raise .seat))

/-- RESTART (R179): the same warm restart as the reset line's, and then the reply OK from the requesting port. The
model's choices in it: log entries 8, 12, 24, 29. -/
def Obligations.RestartRequest : Prop :=
  ∀ (s : State) (p : Port) (tag : Byte) (l : FieldLines), s.listening p = true → p ≠ .vehicle →
    ∃ u : State, exec (.resetLineAssertion l) s = .next u ∧
      exec (.restart p tag [] l) s = .next
        (u.updPort p fun b => { b with state := .replying (replyFrame 0x06 tag 0x00 []) }).judgeIdle

/-! ## Frames and ports -/

/-- A request frame carries its request: read back, it gives the code, the tag and the parameters (R153, R154). -/
def Obligations.RequestFrameRoundTrip : Prop :=
  ∀ (code tag : Byte) (ps : List Byte), ps.length ≤ 246 → parseRequestFrame (requestFrame code tag ps) = some (code, tag, ps)

/-- A good frame that arrives byte by byte at a listening port is taken at its check byte, with the receiver HUNTING
again and the gap timer started (R155, R157). The model's choices in it: log entries 20, 22, 29. -/
def Obligations.ReceiverTakesGoodFrame : Prop :=
  ∀ (s : State) (p : Port) (code tag : Byte) (ps : List Byte), s.listening p = true → ps.length ≤ 246 →
    s.receiveBytes p (lineFrame code tag ps) = (s.startGap p).takeFrame p code tag ps

/-- The check byte of both kinds of frame makes the bytes after the start byte sum to a multiple of 256, and the start bytes,
the length bytes and the places of the code, the tag, the status and the payload are as R153 says (R153, R154); and the
manual's example of a Measure Now frame and its reply, byte for byte (the example after R154). -/
def Obligations.FrameCheckSums : Prop :=
  ((∀ (code tag : Byte) (ps : List Byte),
    ((requestFrame code tag ps).tail.map BitVec.toNat).sum % 256 = 0 ∧ (requestFrame code tag ps).head? = some 0xA5 ∧
    (requestFrame code tag ps).length = ps.length + 5 ∧
    (ps.length ≤ 246 → ((requestFrame code tag ps)[1]?).map BitVec.toNat = some (ps.length + 2)) ∧
    ((requestFrame code tag ps).drop 2).take (ps.length + 2) = code :: tag :: ps) ∧
  (∀ (code tag st : Byte) (pl : List Byte),
    ((replyFrame code tag st pl).tail.map BitVec.toNat).sum % 256 = 0 ∧ (replyFrame code tag st pl).head? = some 0x5A ∧
    (replyFrame code tag st pl).length = pl.length + 6 ∧
    (pl.length ≤ 245 → ((replyFrame code tag st pl)[1]?).map BitVec.toNat = some (pl.length + 3)) ∧
    ((replyFrame code tag st pl).drop 2).take (pl.length + 3) = code :: tag :: st :: pl)) ∧
  (requestFrame 0x13 0x07 [0x02] = [0xA5, 0x03, 0x13, 0x07, 0x02, 0xE1] ∧
  replyFrame 0x13 0x07 0x00 [] = [0x5A, 0x03, 0x13, 0x07, 0x00, 0xE3] ∧
  parseRequestFrame [0xA5, 0x03, 0x13, 0x07, 0x02, 0xE1] = some (0x13, 0x07, [0x02]))

/-- Cases 1 to 4 of R157 against the index of R158, for every request. Cases 2 to 4: a parameter byte count that is not
allowed gives BAD_LENGTH, then a port that may not send it NOT_PERMITTED, then the UNCONFIGURED part UNCONFIGURED;
each is a reply, and nothing else changes but for the field lines, which RESTART's command moves.
UNKNOWN_REQUEST_CODE (case 1): a good frame whose code is not in the index is answered UNKNOWN_REQUEST, whatever its
port and its length, and changes no record. The model's choices in it: log entries 8, 12, 20, 24, 29. -/
def Obligations.RequestsRefused : Prop :=
  (∀ (i : Instr) (p : Port) (code tag : Byte) (ps : List Byte) (ports : List Port) (lo hi : Nat) (open' : Bool) (s : State),
    requestParts i = some (p, code, tag, ps) → (code, ports, lo, hi, open') ∈ printedIndex →
    s.listening p = true →
    let badLength := ps.length < lo ∨ hi < ps.length ∨ code = 0x38 ∧ ps.length ≠ 7 ∧ ps.length ≠ 25
    (badLength → exec i s = .next (((s.linesOf i).replied p code tag 0x11 []).judgeIdle)) ∧
    (¬ badLength → p ∉ ports → exec i s = .next (((s.linesOf i).replied p code tag 0x13 []).judgeIdle)) ∧
    (¬ badLength → p ∈ ports → s.store.running = none → open' = false →
      exec i s = .next (((s.linesOf i).replied p code tag 0x14 []).judgeIdle))) ∧
  (∀ (s : State) (p : Port) (code tag : Byte) (ps : List Byte), s.listening p = true →
    (∀ r ∈ printedIndex, r.1 ≠ code) →
    exec (.unknownRequestCode p code tag ps) s = .next ((s.replied p code tag 0x10 []).judgeIdle))

/-- A request that arrives while the port is HOLDING or REPLYING (R155, R156): the frame is discarded and counted once,
the receiver is SKIPPING, and the request is not carried out. The model's choices in it: log entries 8, 12, 20, 24. -/
def Obligations.BusyPortDiscardsFrame : Prop :=
  ∀ (i : Instr) (p : Port) (code tag : Byte) (ps : List Byte) (s : State),
    requestParts i = some (p, code, tag, ps) ∨ i = .unknownRequestCode p code tag ps →
    s.attends = true → (s.port p).receiver = .hunting → (s.port p).state ≠ .free →
    exec i s = .next (((s.linesOf i).updPort p fun b =>
      { b with receiver := .skipping, gap := some (s.now + 20), discarded := min (b.discarded + 1) 255 }).judgeIdle)

/-- BAD_FRAME at a HUNTING receiver of a FREE port (R155, R156): a wrong check sum and a length byte out of range discard
the frame, count it once and leave the receiver HUNTING or SKIPPING; no reply, no record changed. A frame of a wrong
check sum stops the idle timer at its start byte, and it starts afresh at the check byte if the idle conditions then
hold (R182). And each row of R155 for a received byte, at a port of an AWAKE part: in HUNTING, whatever the port's state,
bytes that are no start byte are ignored and not counted; a start byte begins RECEIVING at a FREE port, and at a HOLDING
or REPLYING one it discards the frame, whose further bytes go by in SKIPPING; in RECEIVING a length byte in range and a
further byte are kept, a length byte out of range and a byte with a framing error discard the frame, a wrong check byte
discards it and a right one has its request taken; in SKIPPING every byte is ignored. Each byte starts the gap timer
again. The two rows of the gap timer's expiry: GapTimerAndReplySent. The model's choices in it: log entries 12, 20,
22. -/
def Obligations.BadFrameIsDiscarded : Prop :=
  (∀ (s : State) (p : Port), s.listening p = true →
    (∀ (body : List Byte) (check : Byte), 2 ≤ body.length → body.length ≤ 248 →
      (byteSum (BitVec.ofNat 8 body.length :: body) + check ≠ 0) →
      exec (.badFrame p ((0xA5 :: BitVec.ofNat 8 body.length :: (body ++ [check])).map fun b => ⟨b, false⟩)) s =
        .next (({ s with wake := { s.wake with idleTimer := none } }.updPort p fun b =>
          { b with gap := some (s.now + 20), discarded := min (b.discarded + 1) 255 }).judgeIdle)) ∧
    (∀ (len : Byte) (rest : List RxByte), len.toNat < 2 ∨ 248 < len.toNat →
      exec (.badFrame p (⟨0xA5, false⟩ :: ⟨len, false⟩ :: rest)) s =
        .next ((s.updPort p fun b =>
          { b with receiver := .skipping, gap := some (s.now + 20), discarded := min (b.discarded + 1) 255 }).judgeIdle)) ∧
    (∀ b : RxByte, b.framingError = true ∨ b.val ≠ 0xA5 →
      exec (.badFrame p [b]) s = .next ((s.updPort p fun b => { b with gap := some (s.now + 20) }).judgeIdle))) ∧
  (∀ (s : State) (p : Port), s.attends = true →
    let after : Receiver → State := fun r => (s.updPort p fun b => { b with receiver := r, gap := some (s.now + 20) }).judgeIdle
    let discarded : Receiver → State := fun r => (s.updPort p fun b => { b with
      receiver := r, gap := some (s.now + 20), discarded := min (b.discarded + 1) 255 }).judgeIdle
    (∀ bs : List RxByte, bs ≠ [] →
      (s.port p).receiver = .skipping ∨
        (s.port p).receiver = .hunting ∧ (∀ b ∈ bs, b.framingError = true ∨ b.val ≠ 0xA5) →
      exec (.badFrame p bs) s = .next (after (s.port p).receiver)) ∧
    ((s.port p).receiver = .hunting → (s.port p).state = .free →
      exec (.badFrame p [⟨0xA5, false⟩]) s = .next (after (.receiving []))) ∧
    (∀ len : Byte, (s.port p).receiver = .receiving [] → 2 ≤ len.toNat → len.toNat ≤ 248 →
      exec (.badFrame p [⟨len, false⟩]) s = .next (after (.receiving [len]))) ∧
    (∀ (len b : Byte) (got : List Byte), (s.port p).receiver = .receiving (len :: got) → 2 ≤ len.toNat →
      len.toNat ≤ 248 → got.length < len.toNat →
      exec (.badFrame p [⟨b, false⟩]) s = .next (after (.receiving (len :: (got ++ [b]))))) ∧
    (∀ (len b : Byte) (got : List Byte), (s.port p).receiver = .receiving (len :: got) → 2 ≤ len.toNat →
      len.toNat ≤ 248 → got.length = len.toNat →
      (byteSum (len :: got) + b ≠ 0 → exec (.badFrame p [⟨b, false⟩]) s = .next (discarded .hunting)) ∧
      (byteSum (len :: got) + b = 0 → ∀ (code tag : Byte) (ps : List Byte), got = code :: tag :: ps →
        exec (.badFrame p [⟨b, false⟩]) s =
          .next (((s.updPort p fun b => { b with receiver := .hunting, gap := some (s.now + 20) }).takeFrame
            p code tag ps).judgeIdle))) ∧
    (∀ len : Byte, (s.port p).receiver = .receiving [] → len.toNat < 2 ∨ 248 < len.toNat →
      exec (.badFrame p [⟨len, false⟩]) s = .next (discarded .skipping)) ∧
    (∀ rest : List RxByte, (s.port p).receiver = .hunting → (s.port p).state ≠ .free →
      exec (.badFrame p (⟨0xA5, false⟩ :: rest)) s = .next (discarded .skipping)) ∧
    (∀ (got : List Byte) (b : Byte), (s.port p).receiver = .receiving got →
      exec (.badFrame p [⟨b, true⟩]) s = .next (discarded .skipping)))

/-- GAP_TIMER_EXPIRY (R155, R156): in RECEIVING the frame is discarded and counted; every receiver is HUNTING after it; the
expiry falls at the timer's moment. REPLY_SENT (R157): "The sending ends at the stop bit of the reply's last byte, and the
port becomes FREE." A port that is sending nothing stays as it is, which is the model's choice (log entry 31). The
model's other choices in it: log entries 3, 12. -/
def Obligations.GapTimerAndReplySent : Prop :=
  (∀ (s : State) (p : Port) (t : Nat), s.power = .running → (s.port p).gap = some t →
    exec (.gapTimerExpiry p) s = .next (({ s with now := max s.now t }.updPort p fun b =>
      { b with
        receiver := .hunting, gap := none
        discarded := match b.receiver with
          | .receiving _ => min (b.discarded + 1) 255
          | .hunting | .skipping => b.discarded }).judgeIdle)) ∧
  (∀ (s : State) (p : Port), s.power = .running →
    (∀ f, (s.port p).state = .replying f →
      exec (.replySent p) s = .next ((s.updPort p fun b => { b with state := .free }).judgeIdle)) ∧
    ((∀ f, (s.port p).state ≠ .replying f) → exec (.replySent p) s = .next s.judgeIdle))

/-! ## Attention and status -/

/-- The twelve kinds stand at the positions 0 to 11 that R161 prints. Raising a kind sets its flag at all three ports and
no other, and changes nothing else (R161); a port's line is asserted exactly when it holds the HEAT flag or a flag whose
kind its mask enables (R162). -/
def Obligations.AttentionFlagsAndLines : Prop :=
  [AttentionKind.cardQuery, .level, .due, .full, .sensor, .inlet, .heat, .lift, .seat, .journal, .config,
    .restart].map kindPosition = [0, 1, 2, 3, 4, 5, 6, 7, 8, 9, 10, 11] ∧
  (∀ (s : State) (k : AttentionKind), s.raise k = { s with ports := (s.raise k).ports } ∧
    s.raiseIf true k = s.raise k ∧ s.raiseIf false k = s) ∧
  (∀ (s : State) (k : AttentionKind) (p : Port),
    (s.raise k).port p = { s.port p with flags := ((s.raise k).port p).flags } ∧
    (∀ n, n < 12 → ((s.raise k).port p).flags.getLsbD n = ((s.port p).flags.getLsbD n || decide (n = kindPosition k)))) ∧
  (∀ (s : State) (p : Port), s.power = .running →
    (s.attentionLine p = true ↔
      ∃ n, (s.port p).flags.getLsbD n = true ∧ (n = 6 ∨ (s.port p).mask.getLsbD n = true)))

/-- ACKNOWLEDGE_ATTENTION (R163) and SET_ATTENTION_MASK (R164; the HEAT position, 6, is not taken). The model's choices
in it: log entries 12, 20, 29. -/
def Obligations.AttentionRequests : Prop :=
  (∀ (s : State) (p : Port) (tag hi lo : Byte), s.listening p = true → s.configured = true →
    (16 ≤ hi.toNat →
      exec (.acknowledgeAttention p tag [hi, lo]) s = .next ((s.replied p 0x02 tag 0x12 []).judgeIdle)) ∧
    (hi.toNat < 16 → ∃ f : KindSet,
      (∀ n, f.getLsbD n = ((s.port p).flags.getLsbD n && !(hi ++ lo).getLsbD n)) ∧
      exec (.acknowledgeAttention p tag [hi, lo]) s =
        .next (((s.updPort p fun b => { b with flags := f }).replied p 0x02 tag 0x00
          [BitVec.ofNat 8 (f.toNat / 256), BitVec.ofNat 8 f.toNat]).judgeIdle))) ∧
  (∀ (s : State) (p : Port) (tag hi lo : Byte), s.listening p = true → s.configured = true →
    (16 ≤ hi.toNat →
      exec (.setAttentionMask p tag [hi, lo]) s = .next ((s.replied p 0x03 tag 0x12 []).judgeIdle)) ∧
    (hi.toNat < 16 → ∃ m : KindSet,
      (∀ n, m.getLsbD n = ((hi ++ lo).getLsbD n && decide (n ≠ 6))) ∧
      exec (.setAttentionMask p tag [hi, lo]) s =
        .next (((s.updPort p fun b => { b with mask := m }).replied p 0x03 tag 0x00 []).judgeIdle)))

/-- READ_STATUS (R165): the 22 bytes of the status reply, then the port's discarded-frame count at 0, and nothing else
changed; open in every mode and at every port. The model's choices in it: log entries 12, 20, 29. -/
def Obligations.ReadStatus : Prop :=
  ∀ (s : State) (p : Port) (tag : Byte), s.listening p = true →
    exec (.readStatus p tag []) s =
      .next (((s.updPort p fun b => { b with discarded := 0 }).replied p 0x01 tag 0x00
        (([if s.store.running.isSome then 0 else 1, (s.store.running.map StationConfig.version).getD 0,
          BitVec.ofNat 8 s.containers.length, BitVec.ofNat 8 s.inlets.length,
          if s.cards.loaded then 1 else 0] : List Byte) ++
         be 2 s.cards.entries.length ++ ([if s.clock.set then 1 else 0] : List Byte) ++
         be 2 s.journal.entries.length ++ be 2 s.journal.overflow ++ be 2 s.journal.lost ++
         ([if s.lift.session.isSome then 1 else 0, BitVec.ofNat 8 s.dueList.length,
          match s.store.writer with
          | none => 0xFF
          | some .network => 0
          | some .vehicle => 1
          | some .service => 2] : List Byte) ++
         be 2 (s.port p).flags.toNat ++ be 2 ((s.port p).mask ||| kindSet .heat).toNat ++
         [BitVec.ofNat 8 (s.port p).discarded])).judgeIdle)

/-- The reports that change nothing (R16, R65, R92, R110, R149, R172): READ_CLOCK, READ_CONTAINER, READ_DUE_LIST,
READ_INLET, READ_QUERIES and READ_LIFT reply OK with their records, and only the requesting port changes. The model's
choices in it: log entries 12, 20, 29. -/
def Obligations.ReportsChangeNothing : Prop :=
  ∀ (s : State) (p : Port) (tag : Byte), s.listening p = true →
    exec (.readClock p tag []) s = .next ((s.replied p 0x04 tag 0x00
      (be 4 s.clock.count ++ [if s.clock.set then 1 else 0])).judgeIdle) ∧
    (s.configured = true →
      exec (.readDueList p tag []) s = .next ((s.replied p 0x14 tag 0x00 (dueListBytes s)).judgeIdle) ∧
      exec (.readLift p tag []) s = .next ((s.replied p 0x54 tag 0x00 (liftBytes s)).judgeIdle) ∧
      (p ≠ .vehicle →
        exec (.readQueries p tag []) s = .next ((s.replied p 0x37 tag 0x00 (queriesBytes s)).judgeIdle)) ∧
      (∀ n : Byte,
        exec (.readContainer p tag [n]) s = .next (match s.containers[n.toNat]? with
          | some k => (s.replied p 0x10 tag 0x00 (containerBytes s n.toNat k)).judgeIdle
          | none => (s.replied p 0x10 tag 0x12 []).judgeIdle) ∧
        exec (.readInlet p tag [n]) s = .next (match s.inlets[n.toNat]? with
          | some x => (s.replied p 0x20 tag 0x00 (inletBytes s n.toNat x)).judgeIdle
          | none => (s.replied p 0x20 tag 0x12 []).judgeIdle)))

/-- The record layouts of R169, field by field: every field of the container, inlet, lift and status replies, of the due list
and queries replies and of the journal and card entries at its offset, most significant byte first, with the value codes,
the flag bits and what an absent value is sent as; and the sizes of these records. The image header (ImageWrites) and the
payloads of Acknowledge Attention, Read Clock, Read Journal, Read Cards and Answer Card stand in the statements of their
requests. -/
def Obligations.RecordLayouts : Prop :=
  ((∀ s c k, (containerBytes s c k).length = 34) ∧ (∀ s i x, (inletBytes s i x).length = 23) ∧
  (∀ s p, (statusBytes s p).length = 22) ∧ (∀ k, (cardBytes k).length = 18) ∧
  (∀ e, (journalEntryBytes e).length = 18) ∧
  (∀ s, (liftBytes s).length = 23 + 7 * (s.containers.filter fun k => decide (k.state = .verifying)).length) ∧
  (∀ s, (dueListBytes s).length = 1 + 11 * s.dueList.length) ∧
  (∀ s, (queriesBytes s).length = 1 + 11 * (s.inlets.filter fun x => x.query.isSome).length)) ∧
  (∀ (s : State) (c : Nat) (k : Container),
    let b := containerBytes s c k
    let estimate := k.level.map fun l => min (l.volume + k.added) (s.capacity k)
    field b 0 1 = c % 256 ∧
    [ServiceState.serving, .claimed, .released, .lifted, .verifying, .suspended][field b 1 1]? = some k.state ∧
    (∀ n, (b.getD 2 0).getLsbD n = [k.seated, k.displaced, k.hot, k.full, k.residue,
      s.dueList.any fun e => decide (e.container = c), k.level.isSome, (k.level.map Level.assumed).getD false].getD n
        false) ∧
    (∀ n, (b.getD 3 0).getLsbD n = [k.lastTemp.isSome, (k.lastTemp.map LastTemp.clamped).getD false].getD n false) ∧
    [LevelStatus.noReading, .good, .unsure, .sensorFault][field b 4 1]? = some k.levelStatus ∧
    [TempStatus.none, .valid, .fault][field b 5 1]? = some k.tempStatus ∧
    [Stage.none, .firstQueued, .firstRunning, .awaitSecond, .secondQueued, .secondRunning][field b 6 1]? =
      some k.pair.stage ∧
    [none, some PairClass.scheduled, some .demand, some .verify][field b 7 1]? = some k.pair.cls ∧
    field b 8 2 = (k.level.map Level.height).getD 0 % 65536 ∧ field b 10 2 = (k.level.map Level.volume).getD 0 % 65536 ∧
    field b 12 2 = (k.level.map Level.perMille).getD 0 % 65536 ∧
    (field b 14 2 : Int) = (k.level.map Level.tHalf).getD 0 % 65536 ∧
    field b 16 4 = (k.level.map Level.time).getD 0 % 4294967296 ∧ field b 20 2 = k.added % 65536 ∧
    field b 22 2 = estimate.getD 0 % 65536 ∧
    field b 24 2 = (estimate.map fun e => e * 1000 / s.capacity k).getD 0 % 65536 ∧
    field b 26 2 = k.floorRef % 65536 ∧ (field b 28 2 : Int) = (k.lastTemp.map LastTemp.tHalf).getD 0 % 65536 ∧
    field b 30 2 = (k.lastTemp.map fun t => min ((s.now - t.time) / 1000) 65535).getD 0 ∧
    field b 32 1 = k.misses % 256 ∧ field b 33 1 = k.mismatches % 256) ∧
  (∀ (s : State) (i : Nat) (x : Inlet), s.inlets[i]? = some x →
    let b := inletBytes s i x
    field b 0 1 = i % 256 ∧ field b 1 1 = x.cfg.container % 256 ∧ field b 2 1 = x.cfg.nominal % 256 ∧
    [InletState.locked, .unlocked, .inUse, .serviceOpen][field b 3 1]? = some x.state ∧
    (∀ n, (b.getD 4 0).getLsbD n = [decide (x.state ≠ .locked), x.lidOpen, x.stuck, x.runOut, x.window.isSome,
      (x.window.map WindowRecord.unverified).getD false].getD n false) ∧
    [none, some LidCause.window, some .service, some .forced, some .uncounted][field b 5 1]? =
      some (x.lid.map LidOpen.cause) ∧
    [none, some OpeningCause.card, some .anonymous, some .service][field b 6 1]? =
      some (x.window.map WindowRecord.cause) ∧
    field b 7 5 = (x.window.bind WindowRecord.card).getD 0 % 1099511627776 ∧
    field b 12 2 = (x.window.bind WindowRecord.household).getD 0 % 65536 ∧
    field b 14 2 = (match x.state with
      | .unlocked => (x.windowTimer.map fun t => (t - s.now) / 1000).getD 0
      | .serviceOpen => (x.serviceTimer.map fun t => (t - s.now) / 1000).getD 0
      | .locked | .inUse => 0) % 65536 ∧
    field b 16 5 = x.slot.getD 0 % 1099511627776 ∧ field b 21 1 = x.forced % 256 ∧ field b 22 1 = x.cycles % 256) ∧
  (∀ s : State,
    let b := liftBytes s
    let lift : Container → Bool := fun k => decide (k.state = .claimed ∨ k.state = .released ∨ k.state = .lifted)
    let held := s.containers.zipIdx.filter fun x => decide (x.1.state = .verifying)
    (∀ n, (b.getD 0 0).getLsbD n = [s.lift.session.isSome, s.lift.carrier, s.lift.last.isSome].getD n false) ∧
    field b 1 2 = (s.lift.session.map Session.vehicle).getD 0 % 65536 ∧
    field b 3 1 = (s.lift.session.map fun x => x.fractions.toNat).getD 0 ∧
    field b 4 4 = (s.lift.session.map Session.opened).getD 0 % 4294967296 ∧
    field b 8 1 = (s.lift.session.bind Session.claimed).getD 255 % 256 ∧
    field b 9 1 = (s.lift.carrierLoss.map fun t => (t - s.now) / 1000).getD 255 % 256 ∧
    ((∀ k ∈ s.containers, lift k = false) →
      field b 10 1 = 255 ∧ field b 11 1 = 0 ∧ field b 12 2 = 0 ∧ field b 14 2 = 0) ∧
    (∀ c k, s.containers[c]? = some k → lift k = true →
      (∀ d m, d < c → s.containers[d]? = some m → lift m = false) →
      field b 10 1 = c % 256 ∧
      [ServiceState.serving, .claimed, .released, .lifted][field b 11 1]? = some k.state ∧
      field b 12 2 = (match k.state with
        | .claimed => (s.lift.lidWait.map fun t => (t - s.now) / 1000).getD 0
        | .released => (s.lift.releaseWait.map fun t => (t - s.now) / 1000).getD 0
        | .lifted | .serving | .verifying | .suspended => 0) % 65536 ∧
      (∀ n, n < 16 → (b.getD 14 0 ++ b.getD 15 0).getLsbD n =
        (decide (k.state = .claimed) && (s.inlets[n]?).any fun y =>
          decide (y.cfg.container = c ∧ (y.state ≠ .locked ∨ y.lidOpen = true))))) ∧
    field b 16 1 = (s.lift.last.map LiftResult.container).getD 0 % 256 ∧
    [none, some LiftEnding.lidTimeout, some .releaseTimeout, some .cancelled, some .carrierLost, some .hot,
      some .displaced, some .restart, some .verified, some .verifyFailed, some .verifyUnseated][field b 17 1]? =
        some (s.lift.last.map LiftResult.ending) ∧
    field b 18 4 = (s.lift.last.map LiftResult.time).getD 0 % 4294967296 ∧ field b 22 1 = held.length % 256 ∧
    (∀ j k c, held[j]? = some (k, c) →
      field b (23 + 7 * j) 1 = c % 256 ∧ field b (24 + 7 * j) 1 = k.pair.attempt.getD 0 % 256 ∧
      field b (25 + 7 * j) 2 = (k.note.bind EmptyingNote.before).getD 65535 % 65536 ∧
      field b (27 + 7 * j) 2 = (k.note.bind EmptyingNote.vehicle).getD 0 % 65536 ∧
      field b (29 + 7 * j) 1 = if (k.note.bind EmptyingNote.attended).getD false then 1 else 0)) ∧
  (∀ (s : State) (p : Port),
    let b := statusBytes s p
    field b 0 1 = (if s.store.running.isSome then 0 else 1) ∧
    field b 1 1 = (s.store.running.map fun g => g.version.toNat).getD 0 ∧
    field b 2 1 = s.containers.length % 256 ∧ field b 3 1 = s.inlets.length % 256 ∧
    field b 4 1 = (if s.cards.loaded then 1 else 0) ∧ field b 5 2 = s.cards.entries.length % 65536 ∧
    field b 7 1 = (if s.clock.set then 1 else 0) ∧ field b 8 2 = s.journal.entries.length % 65536 ∧
    field b 10 2 = s.journal.overflow % 65536 ∧ field b 12 2 = s.journal.lost % 65536 ∧
    field b 14 1 = (if s.lift.session.isSome then 1 else 0) ∧ field b 15 1 = s.dueList.length % 256 ∧
    field b 16 1 = (match s.store.writer with
      | none => 255
      | some .network => 0
      | some .vehicle => 1
      | some .service => 2) ∧
    field b 17 2 = (s.port p).flags.toNat ∧
    (∀ n, (b.getD 19 0 ++ b.getD 20 0).getLsbD n = ((s.port p).mask.getLsbD n || decide (n = 6))) ∧
    field b 21 1 = (s.port p).discarded % 256) ∧
  (∀ s : State, field (dueListBytes s) 0 1 = s.dueList.length % 256 ∧
    (∀ j e, s.dueList[j]? = some e →
      let b := (dueListBytes s).drop (1 + 11 * j)
      field b 0 1 = e.container % 256 ∧ field b 1 4 = e.reached % 4294967296 ∧
      field b 5 1 = (if e.clockUnset then 1 else 0) ∧ field b 6 2 = e.perMille % 65536 ∧
      (∀ k, s.containers[e.container]? = some k →
        field b 8 2 = (k.level.map fun l =>
          min (l.volume + k.added) (s.capacity k) * 1000 / s.capacity k).getD 0 % 65536 ∧
        field b 10 1 = if k.full then 1 else 0))) ∧
  (∀ s : State,
    let asked := s.inlets.zipIdx.filter fun x => x.1.query.isSome
    field (queriesBytes s) 0 1 = asked.length % 256 ∧
    (∀ j x i q, asked[j]? = some (x, i) → x.query = some q →
      let b := (queriesBytes s).drop (1 + 11 * j)
      field b 0 1 = i % 256 ∧ field b 1 5 = q.card % 1099511627776 ∧ field b 6 4 = q.posted % 4294967296 ∧
      field b 10 1 = (q.waitEnd - s.now) / 1000 % 256)) ∧
  (∀ e : JournalEntry,
    let b := journalEntryBytes e
    field b 0 4 = e.seq % 4294967296 ∧ field b 6 4 = e.time % 4294967296 ∧ field b 10 1 = e.place % 256 ∧
    (∀ card household unverified, e.body = .deposit card household unverified →
      field b 4 1 = 1 ∧ (∀ n, (b.getD 5 0).getLsbD n = [e.clockUnset, unverified].getD n false) ∧
      field b 11 5 = card % 1099511627776 ∧ field b 16 2 = household.getD 0 % 65536) ∧
    (∀ seconds, e.body = .forced seconds →
      field b 4 1 = 2 ∧ (∀ n, (b.getD 5 0).getLsbD n = [e.clockUnset].getD n false) ∧
      field b 11 2 = seconds % 65536 ∧ field b 13 5 = 0) ∧
    (∀ vehicle before after attended verified, e.body = .emptying vehicle before after attended verified →
      field b 4 1 = 3 ∧ (∀ n, (b.getD 5 0).getLsbD n = [e.clockUnset, false, attended, verified].getD n false) ∧
      field b 11 2 = vehicle.getD 0 % 65536 ∧ field b 13 2 = before.getD 65535 % 65536 ∧
      field b 15 2 = after.getD 65535 % 65536 ∧ field b 17 1 = 0)) ∧
  (∀ k : Card,
    let b := cardBytes k
    field b 0 5 = k.number % 1099511627776 ∧ field b 5 2 = k.household % 65536 ∧
    [CardKind.resident, .temporary, .service][field b 7 1]? = some k.kind ∧
    field b 8 1 = (if k.blocked then 1 else 0) ∧ field b 9 1 = k.rights.toNat ∧ field b 10 1 = k.quota % 256 ∧
    field b 11 1 = k.used % 256 ∧ field b 12 2 = k.overflow % 65536 ∧ field b 14 4 = k.expiry.getD 0 % 4294967296)

/-- A sound card entry's 18 bytes, read back as Put Card reads them, give the entry with its two counts at 0 (R94,
R169). -/
def Obligations.CardEntryRoundTrip : Prop :=
  ∀ k : Card, k.Sound → (∀ e, k.expiry = some e → 0 < e ∧ e < 2 ^ 32) →
    carriedCard (cardBytes k) = some { k with used := 0, overflow := 0 }

/-! ## Clock and configuration -/

/-- SET_CLOCK (R171) and CLOCK_COUNT (R170): the count, the marker and the next second; and the quota period judged at both
(R114, R115). The model's choices in it: log entries 3, 12, 20, 21, 29. -/
def Obligations.ClockRequestsAndCounts : Prop :=
  (∀ (s : State) (tag b0 b1 b2 b3 : Byte), s.listening .network = true →
    ∃ cards : CardTable,
      s.cards.JudgedAt cards (s.store.running.map StationConfig.periodDays) (b0 ++ b1 ++ b2 ++ b3).toNat ∧
      exec (.setClock .network tag [b0, b1, b2, b3]) s =
        .next (({ s with
            clock := { count := (b0 ++ b1 ++ b2 ++ b3).toNat, set := true, next := s.now + 1000 }
            cards := cards }.replied .network 0x05 tag 0x00 []).judgeIdle)) ∧
  (∀ s : State, s.power = .running →
    ∃ cards : CardTable,
      s.cards.JudgedAt cards (s.store.running.map StationConfig.periodDays) (min (s.clock.count + 1) 4294967295) ∧
      exec .clockCount s =
        .next ({ s with
            now := max s.now s.clock.next
            clock := { s.clock with count := min (s.clock.count + 1) 4294967295, next := s.clock.next + 1000 }
            cards := cards }.judgeIdle))

/-- WRITE_IMAGE_BLOCK, WRITE_COMPLETION and WRITER_IDLE_EXPIRY (R177): who may write, the writer and its 60 s, the bytes that
the completion stores and no others in a memory of canonical form (which StepKeepsStoreAndClockSound keeps), and the
reply that it sends. And what the image's bytes give when they are judged (R42, R48, R173, R174): every structural fault
that makes the image invalid, and each setting of a valid one, clamped. The model's choices in it: log entries 3, 7, 12,
20, 29, 36. -/
def Obligations.ImageWrites : Prop :=
  (∀ (s : State) (p : Port) (tag hi lo : Byte) (data : List Byte), s.listening p = true → p ≠ .vehicle →
    1 ≤ data.length → data.length ≤ 244 →
    (4096 < (hi ++ lo).toNat + data.length →
      exec (.writeImageBlock p tag (hi :: lo :: data)) s = .next ((s.replied p 0x07 tag 0x12 []).judgeIdle)) ∧
    ((hi ++ lo).toNat + data.length ≤ 4096 →
      (s.store.check ≠ none ∨ ∃ q, s.store.writer = some q ∧ q ≠ p) →
      exec (.writeImageBlock p tag (hi :: lo :: data)) s = .next ((s.replied p 0x07 tag 0x20 []).judgeIdle)) ∧
    ((hi ++ lo).toNat + data.length ≤ 4096 → s.store.check = none →
      (s.store.writer = none ∨ s.store.writer = some p) →
      exec (.writeImageBlock p tag (hi :: lo :: data)) s = .next (({ s with
        store := { s.store with
          writer := some p, writerIdle := some (s.now + 60000)
          writes := s.store.writes ++ [BlockWrite.mk (hi ++ lo).toNat data (some p)] } }.awaiting p 0x07 tag).judgeIdle))) ∧
  (∀ (s : State) (w : BlockWrite) (ws : List BlockWrite), s.power = .running → s.store.Sound →
    s.store.writes = w :: ws →
    ∃ m : List Host.Cell,
      (∀ a, readByte m a =
        if w.offset ≤ a ∧ a < w.offset + w.data.length then w.data.getD (a - w.offset) 0
        else readByte s.store.memory a) ∧
      (∀ (p : Port) (code tag : Byte), w.port = some p → (s.port p).state = .holding code tag →
        exec .writeCompletion s = .next ((({ s with store := { s.store with memory := m, writes := ws } }.updPort p
          fun b => { b with state := .replying (replyFrame code tag 0x00 []) })).judgeIdle)) ∧
      (w.port = none →
        exec .writeCompletion s = .next ({ s with store := { s.store with memory := m, writes := ws } }.judgeIdle))) ∧
  (∀ (s : State) (t : Nat), s.power = .running → s.store.writerIdle = some t →
    exec .writerIdleExpiry s = .next ({ s with
      now := max s.now t, store := { s.store with writer := none, writerIdle := none } }.judgeIdle)) ∧
  (∀ (m : List Host.Cell) (g : StationConfig), judgeImage m = some g ↔ ImageGives m g)

/-- APPLY_CONFIGURATION and APPLY_CHECK_COMPLETION (R178): refused BUSY for the other port; else the check; and at its
completion, from the state v in which the lines have moved to the given levels (R72), BAD_IMAGE, BUSY, or a
configuration restart (R4, R18, R33, R61, R75, R95, R116, R126, R150, R160, R180): the rebuilt records, then the
arbiter (R30), then the reply. What is judged is the serial memory, in which the bytes of a write still under way may
stand in any state (log entry 6).
The model's choices in it: log entries 6, 8, 10, 12, 13, 20, 21, 24, 29, 35,
41. -/
def Obligations.ApplyConfiguration : Prop :=
  (∀ (s : State) (p : Port) (tag : Byte), s.listening p = true → p ≠ .vehicle →
    ((∃ q, q ≠ p ∧ (s.store.writer = some q ∨ s.store.check = some q)) →
      exec (.applyConfiguration p tag []) s = .next ((s.replied p 0x08 tag 0x20 []).judgeIdle)) ∧
    ((s.store.writer = none ∨ s.store.writer = some p) → (s.store.check = none ∨ s.store.check = some p) →
      exec (.applyConfiguration p tag []) s = .next (({ s with
        store := { s.store with
          check := some p
          writerIdle := if s.store.writer = some p then some (s.now + 60000) else s.store.writerIdle } }.awaiting
            p 0x08 tag).judgeIdle))) ∧
  (∀ (s v : State) (l : FieldLines) (p : Port) (code tag : Byte), s.power = .running → s.store.check = some p →
    (s.port p).state = .holding code tag → v = s.moveLines l →
    ∃ (m : List Host.Cell) (d : Nat),
    (∀ a, (∀ w ∈ s.store.writes, a < w.offset ∨ w.offset + w.data.length ≤ a) →
      readByte m a = readByte s.store.memory a) ∧
    (s.store.writes = [] → m = s.store.memory ∧ d = s.drawn) ∧
    let inHand := ∃ k ∈ v.containers, k.state = .claimed ∨ k.state = .released ∨ k.state = .lifted ∨ k.state = .verifying
    (judgeImage m = none →
      exec (.applyCheckCompletion l) s = .next ((({ v with
        drawn := d, store := { v.store with check := none, writer := none, writerIdle := none } }.updPort p
          fun b => { b with state := .replying (replyFrame code tag 0x27 []) })).judgeIdle)) ∧
    (judgeImage m ≠ none → inHand →
      exec (.applyCheckCompletion l) s = .next ((({ v with drawn := d, store := { v.store with check := none } }.updPort p
          fun b => { b with state := .replying (replyFrame code tag 0x20 []) })).judgeIdle)) ∧
    (∀ g, judgeImage m = some g → ¬ inHand →
      ∃ t : State, exec (.applyCheckCompletion l) s = .next ((t.arbitrate.updPort p fun b =>
          { b with state := .replying (replyFrame code tag 0x00 []) }).judgeIdle) ∧
        t = { v with
              drawn := d, run := none, containers := t.containers, inlets := t.inlets, dueList := [], cards := t.cards
              ports := t.ports, outcomes := v.outcomes ++ slotOutcomes (fun _ => true) .noAnswer 0 v.inlets
              store := { v.store with
                running := some g, check := none, writer := none, writerIdle := none
                writes := v.store.writes.map fun w => { w with port := none } }
              lift := { v.lift with
                session := none, lidWait := none, releaseWait := none, carrierLoss := none, last := none }
              wake := { v.wake with idleTimer := none } } ∧
        (∀ q, t.port q = { v.port q with
          receiver := .hunting, gap := none, flags := kindSet .restart ||| kindSet .config
          state := match (v.port q).state with
            | .replying f => .replying f
            | .free | .holding _ _ => .free
          discarded := match (v.port q).receiver with
            | .receiving _ => min ((v.port q).discarded + 1) 255
            | .hunting | .skipping => (v.port q).discarded }) ∧
        (v.cards.period < v.clock.count / (86400 * g.periodDays) →
          v.cards.RolledTo t.cards v.clock.count (v.clock.count / (86400 * g.periodDays))) ∧
        (v.clock.count / (86400 * g.periodDays) ≤ v.cards.period →
          v.store.running.map StationConfig.periodDays = some g.periodDays → t.cards = v.cards) ∧
        (v.clock.count / (86400 * g.periodDays) ≤ v.cards.period →
          v.store.running.map StationConfig.periodDays ≠ some g.periodDays →
          t.cards = { v.cards with period := v.clock.count / (86400 * g.periodDays) }) ∧
        t.containers.length = g.containers.length ∧ t.inlets.length = g.inlets.length ∧
        (∀ (c : Nat) (cfg : ContainerSettings), g.containers[c]? = some cfg →
          let hot := ((v.containers[c]?).map Container.hot).getD false
          t.containers[c]? = some
            { cfg := cfg, state := ((v.containers[c]?).map Container.state).getD .serving
              seated := l.seat.getLsbD c, seatHold := none, displaced := !l.seat.getLsbD c, hot := hot, note := none
              level := none, levelStatus := .noReading, tempStatus := .none, lastTemp := none, added := 0
              floorRef := cfg.floor, residue := false, misses := 0, mismatches := 0, full := false
              pair := if l.seat.getLsbD c then requestedPair (if hot then .demand else .scheduled) v.now else .idle
              nextDue := v.now + if hot then 60000 else cfg.pingMinutes * 60000 }) ∧
        (∀ (i : Nat) (cfg : InletSettings), g.inlets[i]? = some cfg → ∃ x : Inlet, t.inlets[i]? = some x ∧
          x = { cfg := cfg, state := .locked, window := none, windowTimer := none, serviceTimer := none, runOut := false,
                slot := none, query := none, lidOpen := (l.lid.getLsbD i == cfg.activeHigh), rejectStart := none,
                lid := x.lid, limitTimer := x.limitTimer, stuck := false, forced := 0, cycles := 0 } ∧
          (x.lidOpen = false → x.lid = none ∧ x.limitTimer = none) ∧
          (x.lidOpen = true → x.lid.map LidOpen.cause = some .uncounted ∧
            x.limitTimer = some (v.now + cfg.limitSeconds * 1000)))))

/-! ## Containers and the measurement channel -/

/-- SUSPEND_CONTAINER, RESUME_CONTAINER and CLEAR_HEAT (R14, R15, R32, R70). The model's choices in it: log entries 12,
20, 29. -/
def Obligations.ContainerRequests : Prop :=
  ∀ (s : State) (p : Port) (tag n : Byte), s.listening p = true → s.configured = true → p ≠ .vehicle →
    (s.containers[n.toNat]? = none →
      exec (.suspendContainer p tag [n]) s = .next ((s.replied p 0x11 tag 0x12 []).judgeIdle) ∧
      exec (.resumeContainer p tag [n]) s = .next ((s.replied p 0x12 tag 0x12 []).judgeIdle) ∧
      exec (.clearHeat p tag [n]) s = .next ((s.replied p 0x15 tag 0x12 []).judgeIdle)) ∧
    (∀ k : Container, s.containers[n.toNat]? = some k →
      (k.state = .serving →
        exec (.suspendContainer p tag [n]) s = .next (({ s with
          containers := s.containers.set n.toNat { k with state := .suspended }
          inlets := windowsEnded n.toNat s.inlets }.replied p 0x11 tag 0x00 []).judgeIdle)) ∧
      (k.state ≠ .serving →
        exec (.suspendContainer p tag [n]) s = .next ((s.replied p 0x11 tag 0x20 []).judgeIdle)) ∧
      (k.state = .suspended →
        exec (.resumeContainer p tag [n]) s = .next (({ s with
          containers := s.containers.set n.toNat { k with state := .serving } }.replied p 0x12 tag 0x00 []).judgeIdle)) ∧
      (k.state ≠ .suspended →
        exec (.resumeContainer p tag [n]) s = .next ((s.replied p 0x12 tag 0x21 []).judgeIdle)) ∧
      (k.hot = false → exec (.clearHeat p tag [n]) s = .next ((s.replied p 0x15 tag 0x00 []).judgeIdle)) ∧
      (k.hot = true → ∀ l, k.lastTemp = some l → k.tempStatus = .valid →
        l.tHalf ≤ 2 * ((k.cfg.heatLimit : Int) - 10) →
        exec (.clearHeat p tag [n]) s = .next ((({ s with
          containers := s.containers.set n.toNat
            { k with hot := false, nextDue := s.now + k.cfg.pingMinutes * 60000 } }.raise .heat).replied
              p 0x15 tag 0x00 []).judgeIdle)) ∧
      (k.hot = true →
        (k.tempStatus ≠ .valid ∨ k.lastTemp = none ∨
          ∃ l, k.lastTemp = some l ∧ 2 * ((k.cfg.heatLimit : Int) - 10) < l.tHalf) →
        exec (.clearHeat p tag [n]) s = .next ((s.replied p 0x15 tag 0x24 []).judgeIdle)))

/-- MEASURE_NOW (R25, R34), DUE_EVENT (R25, R31, R35) of an AWAKE part, and SPACING_EXPIRY (R27): what each leaves of the
pair and of the next-due time; the arbiter follows. The model's choices in it: log entries 3, 11, 12, 20, 29. -/
def Obligations.PairRequestsAndTimers : Prop :=
  (∀ (s : State) (p : Port) (tag n : Byte), s.listening p = true → s.configured = true →
    (s.containers[n.toNat]? = none →
      exec (.measureNow p tag [n]) s = .next ((s.replied p 0x13 tag 0x12 []).judgeIdle)) ∧
    (∀ k : Container, s.containers[n.toNat]? = some k →
      (k.state = .lifted ∨ k.displaced = true →
        exec (.measureNow p tag [n]) s = .next ((s.replied p 0x13 tag 0x21 []).judgeIdle)) ∧
      (k.state ≠ .lifted → k.displaced = false →
        exec (.measureNow p tag [n]) s = .next (({ s with
          containers := s.containers.set n.toNat { k with
            pair :=
              if k.pair.stage = Stage.none then requestedPair .demand s.now
              else if k.pair.cls = some PairClass.demand ∨ k.pair.cls = some PairClass.verify then k.pair
              else { k.pair with cls := some .demand } } }.arbitrate.replied p 0x13 tag 0x00 []).judgeIdle)))) ∧
  (∀ (s : State) (c : Fin 8) (k : Container), s.attends = true → s.containers[c.val]? = some k →
    exec (.dueEvent c) s = .next ({ s with
      now := max s.now k.nextDue
      containers := s.containers.set c { k with
        nextDue := k.nextDue + if k.hot then 60000 else k.cfg.pingMinutes * 60000
        pair :=
          if k.state = ServiceState.lifted ∨ k.displaced = true ∨ k.pair.stage ≠ Stage.none then k.pair
          else requestedPair (if k.hot then .demand else .scheduled) (max s.now k.nextDue) } }.arbitrate.judgeIdle)) ∧
  (∀ (s : State) (c : Fin 8) (k : Container) (t : Nat), s.power = .running → s.containers[c.val]? = some k →
    k.pair.spacing = some t →
    exec (.spacingExpiry c) s = .next ({ s with
      now := max s.now t
      containers := s.containers.set c { k with
        pair := { k.pair with
          stage := .secondQueued, spacing := none, entry := some (max s.now t) } } }.arbitrate.judgeIdle))

/-- The arbiter (R26, R29, R30): while the front end is free and a container is queued it starts one measurement, of the
queued container that no other one precedes by class, entry time and number; otherwise it does nothing. -/
def Obligations.ArbiterChoice : Prop :=
  classRank .scheduled < classRank .demand ∧ classRank .demand < classRank .verify ∧
  (∀ (p : Pair) (cls : PairClass), p.cls = some cls → pairRank p = classRank cls) ∧
  ∀ s : State,
    (s.run ≠ none → s.arbitrate = s) ∧
    ((∀ k ∈ s.containers, k.pair.stage ≠ .firstQueued ∧ k.pair.stage ≠ .secondQueued) → s.arbitrate = s) ∧
    (s.run = none → (∃ k ∈ s.containers, k.pair.stage = .firstQueued ∨ k.pair.stage = .secondQueued) →
      ∃ (c : Nat) (k : Container), s.containers[c]? = some k ∧
        (k.pair.stage = .firstQueued ∨ k.pair.stage = .secondQueued) ∧
        (∀ (d : Nat) (m : Container), s.containers[d]? = some m → d ≠ c →
          m.pair.stage = .firstQueued ∨ m.pair.stage = .secondQueued →
          pairRank m.pair < pairRank k.pair ∨
          pairRank m.pair = pairRank k.pair ∧
            (k.pair.entry.getD 0 < m.pair.entry.getD 0 ∨ k.pair.entry.getD 0 = m.pair.entry.getD 0 ∧ c < d)) ∧
        s.arbitrate = { s with
          run := some (.started c (decide (k.pair.stage = .secondQueued)))
          containers := s.containers.set c { k with
            pair := { k.pair with
              entry := none
              stage := if k.pair.stage = .secondQueued then .secondRunning else .firstRunning } } })

/-- MEASUREMENT_COMPLETION, but for an agreeing or mismatched second measurement, a VERIFY pair and a container that
becomes hot (R22, R23, R27, R36, R66): nothing measured, where nothing changes by the model's choice (log entry 31); a
detached run; a first reading; a miss or BEYOND. The model's other choices in it: log entries 11, 12, 14. -/
def Obligations.MeasurementFirstAndMiss : Prop :=
  ∀ (s : State) (conv : Conversion) (echo : EchoSignal), s.power = .running →
    (s.run = none → exec (.measurementCompletion conv echo) s = .next s.judgeIdle) ∧
    (∀ r, s.run = some r → r.detached = true →
      exec (.measurementCompletion conv echo) s = .next ({ s with run := none }.arbitrate.judgeIdle)) ∧
    (∀ (run : Run) (c : Nat) (k : Container) (temp : Option (Int × Bool)), s.run = some run → run.detached = false →
      run.container = c → s.containers[c]? = some k → s.conversionGives conv temp → ¬ k.heats temp s.now →
      (∀ r, run.second = false → s.completionReading k temp echo = some r →
        exec (.measurementCompletion conv echo) s = .next ((({ s with
          run := none
          containers := s.containers.set c { k.withTemp temp s.now with
            pair := { k.pair with
              stage := .awaitSecond, first := some r.height, spacing := some (s.now + 2000) } } }.raiseIf
                (k.newFault temp) .sensor).arbitrate).judgeIdle)) ∧
      (s.completionReading k temp echo = none → k.pair.cls ≠ some .verify →
        exec (.measurementCompletion conv echo) s = .next ((({ s with
          run := none
          containers := s.containers.set c { k.withTemp temp s.now with
            misses := min (k.misses + 1) 4, pair := .idle
            levelStatus := if 3 ≤ k.misses then .sensorFault else k.levelStatus } }.raiseIf
              (k.newFault temp || decide (3 ≤ k.misses ∧ k.levelStatus ≠ LevelStatus.sensorFault)) .sensor).arbitrate).judgeIdle)))

/-- MEASUREMENT_COMPLETION of a second measurement with a reading, and of a VERIFY pair, where the container does not become
hot (R28, R36 to R39, R52, R53, R57, R146): adoption, mismatch, the next VERIFY attempt, and the end of the emptying
(whose steps EmptyingEnds states). The model's choices in it: log entries 11, 12, 14. -/
def Obligations.MeasurementSecondAndVerify : Prop :=
  ∀ (s : State) (conv : Conversion) (echo : EchoSignal) (run : Run) (c : Nat) (b : Bool) (k : Container)
    (temp : Option (Int × Bool)), s.power = .running → s.run = some run → run.detached = false →
    run.container = c → run.second = b → s.containers[c]? = some k → s.conversionGives conv temp → ¬ k.heats temp s.now →
    let s1 : State := { s with run := none }.raiseIf (k.newFault temp) .sensor
    let agree := fun r : Reading =>
      (k.pair.first.getD 0 : Int) - r.height ≤ k.cfg.confirmBand ∧ (r.height : Int) - k.pair.first.getD 0 ≤ k.cfg.confirmBand
    let missed : Container := { k.withTemp temp s.now with
      misses := min (k.misses + 1) 4, levelStatus := if 3 ≤ k.misses then .sensorFault else k.levelStatus }
    let mismatched : Container := { k.withTemp temp s.now with
      mismatches := min (k.mismatches + 1) 6, misses := 0
      levelStatus := if 5 ≤ k.mismatches then .unsure else k.levelStatus }
    let adopted : Container := { k.withTemp temp s.now with misses := 0, mismatches := 0, levelStatus := .good, pair := .idle, added := 0 }
    let levelOf := fun r : Reading =>
      ({ height := r.height, volume := r.volume, perMille := r.perMille, tHalf := r.tHalf, time := s.clock.count
         assumed := false } : Level)
    (∀ r, b = true → s.completionReading k temp echo = some r → k.pair.cls ≠ some .verify →
      (agree r →
        exec (.measurementCompletion conv echo) s = .next (((({ s1 with
          containers := s.containers.set c { adopted with level := some (levelOf r) } }.raise .level).evaluate
            c).arbitrate).judgeIdle)) ∧
      (¬ agree r →
        exec (.measurementCompletion conv echo) s = .next ((({ s1 with
          containers := s.containers.set c { mismatched with pair := .idle } }.raiseIf
            (decide (5 ≤ k.mismatches ∧ k.levelStatus ≠ LevelStatus.unsure)) .sensor).arbitrate).judgeIdle))) ∧
    (∀ r, b = true → s.completionReading k temp echo = some r → k.pair.cls = some .verify → agree r →
      (r.near = false → (k.cfg.floor : Int) - r.distance ≤ k.cfg.floorBand →
        exec (.measurementCompletion conv echo) s = .next (((({ s1 with
          containers := s.containers.set c { adopted with
            level := some { levelOf r with height := 0, volume := 0, perMille := 0 }
            floorRef := min r.distance k.cfg.floor, residue := false } }.raise .level).finishEmptying c (some 0) true
              .verified).arbitrate).judgeIdle)) ∧
      ((r.near = true ∨ k.cfg.floorBand < (k.cfg.floor : Int) - r.distance) →
        exec (.measurementCompletion conv echo) s = .next (((({ s1 with
          containers := s.containers.set c { adopted with level := some (levelOf r), residue := true } }.raise
            .level).finishEmptying c (some r.perMille) true .verified).arbitrate).judgeIdle))) ∧
    (∀ (n : Nat) (m : Container) (news : Bool), k.pair.cls = some .verify → k.pair.attempt = some n →
      (s.completionReading k temp echo = none ∧ m = missed ∧
          news = decide (3 ≤ k.misses ∧ k.levelStatus ≠ .sensorFault) ∨
        b = true ∧ (∃ r, s.completionReading k temp echo = some r ∧ ¬ agree r) ∧ m = mismatched ∧
          news = decide (5 ≤ k.mismatches ∧ k.levelStatus ≠ .unsure)) →
      (n < 3 →
        exec (.measurementCompletion conv echo) s = .next ((({ s1 with
          containers := s.containers.set c { m with
            pair := { requestedPair .verify s.now with attempt := some (n + 1) } } }.raiseIf news
              .sensor).arbitrate).judgeIdle)) ∧
      (3 ≤ n →
        exec (.measurementCompletion conv echo) s = .next (((({ s1 with
          containers := s.containers.set c { m with
            pair := .idle, level := some (assumedEmptyLevel (k.withTemp temp s.now) s.clock.count), added := 0 } }.raiseIf
              news .sensor).finishEmptying c none false .verifyFailed).arbitrate).judgeIdle)))

/-- Becoming hot (R13, R32, R68, R148): the flag and HEAT, the next-due time, a pair in progress raised to DEMAND, the
windows of the container ended, and a claim in CLAIMED or RELEASED ended with HOT. A first measurement whose temperature
meets a condition of R67 does it before its reading moves the stage (R22). Any measurement whose temperature meets one,
first or second, of whatever class, with a reading or a miss, does what it does for the container that has become hot
already, which MeasurementFirstAndMiss and MeasurementSecondAndVerify state (R22, R148). The model's choices in it: log
entries 11, 12, 14. -/
def Obligations.BecomingHot : Prop :=
  (∀ (s : State) (c : Nat) (k : Container), s.containers[c]? = some k →
    let m : Container := { k with
      hot := true, nextDue := s.now + 60000
      pair :=
        if k.pair.stage = .none ∨ k.pair.cls = some .demand ∨ k.pair.cls = some .verify then k.pair
        else { k.pair with cls := some .demand } }
    (k.state ≠ .claimed → k.state ≠ .released →
      s.becomeHot c = { s with
        containers := s.containers.set c m, inlets := windowsEnded c s.inlets }.raise .heat) ∧
    (k.state = .claimed ∨ k.state = .released →
      s.becomeHot c = ({ s with
        containers := s.containers.set c { m with state := .serving }, inlets := windowsEnded c s.inlets
        lift := s.lift.claimEnded c .hot s.clock.count }.raise .heat).raise .lift)) ∧
  (∀ (s : State) (conv : Conversion) (echo : EchoSignal) (c : Nat) (k : Container) (t : Int) (clamped : Bool)
    (run : Run) (r : Reading), s.power = .running → s.run = some run → run.detached = false → run.container = c →
    run.second = false → s.containers[c]? = some k → s.conversionGives conv (some (t, clamped)) → k.heats (some (t, clamped)) s.now →
    s.completionReading k (some (t, clamped)) echo = some r →
    ∃ m : Container, ({ s with run := none }.becomeHot c).containers[c]? = some m ∧
      exec (.measurementCompletion conv echo) s = .next ({ { s with run := none }.becomeHot c with
        containers := ({ s with run := none }.becomeHot c).containers.set c { m with
          tempStatus := .valid, lastTemp := some ⟨t, clamped, s.now⟩
          pair := { m.pair with
            stage := .awaitSecond, first := some r.height, spacing := some (s.now + 2000) } } }.arbitrate.judgeIdle)) ∧
  (∀ (s : State) (conv : Conversion) (echo : EchoSignal) (run : Run) (k : Container) (temp : Option (Int × Bool)),
    s.power = .running → s.run = some run → run.detached = false → s.containers[run.container]? = some k →
    s.conversionGives conv temp → k.heats temp s.now →
    (∀ m, (s.becomeHot run.container).containers[run.container]? = some m → ¬ m.heats temp s.now) ∧
    ∃ t : State, exec (.measurementCompletion conv echo) s = .next t ∧
      exec (.measurementCompletion conv echo) (s.becomeHot run.container) = .next t)

/-! ## Fill arithmetic, thresholds, the end of an emptying -/

/-- The stages of the arithmetic, each against its quotient and rounding (R21, R41, R43, R45 to R47, R49, R50); and the
reading of a completion (R22, R40, R44): the echo, the temperature or its substitute 30, the speed, the distance, the
height over the floor reference, the volume through the container's shape table, and the per-mille of its capacity, in
this order. -/
def Obligations.FillArithmetic : Prop :=
  (∀ ns, 0 < ns → 2 * ns * thermistorRatio ns ≤ 2 * 4194304 + ns ∧
    2 * 4194304 + ns < 2 * ns * (thermistorRatio ns + 1)) ∧
  (∀ (table : List (Nat × Int)) (q : Nat), table.Pairwise (fun x y => y.1 < x.1 ∧ x.2 < y.2) →
    (∀ p, table[0]? = some p → p.1 ≤ q → temperature table q = (p.2, true)) ∧
    (∀ p f, table.getLast? = some p → table[0]? = some f → q < f.1 → q ≤ p.1 → temperature table q = (p.2, true)) ∧
    (∀ i a b f l, table[i]? = some a → table[i + 1]? = some b → table[0]? = some f → table.getLast? = some l →
      q < f.1 → l.1 < q → q ≤ a.1 → b.1 < q →
      ∃ n : Int, temperature table q = (a.2 + n, false) ∧
        2 * ((a.1 : Int) - b.1) * n ≤ 2 * (((a.1 : Int) - q) * (b.2 - a.2)) + ((a.1 : Int) - b.1) ∧
        2 * (((a.1 : Int) - q) * (b.2 - a.2)) + ((a.1 : Int) - b.1) < 2 * ((a.1 : Int) - b.1) * (n + 1))) ∧
  (∀ t : Int, -80 ≤ t → t ≤ 160 →
    (0 ≤ t → ∃ n : Int, (speedOfSound t : Int) = 3313 + n ∧ 200 * n ≤ 606 * t + 100 ∧ 606 * t + 100 < 200 * (n + 1)) ∧
    (t < 0 → ∃ n : Int, (speedOfSound t : Int) = 3313 - n ∧ 200 * n ≤ 606 * (-t) + 100 ∧
      606 * (-t) + 100 < 200 * (n + 1))) ∧
  (∀ t c, 40000 * distance t c ≤ 2 * (t * c) + 20000 ∧ 2 * (t * c) + 20000 < 40000 * (distance t c + 1)) ∧
  (∀ d b f : Nat, ∀ blanked : Bool, b ≤ f →
    (blanked = true ∨ d < b → fillHeight d b f blanked = some (f - b, true)) ∧
    (blanked = false → b ≤ d → d ≤ f → fillHeight d b f blanked = some (f - d, false)) ∧
    (blanked = false → b ≤ d → f < d → d ≤ f + 150 → fillHeight d b f blanked = some (0, false)) ∧
    (blanked = false → f + 150 < d → fillHeight d b f blanked = none)) ∧
  (∀ (shape : List (Nat × Nat)) (h : Nat), shape.Pairwise (fun x y => x.1 < y.1 ∧ x.2 < y.2) →
    (∀ i a b, shape[i]? = some a → shape[i + 1]? = some b → a.1 ≤ h → h < b.1 →
      shapeVolume shape h = a.2 + (h - a.1) * (b.2 - a.2) / (b.1 - a.1)) ∧
    (∀ l, shape.getLast? = some l → l.1 ≤ h → shapeVolume shape h = l.2)) ∧
  (∀ v c, 0 < c → perMille v c * c ≤ v * 1000 ∧ v * 1000 < (perMille v c + 1) * c) ∧
  (∀ (b : Nat) (e : EchoSignal),
    (e.aboveAtBlankingEnd = true → echoCapture b e = some (b * 20000 / 3798, true)) ∧
    (e.aboveAtBlankingEnd = false → e.crossings.Pairwise (· < ·) →
      (∀ t, t ∈ e.crossings → b * 20000 / 3798 ≤ t → t ≤ 30000 →
        (∀ u ∈ e.crossings, b * 20000 / 3798 ≤ u → t ≤ u) → echoCapture b e = some (t, false)) ∧
      ((∀ t ∈ e.crossings, t < b * 20000 / 3798 ∨ 30000 < t) → echoCapture b e = none))) ∧
  (∀ (s : State) (k : Container) (temp : Option (Int × Bool)) (echo : EchoSignal) (g : StationConfig)
    (shape : List (Nat × Nat)) (last : Nat × Nat),
    s.store.running = some g → g.shapes[k.cfg.shape]? = some shape → shape.getLast? = some last →
    s.capacity k = last.2 ∧
    (echoCapture k.cfg.blanking echo = none → s.completionReading k temp echo = none) ∧
    (∀ (t : Nat) (blanked : Bool) (tHalf : Int), echoCapture k.cfg.blanking echo = some (t, blanked) →
      tHalf = (match temp with
        | some (x, _) => x
        | none => 30) →
      (fillHeight (distance t (speedOfSound tHalf)) k.cfg.blanking k.floorRef blanked = none →
        s.completionReading k temp echo = none) ∧
      (∀ h near, fillHeight (distance t (speedOfSound tHalf)) k.cfg.blanking k.floorRef blanked = some (h, near) →
        s.completionReading k temp echo = some
          { distance := distance t (speedOfSound tHalf), height := h, volume := shapeVolume shape h
            perMille := perMille (shapeVolume shape h) last.2, tHalf := tHalf, near := near })))

/-- The evaluation of a handed estimate (R55, R56, R58 to R60, R63): due first, then full, with the hysteresis of 100 and of
50 per-mille, and DUE and FULL at each change; nothing while the estimate is absent. -/
def Obligations.ThresholdEvaluation : Prop :=
  ∀ (s : State) (c : Nat) (k : Container), s.containers[c]? = some k →
    (k.level = none → s.evaluate c = s) ∧
    (∀ l, k.level = some l →
      let pe := min (l.volume + k.added) (s.capacity k) * 1000 / s.capacity k
      let due := ∃ e ∈ s.dueList, e.container = c
      (due → k.cfg.dueAt ≤ pe + 100 → (s.evaluate c).dueList = s.dueList) ∧
      (due → pe + 100 < k.cfg.dueAt →
        (s.evaluate c).dueList = s.dueList.filter fun e => decide (e.container ≠ c)) ∧
      (¬ due → pe < k.cfg.dueAt → (s.evaluate c).dueList = s.dueList) ∧
      (¬ due → k.cfg.dueAt ≤ pe →
        (s.evaluate c).dueList = s.dueList ++ [⟨c, s.clock.count, !s.clock.set, pe⟩]) ∧
      s.evaluate c = (({ s with
        dueList := (s.evaluate c).dueList
        containers := s.containers.set c { k with
          full := if k.full then decide (k.cfg.fullAt ≤ pe + 50) else decide (k.cfg.fullAt ≤ pe) } }.raiseIf
            (decide ((s.evaluate c).dueList ≠ s.dueList)) .due).raiseIf
            (if k.full then decide (pe + 50 < k.cfg.fullAt) else decide (k.cfg.fullAt ≤ pe)) .full))

/-- The end of an emptying, steps 2 to 7 (R62, R122, R146): the EMPTYING record, the note gone, the due entry and the full
flag cleared, SERVING, the estimate judged again, the last lift result and LIFT. -/
def Obligations.EmptyingEnds : Prop :=
  ∀ (s : State) (c : Nat) (k : Container) (n : EmptyingNote) (after : Option Nat) (verified : Bool) (e : LiftEnding),
    s.containers[c]? = some k → k.note = some n →
    ∃ s1 : State,
      s1 = { s.journalRecord c (.emptying n.vehicle n.before after (n.attended.getD false) verified) with
        dueList := s.dueList.filter fun x => decide (x.container ≠ c)
        containers := s.containers.set c { k with note := none, state := .serving, full := false }
        lift := { s.lift with last := some ⟨c, e, s.clock.count⟩ } } ∧
      s.finishEmptying c after verified e =
        (((s1.raiseIf (s.isDue c) .due).raiseIf k.full .full).evaluate c).raise .lift

/-- UNSEAT accepted by an AWAKE part with nothing held (R7 to R9, R35, R82, R147): a lift in RELEASED; a displaced
container in SERVING and SUSPENDED; in CLAIMED the claim ends too; in VERIFYING the emptying ends unverified. The
model's choices in it: log entries 11, 12, 24. -/
def Obligations.Unseat : Prop :=
  ∀ (s : State) (c : Fin 8) (k : Container), s.attends = true → s.wake.held = [] → s.containers[c.val]? = some k →
    (k.seated = false → exec (.unseat c) s = .next s.judgeIdle) ∧
    (k.seated = true → ∃ v : BitVec 8, (∀ n, n < 8 → v.getLsbD n = (s.lines.seat.getLsbD n && decide (n ≠ c.val))) ∧
      let s0 : State := { s with lines := { s.lines with seat := v }, run := detachedRun c s.run }
      let s1 : State := { s0 with
        containers := s.containers.set c k.displacedRecord, inlets := windowsEnded c s.inlets }.raise .seat
      (k.state = .released →
        exec (.unseat c) s = .next (({ s0 with
          containers := s.containers.set c { k with
            seated := false, seatHold := none, state := .lifted, pair := .idle
            note := some ⟨k.estimatePerMille (s.capacity k), none, none⟩ }
          lift := { s.lift with releaseWait := none } }.raise .lift).arbitrate.judgeIdle)) ∧
      (k.state = .serving ∨ k.state = .suspended → exec (.unseat c) s = .next (s1.arbitrate.judgeIdle)) ∧
      (k.state = .claimed →
        exec (.unseat c) s = .next (({ s1 with
          containers := s.containers.set c { k.displacedRecord with state := .serving }
          lift := s.lift.claimEnded c .displaced s.clock.count }.raise .lift).arbitrate.judgeIdle)) ∧
      (k.state = .verifying →
        exec (.unseat c) s = .next (({ s1 with
          containers := s.containers.set c { k.displacedRecord with
            level := some (assumedEmptyLevel k s.clock.count), added := 0 } }.finishEmptying c none false
              .verifyUnseated).arbitrate.judgeIdle)))

/-- RESEAT accepted by an AWAKE part with nothing held (R7, R10, R11, R145): a LIFTED container becomes VERIFYING, its note
completed from the session; a displaced one is displaced no longer; a pair is requested for each. The model's choices
in it: log entries 11, 12, 24. -/
def Obligations.Reseat : Prop :=
  ∀ (s : State) (c : Fin 8) (k : Container), s.attends = true → s.wake.held = [] → s.containers[c.val]? = some k →
    (k.seated = true → exec (.reseat c) s = .next s.judgeIdle) ∧
    (k.seated = false → k.pair = .idle →
      ∃ v : BitVec 8, (∀ n, n < 8 → v.getLsbD n = (s.lines.seat.getLsbD n || decide (n = c.val))) ∧
      let s0 : State := { s with lines := { s.lines with seat := v } }
      (k.state = .lifted →
        exec (.reseat c) s = .next (({ s0 with
          containers := s.containers.set c { k with
            seated := true, seatHold := none, state := .verifying, pair := requestedPair .verify s.now
            note := some ⟨k.note.bind EmptyingNote.before, s.lift.session.map Session.vehicle,
              some s.lift.session.isSome⟩ }
          lift := { s.lift with session := s.lift.session.map fun x : Session => { x with claimed := none } } }.raise
            .lift).arbitrate.judgeIdle)) ∧
      (k.state ≠ .lifted → k.displaced = true →
        exec (.reseat c) s = .next (({ s0 with
          containers := s.containers.set c { k with
            seated := true, seatHold := none, displaced := false, pair := requestedPair .demand s.now } }.raise
              .seat).arbitrate.judgeIdle)))

/-! ## Inlets -/

/-- CARD_READ while AWAKE (R76 to R80, R102 to R107): what no reader, a zero card, a taken slot and each inlet state do with a
read; and at a LOCKED inlet with an empty slot the access decision, check by check, and each of its three ends. The
model's choices in it: log entries 12, 13. -/
def Obligations.CardRead : Prop :=
  ∀ (s : State) (i : Fin 16) (n : BitVec 40), s.attends = true →
    let sent : ReadOutcome → State := fun o => { s with outcomes := s.outcomes ++ [(i.val, o)] }
    (s.inlets[i.val]? = none → exec (.cardRead i n) s = .next s.judgeIdle) ∧
    (∀ x : Inlet, s.inlets[i.val]? = some x →
      (x.cfg.reader = false → exec (.cardRead i n) s = .next s.judgeIdle) ∧
      (x.cfg.reader = true →
        (n = 0 → exec (.cardRead i n) s = .next (sent .unknown).judgeIdle) ∧
        (n ≠ 0 →
          (x.state = .unlocked → ∀ w, x.window = some w →
            (w.card = some n.toNat → exec (.cardRead i n) s = .next ({ sent .accept with
              inlets := s.inlets.set i { x with windowTimer := some (s.now + x.cfg.windowSeconds * 1000) } }.judgeIdle)) ∧
            (w.card ≠ some n.toNat → exec (.cardRead i n) s = .next (sent .busy).judgeIdle)) ∧
          (x.state = .inUse → exec (.cardRead i n) s = .next (sent (if x.stuck then .fault else .busy)).judgeIdle) ∧
          (x.state = .serviceOpen → exec (.cardRead i n) s = .next (sent .busy).judgeIdle) ∧
          (x.state = .locked → x.slot ≠ none → exec (.cardRead i n) s = .next (sent .busy).judgeIdle) ∧
          (∀ k : Container, x.state = .locked → x.slot = none → x.query = none →
            s.containers[x.cfg.container]? = some k →
            (∀ e, s.cards.entries.find? (fun y => decide (y.number = n.toNat)) = some e →
              (∀ o, refusedFor x k e s.clock.count (windowsFor n.toNat s.inlets) = some o →
                exec (.cardRead i n) s = .next (sent o).judgeIdle) ∧
              (refusedFor x k e s.clock.count (windowsFor n.toNat s.inlets) = none →
                exec (.cardRead i n) s = .next ({ sent .accept with
                  inlets := s.inlets.set i
                    (openedInlet x ⟨.card, some n.toNat, some e.household, false⟩ s.now) }.judgeIdle))) ∧
            (∀ g, s.cards.entries.find? (fun y => decide (y.number = n.toNat)) = none → s.store.running = some g →
              (x.stuck = true ∨ k.displaced = true → exec (.cardRead i n) s = .next (sent .fault).judgeIdle) ∧
              (x.stuck = false → k.displaced = false → k.state = .suspended →
                exec (.cardRead i n) s = .next (sent .suspended).judgeIdle) ∧
              (x.stuck = false → k.displaced = false → k.state ≠ .suspended → k.hot = true →
                exec (.cardRead i n) s = .next (sent .hot).judgeIdle) ∧
              (x.stuck = false → k.displaced = false → k.state ≠ .suspended → k.hot = false → k.state ≠ .serving →
                exec (.cardRead i n) s = .next (sent .emptying).judgeIdle) ∧
              (x.stuck = false → k.displaced = false → k.state = .serving → k.hot = false →
                (s.cards.loaded = true → g.queryEnabled = true →
                  exec (.cardRead i n) s = .next (({ s with
                    inlets := s.inlets.set i { x with
                      slot := some n.toNat
                      query := some ⟨n.toNat, s.clock.count, s.now + g.queryWaitSeconds * 1000⟩ } }.raise
                        .cardQuery).judgeIdle)) ∧
                (s.cards.loaded = true → g.queryEnabled = false →
                  exec (.cardRead i n) s = .next (sent .unknown).judgeIdle) ∧
                (s.cards.loaded = false → g.fallbackOpen.getLsbD k.cfg.fraction = false →
                  exec (.cardRead i n) s = .next (sent .unknown).judgeIdle) ∧
                (s.cards.loaded = false → g.fallbackOpen.getLsbD k.cfg.fraction = true → k.full = true →
                  exec (.cardRead i n) s = .next (sent .full).judgeIdle) ∧
                (s.cards.loaded = false → g.fallbackOpen.getLsbD k.cfg.fraction = true → k.full = false →
                  exec (.cardRead i n) s = .next ({ sent .accept with
                    inlets := s.inlets.set i
                      (openedInlet x ⟨.anonymous, some n.toNat, none, true⟩ s.now) }.judgeIdle))))))))

/-- WINDOW_EXPIRY (R81), QUERY_WAIT_EXPIRY (R109), SERVICE_TIMER_EXPIRY (R90), and LID_OPEN_LIMIT_EXPIRY of an AWAKE part
(R88). The model's choices in it: log entries 3, 12, 13. -/
def Obligations.InletTimers : Prop :=
  ∀ (s : State) (i : Fin 16) (x : Inlet), s.power = .running → s.inlets[i.val]? = some x →
    (∀ t, x.windowTimer = some t → x.state = .unlocked →
      exec (.windowExpiry i) s = .next ({ s with
        now := max s.now t
        inlets := s.inlets.set i { x with state := .locked, window := none, windowTimer := none } }.judgeIdle)) ∧
    (∀ q, x.query = some q →
      exec (.queryWaitExpiry i) s = .next ({ s with
        now := max s.now q.waitEnd, inlets := s.inlets.set i { x with slot := none, query := none }
        outcomes := s.outcomes ++ [(i.val, ReadOutcome.noAnswer)] }.judgeIdle)) ∧
    (∀ t, x.serviceTimer = some t → x.state = .serviceOpen →
      (x.lidOpen = false → exec (.serviceTimerExpiry i) s = .next ({ s with
        now := max s.now t
        inlets := s.inlets.set i { x with
          state := .locked, window := none, serviceTimer := none, runOut := false } }.judgeIdle)) ∧
      (x.lidOpen = true → exec (.serviceTimerExpiry i) s = .next ({ s with
        now := max s.now t, inlets := s.inlets.set i { x with serviceTimer := none, runOut := true } }.judgeIdle))) ∧
    (∀ t, x.limitTimer = some t → s.wake.state = .awake →
      exec (.lidOpenLimitExpiry i) s = .next (({ s with
        now := max s.now t
        inlets := s.inlets.set i { x with stuck := true, limitTimer := none } }.raise .inlet).judgeIdle))

/-- LID_OPENING and LID_CLOSING accepted by an AWAKE part with nothing held (R72, R73, R83, R84, R86, R87, R90, R91):
the opening by the inlet state, the closing by the opening's cause, a SERVICE opening's also at an inlet that Claim Lift
has returned to LOCKED, and at one that a card read has UNLOCKED since, whose window stands; the release condition
(R140) is judged after a closing. The model's choices in it: log entries 12, 24. -/
def Obligations.LidEvents : Prop :=
  ∀ (s : State) (i : Fin 16) (x : Inlet), s.attends = true → s.wake.held = [] → s.inlets[i.val]? = some x →
    (x.lidOpen = true → exec (.lidOpening i) s = .next s.judgeIdle) ∧
    (x.lidOpen = false → exec (.lidClosing i) s = .next s.judgeIdle) ∧
    (x.lidOpen = false → ∃ v : BitVec 16,
      (∀ n, n < 16 → v.getLsbD n = if n = i.val then x.cfg.activeHigh else s.lines.lid.getLsbD n) ∧
      let s0 : Inlet → State := fun y => { s with lines := { s.lines with lid := v }, inlets := s.inlets.set i y }
      let limit := some (s.now + x.cfg.limitSeconds * 1000)
      (s.inState x.cfg.container .lifted = true → exec (.lidOpening i) s =
        .next (s0 { x with rejectStart := none, lidOpen := true, lid := some ⟨.uncounted, s.now⟩ }).judgeIdle) ∧
      (s.inState x.cfg.container .lifted = false →
        (x.state = .locked → exec (.lidOpening i) s = .next (((s0 { x with
          rejectStart := none, lidOpen := true, lid := some ⟨.forced, s.now⟩, limitTimer := limit
          forced := min (x.forced + 1) 255 }).raise .inlet).judgeIdle)) ∧
        (x.state = .unlocked → exec (.lidOpening i) s = .next (s0 { x with
          rejectStart := none, lidOpen := true, lid := some ⟨.window, s.now⟩, limitTimer := limit, state := .inUse
          windowTimer := none }).judgeIdle) ∧
        (x.state = .serviceOpen → exec (.lidOpening i) s = .next (s0 { x with
          rejectStart := none, lidOpen := true, lid := some ⟨.service, s.now⟩ }).judgeIdle))) ∧
    (x.lidOpen = true → ∃ v : BitVec 16,
      (∀ n, n < 16 → v.getLsbD n = if n = i.val then !x.cfg.activeHigh else s.lines.lid.getLsbD n) ∧
      let s0 : Inlet → State := fun y => { s with lines := { s.lines with lid := v }, inlets := s.inlets.set i y }
      let closed : Inlet :=
        { x with rejectStart := none, lidOpen := false, lid := none, limitTimer := none, stuck := false }
      let c := x.cfg.container
      (s.inState c .lifted = true → exec (.lidClosing i) s = .next (s0 closed).judgeIdle) ∧
      (∀ (l : LidOpen) (k : Container), s.inState c .lifted = false → x.lid = some l → s.containers[c]? = some k →
        let raised := s.containers.set c { k with added := min (k.added + x.cfg.nominal) 65535 }
        (l.cause = .window → ∀ (w : WindowRecord) (n : Nat), x.window = some w → w.card = some n →
          exec (.lidClosing i) s = .next ((((({ s0 { closed with state := .locked, window := none } with
            containers := raised
            cards := { s.cards with
              entries := s.cards.entries.map fun e : Card =>
                if e.number = n then { e with used := min (e.used + 1) 255 } else e } }).evaluate c).journalDeposit
                  i n w.household w.unverified).judgeRelease c).judgeIdle)) ∧
        (l.cause = .forced →
          exec (.lidClosing i) s = .next (((({ (s0 closed).journalRecord i
            (.forced (min ((s.now - l.time) / 1000) 65535)) with containers := raised }).evaluate c).judgeRelease
              c).judgeIdle)) ∧
        (l.cause = .service → x.state = .serviceOpen →
          exec (.lidClosing i) s = .next (((s0 (if x.runOut then
              { closed with
                state := .locked, window := none, serviceTimer := none, runOut := false
                cycles := min (x.cycles + 1) 255 }
            else { closed with cycles := min (x.cycles + 1) 255 })).judgeRelease c).judgeIdle)) ∧
        (l.cause = .service → x.state ≠ .serviceOpen →
          exec (.lidClosing i) s = .next (((s0 { closed with
            cycles := min (x.cycles + 1) 255 }).judgeRelease c).judgeIdle)) ∧
        (l.cause = .uncounted →
          exec (.lidClosing i) s = .next (((s0 closed).judgeRelease c).judgeIdle))))

/-- OPEN_INLET (R89): barred by the container's state, busy, opened again, or opened from LOCKED with the slot's read sent
BUSY. The model's choices in it: log entries 12, 13, 20, 29. -/
def Obligations.OpenInlet : Prop :=
  ∀ (s : State) (p : Port) (tag n : Byte), s.listening p = true → s.configured = true → p ≠ .vehicle →
    (s.inlets[n.toNat]? = none →
      exec (.openInlet p tag [n]) s = .next ((s.replied p 0x21 tag 0x12 []).judgeIdle)) ∧
    (∀ (x : Inlet) (k : Container), s.inlets[n.toNat]? = some x → s.containers[x.cfg.container]? = some k →
      (k.state ≠ .serving → k.state ≠ .suspended →
        exec (.openInlet p tag [n]) s = .next ((s.replied p 0x21 tag 0x21 []).judgeIdle)) ∧
      (k.state = .serving ∨ k.state = .suspended →
        (x.state = .unlocked ∨ x.state = .inUse ∨ x.state = .locked ∧ x.lidOpen = true →
          exec (.openInlet p tag [n]) s = .next ((s.replied p 0x21 tag 0x20 []).judgeIdle)) ∧
        (x.state = .serviceOpen →
          exec (.openInlet p tag [n]) s = .next (({ s with
            inlets := s.inlets.set n.toNat { x with serviceTimer := some (s.now + 300000), runOut := false } }.replied
              p 0x21 tag 0x00 []).judgeIdle)) ∧
        (x.state = .locked → x.lidOpen = false →
          exec (.openInlet p tag [n]) s = .next (({ s with
            outcomes := s.outcomes ++ if x.slot.isSome then [(n.toNat, ReadOutcome.busy)] else []
            inlets := s.inlets.set n.toNat { x with
              slot := none, query := none, state := .serviceOpen, window := some ⟨.service, none, none, false⟩
              serviceTimer := some (s.now + 300000), runOut := false } }.replied p 0x21 tag 0x00 []).judgeIdle))))

/-! ## Cards -/

/-- PUT_CARD (R93, R94, R96, R97), REMOVE_CARD (R98), BLOCK_CARD (R99), CLEAR_CARD_TABLE (R100), MARK_TABLE_LOADED
(R101). The model's choices in it: log entries 12, 20, 29. -/
def Obligations.CardTableRequests : Prop :=
  (∀ (s : State) (p : Port) (tag : Byte) (ps : List Byte), s.listening p = true → s.configured = true → p ≠ .vehicle →
    ps.length = 18 →
    let old := s.cards.entries.find? fun e => decide (e.number = field ps 0 5)
    let barred := p = .service ∧ (s.clock.set = false ∨ field ps 7 1 ≠ 1 ∨
      (∃ e, old = some e ∧ e.kind ≠ .temporary) ∨ s.clock.count + 259200 < field ps 14 4)
    (p = .service → s.clock.set = false →
      exec (.putCard p tag ps) s = .next ((s.replied p 0x30 tag 0x21 []).judgeIdle)) ∧
    (p = .service → s.clock.set = true → field ps 7 1 ≠ 1 ∨ (∃ e, old = some e ∧ e.kind ≠ .temporary) →
      exec (.putCard p tag ps) s = .next ((s.replied p 0x30 tag 0x13 []).judgeIdle)) ∧
    (p = .service → s.clock.set = true → field ps 7 1 = 1 → (∀ e, old = some e → e.kind = .temporary) →
      s.clock.count + 259200 < field ps 14 4 →
      exec (.putCard p tag ps) s = .next ((s.replied p 0x30 tag 0x12 []).judgeIdle)) ∧
    (¬ barred →
      (field ps 0 5 = 0 ∨ field ps 5 2 = 0 ∨ 2 < field ps 7 1 ∨ 1 < field ps 8 1 ∨
          (field ps 7 1 = 1 ∧ field ps 14 4 = 0) ∨ (field ps 7 1 ≠ 1 ∧ field ps 14 4 ≠ 0) →
        exec (.putCard p tag ps) s = .next ((s.replied p 0x30 tag 0x12 []).judgeIdle)) ∧
      (∀ new, carriedCard ps = some new →
        (old = none → 3000 ≤ s.cards.entries.length →
          exec (.putCard p tag ps) s = .next ((s.replied p 0x30 tag 0x25 []).judgeIdle)) ∧
        (old ≠ none ∨ s.cards.entries.length < 3000 → s.cards.entries.Pairwise (fun a b => a.number < b.number) →
          ∃ es : List Card,
            es.Pairwise (fun a b => a.number < b.number) ∧
            (∀ n, es.find? (fun e => decide (e.number = n)) =
              if n = new.number then
                some { new with used := (old.map Card.used).getD 0, overflow := (old.map Card.overflow).getD 0 }
              else s.cards.entries.find? fun e => decide (e.number = n)) ∧
            exec (.putCard p tag ps) s = .next (({ s with cards := { s.cards with entries := es } }.replied
              p 0x30 tag 0x00 []).judgeIdle))))) ∧
  (∀ (s : State) (p : Port) (tag : Byte) (ps : List Byte), s.listening p = true → s.configured = true →
    (p = .network → ps.length = 5 →
      (field ps 0 5 = 0 → exec (.removeCard p tag ps) s = .next ((s.replied p 0x31 tag 0x12 []).judgeIdle)) ∧
      (field ps 0 5 ≠ 0 → exec (.removeCard p tag ps) s = .next (({ s with
        cards := { s.cards with entries := s.cards.entries.filter fun e : Card => decide (e.number ≠ field ps 0 5) } }.replied
          p 0x31 tag 0x00 []).judgeIdle))) ∧
    (p ≠ .vehicle → ps.length = 5 →
      (field ps 0 5 = 0 ∨ (∀ e ∈ s.cards.entries, e.number ≠ field ps 0 5) →
        exec (.blockCard p tag ps) s = .next ((s.replied p 0x32 tag 0x12 []).judgeIdle)) ∧
      (field ps 0 5 ≠ 0 → (∃ e ∈ s.cards.entries, e.number = field ps 0 5) →
        exec (.blockCard p tag ps) s = .next (({ s with
          cards := { s.cards with
            entries := s.cards.entries.map fun e : Card =>
              if e.number = field ps 0 5 then { e with blocked := true } else e } }.replied p 0x32 tag 0x00 []).judgeIdle))) ∧
    (p = .network →
      exec (.clearCardTable p tag []) s = .next (({ s with
        cards := { s.cards with entries := [], loaded := false } }.replied p 0x33 tag 0x00 []).judgeIdle) ∧
      exec (.markTableLoaded p tag []) s = .next (({ s with
        cards := { s.cards with loaded := true } }.replied p 0x34 tag 0x00 []).judgeIdle)))

/-- ANSWER_CARD (R111 to R113): the checks that refuse the request, the carried entry, TOO_LATE without a matching query, and
DENY and ALLOW with the outcome in the reply. The model's choices in it: log entries 12, 13, 20, 29. -/
def Obligations.AnswerCard : Prop :=
  ∀ (s : State) (tag : Byte) (ps : List Byte), s.listening .network = true → s.configured = true →
    ps.length = 7 ∨ ps.length = 25 →
    let i := field ps 0 1
    let n := field ps 1 5
    let answer := field ps 6 1
    let listed := ∃ e ∈ s.cards.entries, e.number = n
    let matching := ∃ x q, s.inlets[i]? = some x ∧ x.query = some q ∧ q.card = n
    let rangeFault := s.inlets.length ≤ i ∨ n = 0 ∨ 1 < answer
    (rangeFault → exec (.answerCard .network tag ps) s = .next ((s.replied .network 0x38 tag 0x12 []).judgeIdle)) ∧
    (¬ rangeFault → ps.length = 25 → field ps 7 5 ≠ n ∨ carriedCard (ps.drop 7) = none →
      exec (.answerCard .network tag ps) s = .next ((s.replied .network 0x38 tag 0x12 []).judgeIdle)) ∧
    (¬ rangeFault → ps.length = 25 → field ps 7 5 = n → carriedCard (ps.drop 7) ≠ none → ¬ listed →
      3000 ≤ s.cards.entries.length →
      exec (.answerCard .network tag ps) s = .next ((s.replied .network 0x38 tag 0x25 []).judgeIdle)) ∧
    (¬ rangeFault → ps.length = 7 → answer = 1 → matching → ¬ listed →
      exec (.answerCard .network tag ps) s = .next ((s.replied .network 0x38 tag 0x12 []).judgeIdle)) ∧
    (∀ s1 : State, ¬ rangeFault →
      (ps.length = 7 ∧ s1 = s ∨ ∃ new, ps.length = 25 ∧ field ps 7 5 = n ∧ carriedCard (ps.drop 7) = some new ∧
        (listed ∨ s.cards.entries.length < 3000) ∧ s1 = { s with cards := s.cards.put new }) →
      (¬ matching →
        exec (.answerCard .network tag ps) s = .next ((s1.replied .network 0x38 tag 0x26 []).judgeIdle)) ∧
      (∀ (x : Inlet) (q : CardQuery), s.inlets[i]? = some x → x.query = some q → q.card = n →
        (answer = 0 →
          exec (.answerCard .network tag ps) s = .next (({ s1 with
            inlets := s.inlets.set i { x with slot := none, query := none }
            outcomes := s.outcomes ++ [(i, ReadOutcome.unknown)] }.replied .network 0x38 tag 0x00 [6]).judgeIdle)) ∧
        (answer = 1 → ∀ (e : Card) (k : Container),
          s1.cards.entries.find? (fun y => decide (y.number = n)) = some e → s.containers[x.cfg.container]? = some k →
          (∀ (o : ReadOutcome) (code : Byte),
            (o, code) ∈ ([(.fault, 2), (.suspended, 3), (.hot, 4), (.emptying, 5), (.full, 10)] : List (ReadOutcome × Byte)) →
            (if x.stuck = true ∨ k.displaced = true then o = .fault
              else if k.state = .suspended then o = .suspended
              else if k.hot = true then o = .hot
              else if k.state ≠ .serving then o = .emptying
              else k.full = true ∧ e.kind ≠ .service ∧ o = .full) →
            exec (.answerCard .network tag ps) s = .next (({ s1 with
              inlets := s.inlets.set i { x with slot := none, query := none }
              outcomes := s.outcomes ++ [(i, o)] }.replied .network 0x38 tag 0x00 [code]).judgeIdle)) ∧
          (x.stuck = false → k.displaced = false → k.state = .serving → k.hot = false →
            (k.full = false ∨ e.kind = .service) →
            exec (.answerCard .network tag ps) s = .next (({ s1 with
              inlets := s.inlets.set i (openedInlet x ⟨.card, some n, some e.household, false⟩ s.now)
              outcomes := s.outcomes ++ [(i, ReadOutcome.accept)] }.replied .network 0x38 tag 0x00 [0]).judgeIdle)))))

/-- READ_CARDS (R167) and REWIND_CARD_CURSOR (R168), READ_JOURNAL (R128) and REWIND_JOURNAL_CURSOR (R129): what a port
reads on from its cursor, and where the cursor then stands. The model's choices in it: log entries 12, 20, 29. -/
def Obligations.CursorRequests : Prop :=
  ∀ (s : State) (p : Port) (tag : Byte), s.listening p = true → s.configured = true →
    let cards := s.cards.entries.filter fun e => decide ((s.port p).cardCursor < e.number)
    let oldest := s.journal.nextSeq - s.journal.entries.length
    let cursor := max (s.port p).journalCursor oldest
    let ahead := s.journal.entries.filter fun e => decide (cursor ≤ e.seq)
    exec (.readCards p tag []) s = .next (((s.updPort p fun b =>
      { b with cardCursor := match (cards.take 6).getLast? with
          | some e => e.number
          | none => b.cardCursor }).replied p 0x35 tag 0x00
        ([if 6 < cards.length then 1 else 0, BitVec.ofNat 8 (cards.take 6).length] ++
          ((cards.take 6).map cardBytes).flatten)).judgeIdle) ∧
    exec (.rewindCardCursor p tag []) s =
      .next (((s.updPort p fun b => { b with cardCursor := 0 }).replied p 0x36 tag 0x00 []).judgeIdle) ∧
    exec (.readJournal p tag []) s = .next (((s.updPort p fun b =>
      { b with journalCursor := match (ahead.take 8).getLast? with
          | some e => e.seq + 1
          | none => cursor }).replied p 0x40 tag 0x00
        ([(if (s.port p).journalCursor < oldest then 1 else 0) + (if 8 < ahead.length then 2 else 0)] ++
          be 4 oldest ++ be 4 s.journal.nextSeq ++ [BitVec.ofNat 8 (ahead.take 8).length] ++
          ((ahead.take 8).map journalEntryBytes).flatten)).judgeIdle) ∧
    exec (.rewindJournalCursor p tag []) s =
      .next (((s.updPort p fun b => { b with journalCursor := oldest }).replied p 0x41 tag 0x00 []).judgeIdle)

/-! ## Journal -/

/-- The journal's places (R118, R119, R123 to R125): a DEPOSIT record below 1,008 entries and any other record below
1,024 makes an entry; past them it is turned away or lost, counted, with JOURNAL at the first of a run. RELEASE_JOURNAL
(R130). The model's choices in it: log entries 12, 20, 29. -/
def Obligations.JournalPlaces : Prop :=
  (∀ (s : State) (i n : Nat) (household : Option Nat) (unverified : Bool),
    (s.journal.entries.length < 1008 →
      s.journalDeposit i n household unverified = ({ s with
        journal := { s.journal with
          nextSeq := s.journal.nextSeq + 1
          entries := s.journal.entries ++
            [JournalEntry.mk s.journal.nextSeq s.clock.count (!s.clock.set) i (.deposit n household unverified)] } }.raiseIf
              (decide (s.journal.entries.length = 767)) .journal)) ∧
    (1008 ≤ s.journal.entries.length →
      s.journalDeposit i n household unverified = ({ s with
        journal := { s.journal with overflow := min (s.journal.overflow + 1) 65535, depositFull := true }
        cards := { s.cards with
          entries := s.cards.entries.map fun e : Card =>
            if e.number = n then { e with overflow := min (e.overflow + 1) 65535 } else e } }.raiseIf
              (!s.journal.depositFull) .journal))) ∧
  (∀ (s : State) (place : Nat) (body : JournalBody),
    (s.journal.entries.length < 1024 →
      s.journalRecord place body = ({ s with
        journal := { s.journal with
          nextSeq := s.journal.nextSeq + 1
          entries := s.journal.entries ++ [JournalEntry.mk s.journal.nextSeq s.clock.count (!s.clock.set) place body] } }.raiseIf
            (decide (s.journal.entries.length = 767)) .journal)) ∧
    (1024 ≤ s.journal.entries.length →
      s.journalRecord place body = ({ s with
        journal := { s.journal with lost := min (s.journal.lost + 1) 65535, lostMarker := true } }.raiseIf
          (!s.journal.lostMarker) .journal))) ∧
  (∀ (s : State) (tag b0 b1 b2 b3 : Byte), s.listening .network = true → s.configured = true →
    let n := (b0 ++ b1 ++ b2 ++ b3).toNat
    let oldest := s.journal.nextSeq - s.journal.entries.length
    let kept := s.journal.entries.filter fun e => decide (n < e.seq)
    (n < oldest →
      exec (.releaseJournal .network tag [b0, b1, b2, b3]) s =
        .next ((s.replied .network 0x42 tag 0x00 []).judgeIdle)) ∧
    (oldest ≤ n → s.journal.nextSeq ≤ n →
      exec (.releaseJournal .network tag [b0, b1, b2, b3]) s =
        .next ((s.replied .network 0x42 tag 0x12 []).judgeIdle)) ∧
    (oldest ≤ n → n < s.journal.nextSeq →
      exec (.releaseJournal .network tag [b0, b1, b2, b3]) s = .next (({ s with
        journal := { s.journal with
          entries := kept, depositFull := s.journal.depositFull && decide (1008 ≤ kept.length)
          lostMarker := s.journal.lostMarker && decide (1024 ≤ kept.length) } }.replied
            .network 0x42 tag 0x00 []).judgeIdle)))

/-! ## Emptying -/

/-- ANNOUNCE (R131, R133), END_SESSION (R134), CARRIER_CHANGE of an AWAKE part (R135) and CARRIER_LOSS (R136). That a
CARRIER_CHANGE to the level already followed changes nothing is the model's choice (log entry 30), and so is that an
UNCONFIGURED part follows the level too (R132, R176; log entry 25). The model's other choices in it: log entries 3, 12,
20, 29. -/
def Obligations.SessionsAndCarrier : Prop :=
  (∀ (s : State) (tag hi lo : Byte) (g : StationConfig), s.listening .vehicle = true → s.store.running = some g →
    let id := (hi ++ lo).toNat
    (id = 0 → exec (.announce .vehicle tag [hi, lo]) s = .next ((s.replied .vehicle 0x50 tag 0x12 []).judgeIdle)) ∧
    (id ≠ 0 →
      (∀ x, s.lift.session = some x →
        (x.vehicle = id →
          exec (.announce .vehicle tag [hi, lo]) s = .next ((s.replied .vehicle 0x50 tag 0x00 []).judgeIdle)) ∧
        (x.vehicle ≠ id →
          exec (.announce .vehicle tag [hi, lo]) s = .next ((s.replied .vehicle 0x50 tag 0x20 []).judgeIdle))) ∧
      (s.lift.session = none →
        (g.vehicles ≠ [] → (∀ v ∈ g.vehicles, v.id ≠ id) →
          exec (.announce .vehicle tag [hi, lo]) s = .next ((s.replied .vehicle 0x50 tag 0x13 []).judgeIdle)) ∧
        (∀ fs : FractionSet,
          (g.vehicles = [] ∧ fs = 0xFF ∨ ∃ v, g.vehicles.find? (fun v => decide (v.id = id)) = some v ∧ v.fractions = fs) →
          exec (.announce .vehicle tag [hi, lo]) s = .next (({ s with
            lift := { s.lift with
              session := some ⟨id, fs, s.clock.count, none⟩
              carrierLoss := if s.lift.carrier then s.lift.carrierLoss else some (s.now + 3000) } }.replied
                .vehicle 0x50 tag 0x00 []).judgeIdle))))) ∧
  (∀ (s : State) (tag : Byte), s.listening .vehicle = true → s.configured = true →
    let ended : LiftController := { s.lift with session := none, carrierLoss := none }
    (s.lift.session = none →
      exec (.endSession .vehicle tag []) s = .next ((s.replied .vehicle 0x51 tag 0x22 []).judgeIdle)) ∧
    (∀ x, s.lift.session = some x →
      (x.claimed = none →
        exec (.endSession .vehicle tag []) s =
          .next (({ s with lift := ended }.replied .vehicle 0x51 tag 0x00 []).judgeIdle)) ∧
      (∀ c k, x.claimed = some c → s.containers[c]? = some k →
        (k.state = .claimed ∨ k.state = .released →
          exec (.endSession .vehicle tag []) s = .next ((s.replied .vehicle 0x51 tag 0x20 []).judgeIdle)) ∧
        (k.state = .lifted →
          exec (.endSession .vehicle tag []) s =
            .next ((({ s with lift := ended }.raise .lift).replied .vehicle 0x51 tag 0x00 []).judgeIdle))))) ∧
  (∀ s : State, s.attends = true →
    (∀ b, s.lift.carrier = b → exec (.carrierChange b) s = .next s.judgeIdle) ∧
    (s.lift.carrier = false → exec (.carrierChange true) s =
      .next ({ s with lift := { s.lift with carrier := true, carrierLoss := none } }.judgeIdle)) ∧
    (s.lift.carrier = true → exec (.carrierChange false) s =
      .next ({ s with lift := { s.lift with
        carrier := false
        carrierLoss := if s.lift.session.isSome then some (s.now + 3000) else none } }.judgeIdle))) ∧
  (∀ (s : State) (t : Nat) (x : Session), s.power = .running → s.lift.carrierLoss = some t →
    s.lift.session = some x →
    (∀ c k, x.claimed = some c → s.containers[c]? = some k → k.state = .claimed ∨ k.state = .released →
      exec .carrierLoss s = .next (({ s with
        now := max s.now t, containers := s.containers.set c { k with state := .serving }
        lift := { s.lift with
          session := none, carrierLoss := none, lidWait := none, releaseWait := none
          last := some ⟨c, .carrierLost, s.clock.count⟩ } }.raise .lift).judgeIdle)) ∧
    ((∀ c, x.claimed = some c → s.inState c .claimed = false ∧ s.inState c .released = false) →
      exec .carrierLoss s = .next (({ s with
        now := max s.now t, lift := { s.lift with session := none, carrierLoss := none } }.raise .lift).judgeIdle)))

/-- CLAIM_LIFT (R138, R139) with the release condition (R140), CANCEL_LIFT (R143), LID_WAIT_EXPIRY (R141) and
RELEASE_WAIT_EXPIRY (R142); and the release condition itself. And which outcomes one event sends to the readers of
inlets whose slot it empties: one for each such inlet, in ascending number (R78, R108; log entry 41). The model's
choices in it: log entries 3, 12, 13, 20, 29, 41. -/
def Obligations.LiftRequestsAndWaits : Prop :=
  (∀ (test : Inlet → Bool) (o : ReadOutcome) (xs : List Inlet),
    (∀ i r, (i, r) ∈ slotOutcomes test o 0 xs ↔ r = o ∧ ∃ x, xs[i]? = some x ∧ x.slot ≠ none ∧ test x = true) ∧
    (slotOutcomes test o 0 xs).Pairwise fun a b => a.1 < b.1) ∧
  (∀ (s : State) (tag n : Byte), s.listening .vehicle = true → s.configured = true →
    (s.lift.session = none →
      exec (.claimLift .vehicle tag [n]) s = .next ((s.replied .vehicle 0x52 tag 0x22 []).judgeIdle)) ∧
    (∀ x : Session, s.lift.session = some x →
      let busy := x.claimed ≠ none ∨ ∃ k ∈ s.containers, k.state = .claimed ∨ k.state = .released ∨ k.state = .lifted
      (busy → exec (.claimLift .vehicle tag [n]) s = .next ((s.replied .vehicle 0x52 tag 0x20 []).judgeIdle)) ∧
      (¬ busy → s.containers[n.toNat]? = none →
        exec (.claimLift .vehicle tag [n]) s = .next ((s.replied .vehicle 0x52 tag 0x12 []).judgeIdle)) ∧
      (∀ k : Container, ¬ busy → s.containers[n.toNat]? = some k →
        (x.fractions.getLsbD k.cfg.fraction = false →
          exec (.claimLift .vehicle tag [n]) s = .next ((s.replied .vehicle 0x52 tag 0x23 []).judgeIdle)) ∧
        (x.fractions.getLsbD k.cfg.fraction = true → k.hot = true →
          exec (.claimLift .vehicle tag [n]) s = .next ((s.replied .vehicle 0x52 tag 0x24 []).judgeIdle)) ∧
        (x.fractions.getLsbD k.cfg.fraction = true → k.hot = false →
          k.state = .suspended ∨ k.state = .verifying ∨ k.displaced = true →
          exec (.claimLift .vehicle tag [n]) s = .next ((s.replied .vehicle 0x52 tag 0x21 []).judgeIdle)) ∧
        (x.fractions.getLsbD k.cfg.fraction = true → k.hot = false → k.state = .serving → k.displaced = false →
          exec (.claimLift .vehicle tag [n]) s = .next ((({ s with
            outcomes := s.outcomes ++ slotOutcomes (fun y => decide (y.cfg.container = n.toNat)) .emptying 0 s.inlets
            containers := s.containers.set n.toNat { k with state := .claimed }
            inlets := s.inlets.map fun y : Inlet =>
              if y.cfg.container = n.toNat then
                (match y.state with
                  | .unlocked =>
                    { y with slot := none, query := none, state := .locked, window := none, windowTimer := none }
                  | .serviceOpen =>
                    { y with slot := none, query := none, state := .locked, window := none, serviceTimer := none
                             runOut := false }
                  | .locked | .inUse => { y with slot := none, query := none })
              else y
            lift := { s.lift with
              session := some { x with claimed := some n.toNat }
              lidWait := some (s.now + 60000) } }.judgeRelease n.toNat).replied .vehicle 0x52 tag 0x01 []).judgeIdle))))) ∧
  (∀ (s : State) (c : Nat) (k : Container), s.containers[c]? = some k →
    (k.state = .claimed → (∀ y ∈ s.inlets, y.cfg.container = c → y.state = .locked ∧ y.lidOpen = false) →
      s.judgeRelease c = { s with
        containers := s.containers.set c { k with state := .released }
        lift := { s.lift with lidWait := none, releaseWait := some (s.now + 180000) } }.raise .lift) ∧
    (k.state ≠ .claimed ∨ (∃ y ∈ s.inlets, y.cfg.container = c ∧ (y.state ≠ .locked ∨ y.lidOpen = true)) →
      s.judgeRelease c = s)) ∧
  (∀ (s : State) (tag : Byte), s.listening .vehicle = true → s.configured = true →
    (s.lift.session = none →
      exec (.cancelLift .vehicle tag []) s = .next ((s.replied .vehicle 0x53 tag 0x22 []).judgeIdle)) ∧
    (∀ x, s.lift.session = some x → x.claimed = none →
      ((∃ k ∈ s.containers, k.state = .lifted ∨ k.state = .verifying) →
        exec (.cancelLift .vehicle tag []) s = .next ((s.replied .vehicle 0x53 tag 0x21 []).judgeIdle)) ∧
      ((∀ k ∈ s.containers, k.state ≠ .lifted ∧ k.state ≠ .verifying) →
        exec (.cancelLift .vehicle tag []) s = .next ((s.replied .vehicle 0x53 tag 0x22 []).judgeIdle))) ∧
    (∀ x c k, s.lift.session = some x → x.claimed = some c → s.containers[c]? = some k →
      (k.state = .claimed ∨ k.state = .released →
        exec (.cancelLift .vehicle tag []) s = .next ((({ s with
          containers := s.containers.set c { k with state := .serving }
          lift := s.lift.claimEnded c .cancelled s.clock.count }.raise .lift).replied
            .vehicle 0x53 tag 0x00 []).judgeIdle)) ∧
      (k.state = .lifted →
        exec (.cancelLift .vehicle tag []) s = .next ((s.replied .vehicle 0x53 tag 0x21 []).judgeIdle)))) ∧
  (∀ (s : State) (c : Nat) (k : Container) (t : Nat), s.power = .running → s.containers[c]? = some k →
    (∀ (d : Nat) (m : Container), s.containers[d]? = some m → m.state = k.state → d = c) →
    (k.state = .claimed → s.lift.lidWait = some t →
      exec .lidWaitExpiry s = .next (({ s with
        now := max s.now t, containers := s.containers.set c { k with state := .serving }
        lift := s.lift.claimEnded c .lidTimeout s.clock.count }.raise .lift).judgeIdle)) ∧
    (k.state = .released → s.lift.releaseWait = some t →
      exec .releaseWaitExpiry s = .next (({ s with
        now := max s.now t, containers := s.containers.set c { k with state := .serving }
        lift := s.lift.claimEnded c .releaseTimeout s.clock.count }.raise .lift).judgeIdle)))

/-! ## Doze and wake -/

/-- IDLE_TIMER_EXPIRY of an AWAKE part (R182, R183): DOZE, the receivers' gap timers gone, the wake timer at the earliest
next-due time or lid-open limit expiry. WAKE_TIMER_EXPIRY (R183, R184): what has come is held, each once, and the
settling begins. The model's choices in it: log entries 3, 28. -/
def Obligations.DozeAndWakeTimer : Prop :=
  (∀ (s : State) (t : Nat), s.attends = true → s.wake.idleTimer = some t →
    ∃ m : Option Nat,
      (∀ k ∈ s.containers, ∃ n, m = some n ∧ n ≤ k.nextDue) ∧
      (∀ x ∈ s.inlets, ∀ l, x.limitTimer = some l → ∃ n, m = some n ∧ n ≤ l) ∧
      (∀ n, m = some n → (∃ k ∈ s.containers, k.nextDue = n) ∨ ∃ x ∈ s.inlets, x.limitTimer = some n) ∧
      exec .idleTimerExpiry s = .next { s with
        now := max s.now t
        ports := ⟨{ s.ports.network with gap := none }, { s.ports.vehicle with gap := none },
          { s.ports.service with gap := none }⟩
        wake := { state := .doze, idleTimer := none, wakeTimer := m, settleEnd := none, held := [] } }) ∧
  (∀ (s : State) (t : Nat), s.power = .running → s.wake.state = .doze → s.wake.wakeTimer = some t →
    ∃ come : List HeldCause,
      come.Nodup ∧
      (∀ h, h ∈ come ↔ h ∉ s.wake.held ∧
        ((∃ c k, h = .due c ∧ s.containers[c]? = some k ∧ k.nextDue ≤ max s.now t) ∨
          (∃ i x l, h = .limit i ∧ s.inlets[i]? = some x ∧ x.limitTimer = some l ∧ l ≤ max s.now t))) ∧
      exec .wakeTimerExpiry s = .next { s with
        now := max s.now t
        wake := { state := .waking, idleTimer := none, wakeTimer := none, settleEnd := some (max s.now t + 2)
                  held := s.wake.held ++ come } })

/-- What arrives while the part is not AWAKE is held, and the first of it begins the 2 ms of settling (R183 to R186): a
receive line's edge, the bytes of a request frame, of an unknown request's or of a bad frame (lost, but marked once as
receive activity), a read at a fitted reader, a reset line assertion (held once, after the changes that its levels
bring), a carrier edge, an accepted lid event, an accepted seat change. A due event and a limit expiry are held likewise
(log entry 28). The model's choices in it: log entries 3, 8, 24. -/
def Obligations.ArrivalsAreHeld : Prop :=
  ∀ s : State, s.power = .running → s.wake.state ≠ .awake →
    let heldIn : State → HeldCause → State := fun u h => { u with
      wake := { u.wake with
        state := .waking, idleTimer := none, held := u.wake.held ++ [h]
        settleEnd := if u.wake.state = .doze then some (u.now + 2) else u.wake.settleEnd } }
    (∀ p, HeldCause.receive p ∉ s.wake.held →
      exec (.receiveActivityInDoze p) s = .next (heldIn s (.receive p))) ∧
    (∀ p, HeldCause.receive p ∈ s.wake.held → s.wake.state = .waking →
      exec (.receiveActivityInDoze p) s = .next { s with wake := { s.wake with idleTimer := none } }) ∧
    (∀ (i : Fin 16) (n : BitVec 40) (x : Inlet), s.inlets[i.val]? = some x → x.cfg.reader = true →
      exec (.cardRead i n) s = .next (heldIn s (.read i n.toNat))) ∧
    (∀ (i : Instr) (p : Port) (code tag : Byte) (ps : List Byte),
      requestParts i = some (p, code, tag, ps) ∨ i = .unknownRequestCode p code tag ps →
      (HeldCause.receive p ∉ s.wake.held → exec i s = .next (heldIn (s.linesOf i) (.receive p))) ∧
      (HeldCause.receive p ∈ s.wake.held → s.wake.state = .waking →
        exec i s = .next { s.linesOf i with wake := { (s.linesOf i).wake with idleTimer := none } })) ∧
    (∀ (p : Port) (bs : List RxByte), bs ≠ [] →
      (HeldCause.receive p ∉ s.wake.held → exec (.badFrame p bs) s = .next (heldIn s (.receive p))) ∧
      (HeldCause.receive p ∈ s.wake.held → s.wake.state = .waking →
        exec (.badFrame p bs) s = .next { s with wake := { s.wake with idleTimer := none } })) ∧
    (∀ l, HeldCause.restart ∉ s.wake.held →
      exec (.resetLineAssertion l) s = .next (heldIn (s.moveLines l) .restart)) ∧
    (∀ l, HeldCause.restart ∈ s.wake.held → s.wake.state = .waking →
      exec (.resetLineAssertion l) s = .next { s.moveLines l with wake := { (s.moveLines l).wake with idleTimer := none } }) ∧
    (∀ b, (∀ d, HeldCause.carrier d ∉ s.wake.held) → s.lift.carrier ≠ b →
      exec (.carrierChange b) s = .next (heldIn s (.carrier b))) ∧
    (∀ (i : Fin 16) (x : Inlet), s.inlets[i.val]? = some x → (∀ b t, HeldCause.lid i b t ∉ s.wake.held) →
      ∃ v : BitVec 16, let u : State :=
        { s with lines := { s.lines with lid := v }, inlets := s.inlets.set i { x with rejectStart := none } }
      (∀ n, n < 16 → v.getLsbD n =
        if n = i.val then (if x.lidOpen then !x.cfg.activeHigh else x.cfg.activeHigh) else s.lines.lid.getLsbD n) ∧
      (x.lidOpen = false → exec (.lidOpening i) s = .next (heldIn u (.lid i true s.now))) ∧
      (x.lidOpen = true → exec (.lidClosing i) s = .next (heldIn u (.lid i false s.now)))) ∧
    (∀ (c : Fin 8) (k : Container), s.containers[c.val]? = some k → (∀ b t, HeldCause.seat c b t ∉ s.wake.held) →
      ∃ v : BitVec 8, let u : State :=
        { s with lines := { s.lines with seat := v }, containers := s.containers.set c { k with seatHold := none } }
      (∀ n, n < 8 → v.getLsbD n = if n = c.val then !k.seated else s.lines.seat.getLsbD n) ∧
      (k.seated = true → exec (.unseat c) s = .next (heldIn u (.seat c false s.now))) ∧
      (k.seated = false → exec (.reseat c) s = .next (heldIn u (.seat c true s.now)))) ∧
    (∀ (c : Fin 8) (k : Container), s.containers[c.val]? = some k → HeldCause.due c ∉ s.wake.held →
      exec (.dueEvent c) s = .next (heldIn { s with now := max s.now k.nextDue } (.due c))) ∧
    (∀ (i : Fin 16) (x : Inlet) (t : Nat), s.inlets[i.val]? = some x → x.limitTimer = some t →
      HeldCause.limit i ∉ s.wake.held →
      exec (.lidOpenLimitExpiry i) s = .next (heldIn { s with now := max s.now t } (.limit i)))

/-- WAKE_SETTLING_END (R184 to R186), from the state v in which the lines have moved to the given levels and the changes that
this brings are held (R72): the part is AWAKE, every receiver HUNTING; every held cause, and every due event and limit
expiry whose moment has come meanwhile, is taken once, in an order that keeps the order of arrival of each inlet's reads
and lid events, each container's seat changes and the carrier's edges; then the arbiter. What taking a cause does: a port
marked with receive activity starts in SKIPPING; a read, a carrier edge, a warm restart, a due event and a limit expiry do
what their command does in an AWAKE part, the last two only where the moment they wait for has come; a seat change does
what WarmRestartByResetLine says of one; a lid event does what LidEvents says, with the time at which it was accepted as
its opening or closing time. That a journal entry made by such a closing has the clock's count and marker of this event,
not of the closing's acceptance, is the model's choice (R119; log entry 42). The model's other choices in it: log entries
3, 8, 9, 11, 12, 20, 24, 28, 32, 38, 39, 40. -/
def Obligations.WakeSettlingEnd : Prop :=
  (∀ (s v : State) (l : FieldLines) (order : List Nat) (t : Nat), s.power = .running → s.wake.state = .waking →
    s.wake.settleEnd = some t → v = { s with now := max s.now t }.moveLines l →
    ∃ (come hs : List HeldCause),
      come.Nodup ∧
      (∀ h, h ∈ come ↔ h ∉ v.wake.held ∧
        ((∃ c k, h = .due c ∧ v.containers[c]? = some k ∧ k.nextDue ≤ v.now) ∨
          (∃ i x n, h = .limit i ∧ v.inlets[i]? = some x ∧ x.limitTimer = some n ∧ n ≤ v.now))) ∧
      hs.Perm (v.wake.held ++ come) ∧
      (∀ h, hs.filter (fun g => sameOrigin g h) = (v.wake.held ++ come).filter fun g => sameOrigin g h) ∧
      exec (.wakeSettlingEnd l order) s = .next ((hs.foldl State.takeCause { v with
        ports := ⟨{ v.ports.network with receiver := .hunting, gap := none },
          { v.ports.vehicle with receiver := .hunting, gap := none },
          { v.ports.service with receiver := .hunting, gap := none }⟩
        wake := { state := .awake, idleTimer := none, wakeTimer := none, settleEnd := none
                  held := [] } }).arbitrate.judgeIdle)) ∧
  (∀ (s : State) (p : Port), s.takeCause (.receive p) = s.updPort p fun b =>
    { b with receiver := .skipping, gap := some (s.now + 20), discarded := min (b.discarded + 1) 255 }) ∧
  (∀ s : State, s.attends = true →
    (∀ (i : Fin 16) (n : BitVec 40),
      exec (.cardRead i n) s = .next (s.takeCause (.read i.val n.toNat)).judgeIdle) ∧
    (∀ b, exec (.carrierChange b) s = .next (s.takeCause (.carrier b)).judgeIdle) ∧
    (∀ l, exec (.resetLineAssertion l) s = .next ((s.moveLines l).takeCause .restart).judgeIdle) ∧
    (∀ (c : Fin 8) (k : Container), s.containers[c.val]? = some k →
      (k.nextDue ≤ s.now → exec (.dueEvent c) s = .next (s.takeCause (.due c)).arbitrate.judgeIdle) ∧
      (s.now < k.nextDue → s.takeCause (.due c) = s)) ∧
    (∀ (i : Fin 16) (x : Inlet), s.inlets[i.val]? = some x →
      (∀ t, x.limitTimer = some t → t ≤ s.now →
        exec (.lidOpenLimitExpiry i) s = .next (s.takeCause (.limit i)).judgeIdle) ∧
      ((∀ t, x.limitTimer = some t → s.now < t) → s.takeCause (.limit i) = s)) ∧
    (∀ c b t, s.takeCause (.seat c b t) = s.takeSeat c b) ∧
    (∀ (i t : Nat) (x : Inlet), s.inlets[i]? = some x →
      let put : Inlet → State := fun y => { s with inlets := s.inlets.set i y }
      let limit := some (t + x.cfg.limitSeconds * 1000)
      let c := x.cfg.container
      let closed : Inlet := { x with lidOpen := false, lid := none, limitTimer := none, stuck := false }
      s.takeCause (.lid i x.lidOpen t) = s ∧
      (x.lidOpen = false → s.inState c .lifted = true →
        s.takeCause (.lid i true t) = put { x with lidOpen := true, lid := some ⟨.uncounted, t⟩ }) ∧
      (x.lidOpen = false → s.inState c .lifted = false →
        (x.state = .locked → s.takeCause (.lid i true t) = (put { x with
          lidOpen := true, lid := some ⟨.forced, t⟩, limitTimer := limit
          forced := min (x.forced + 1) 255 }).raise .inlet) ∧
        (x.state = .unlocked → s.takeCause (.lid i true t) = put { x with
          lidOpen := true, lid := some ⟨.window, t⟩, limitTimer := limit, state := .inUse, windowTimer := none }) ∧
        (x.state = .serviceOpen → s.takeCause (.lid i true t) = put { x with
          lidOpen := true, lid := some ⟨.service, t⟩ })) ∧
      (x.lidOpen = true → s.inState c .lifted = true → s.takeCause (.lid i false t) = put closed) ∧
      (∀ (l : LidOpen) (k : Container), x.lidOpen = true → s.inState c .lifted = false → x.lid = some l →
        s.containers[c]? = some k →
        let raised := s.containers.set c { k with added := min (k.added + x.cfg.nominal) 65535 }
        (l.cause = .window → ∀ (w : WindowRecord) (n : Nat), x.window = some w → w.card = some n →
          s.takeCause (.lid i false t) = (({ put { closed with state := .locked, window := none } with
            containers := raised
            cards := { s.cards with
              entries := s.cards.entries.map fun e : Card =>
                if e.number = n then { e with used := min (e.used + 1) 255 } else e } }.evaluate c).journalDeposit
                  i n w.household w.unverified).judgeRelease c) ∧
        (l.cause = .forced →
          s.takeCause (.lid i false t) = ({ (put closed).journalRecord i
            (.forced (min ((t - l.time) / 1000) 65535)) with containers := raised }.evaluate c).judgeRelease c) ∧
        (l.cause = .service → x.state = .serviceOpen →
          s.takeCause (.lid i false t) = (put (if x.runOut then
              { closed with
                state := .locked, window := none, serviceTimer := none, runOut := false
                cycles := min (x.cycles + 1) 255 }
            else { closed with cycles := min (x.cycles + 1) 255 })).judgeRelease c) ∧
        (l.cause = .service → x.state ≠ .serviceOpen →
          s.takeCause (.lid i false t) = (put { closed with cycles := min (x.cycles + 1) 255 }).judgeRelease c) ∧
        (l.cause = .uncounted → s.takeCause (.lid i false t) = (put closed).judgeRelease c))))

/-! ## What every step keeps -/

/-- Every step keeps the journal sound (R117, R118, R123 to R125, R127). -/
def Obligations.StepKeepsJournalSound : Prop :=
  ∀ s t : State, s.JournalSound → step s = .next t → t.JournalSound

/-- Every step keeps the card table ascending, within its places and its fields within their values (R93, R94). -/
def Obligations.StepKeepsCardsSound : Prop :=
  ∀ s t : State, s.cards.Sound → step s = .next t → t.cards.Sound

/-- Every step keeps the serial memory in its canonical form and every write under way inside it (R173, R177); and the clock's
count in its range (R170). The canonical form is the model's choice: no entry is listed that reads as an unwritten byte
does (log entry 5). -/
def Obligations.StepKeepsStoreAndClockSound : Prop :=
  ∀ s t : State, step s = .next t → (s.store.Sound → t.store.Sound) ∧ (s.clock.Sound → t.clock.Sound)

/-- Every step keeps the due list to configured containers, each once (R61). -/
def Obligations.StepKeepsDueListSound : Prop :=
  ∀ s t : State, s.DueListSound → step s = .next t → t.DueListSound

/-- Every step keeps the containers, the front end and the emptying controller fitting together (R6, R9, R12, R19, R24, R35,
R132, R138). That no conversion of a run under way has ended between two events is the model's choice (log entry 14). -/
def Obligations.StepKeepsLiftSound : Prop :=
  ∀ s t : State, s.LiftSound → step s = .next t → t.LiftSound

/-- Every step keeps every inlet record sound, and every inlet LOCKED while its container is RELEASED, LIFTED or VERIFYING
(R5, R72 to R74, R77, R88, R108). -/
def Obligations.StepKeepsInletsSound : Prop :=
  ∀ s t : State, s.InletsSound → step s = .next t → t.InletsSound

/-- Every step keeps the port blocks sound (R155, R156, R162, R164). -/
def Obligations.StepKeepsPortsSound : Prop :=
  ∀ s t : State, s.PortsSound → step s = .next t → t.PortsSound

/-- Every step keeps the wake controller sound (R176, R181 to R184). That the wake timer does not run while AWAKE is the
model's choice (DEDUCED, log entry 32). -/
def Obligations.StepKeepsWakeSound : Prop :=
  ∀ s t : State, s.WakeSound → step s = .next t → t.WakeSound
end

