-- ==== Sys2Proof/Laws/State.lean ====
section
/-! SUPPORT. What each shared operation leaves of the state: for every operation, the fields it does not touch.
Each lemma is a simp lemma, so that no later proof unfolds a record update. -/

namespace Sys2Proof.Machine

/-! ## Ops -/

@[simp] theorem State.updPort_frame (s : State) (p : Port) (f : PortBlock → PortBlock) :
    (s.updPort p f).power = s.power ∧ (s.updPort p f).now = s.now ∧ (s.updPort p f).lines = s.lines ∧
    (s.updPort p f).store = s.store ∧ (s.updPort p f).clock = s.clock ∧ (s.updPort p f).run = s.run ∧
    (s.updPort p f).containers = s.containers ∧ (s.updPort p f).inlets = s.inlets ∧
    (s.updPort p f).dueList = s.dueList ∧ (s.updPort p f).cards = s.cards ∧
    (s.updPort p f).journal = s.journal ∧ (s.updPort p f).lift = s.lift ∧
    (s.updPort p f).outcomes = s.outcomes ∧ (s.updPort p f).wake = s.wake ∧ (s.updPort p f).drawn = s.drawn ∧
    (s.updPort p f).pending = s.pending :=
  ⟨rfl, rfl, rfl, rfl, rfl, rfl, rfl, rfl, rfl, rfl, rfl, rfl, rfl, rfl, rfl, rfl⟩

@[simp] theorem State.mapPorts_frame (s : State) (f : PortBlock → PortBlock) :
    (s.mapPorts f).power = s.power ∧ (s.mapPorts f).now = s.now ∧ (s.mapPorts f).lines = s.lines ∧
    (s.mapPorts f).store = s.store ∧ (s.mapPorts f).clock = s.clock ∧ (s.mapPorts f).run = s.run ∧
    (s.mapPorts f).containers = s.containers ∧ (s.mapPorts f).inlets = s.inlets ∧
    (s.mapPorts f).dueList = s.dueList ∧ (s.mapPorts f).cards = s.cards ∧ (s.mapPorts f).journal = s.journal ∧
    (s.mapPorts f).lift = s.lift ∧ (s.mapPorts f).outcomes = s.outcomes ∧ (s.mapPorts f).wake = s.wake ∧
    (s.mapPorts f).drawn = s.drawn ∧ (s.mapPorts f).pending = s.pending :=
  ⟨rfl, rfl, rfl, rfl, rfl, rfl, rfl, rfl, rfl, rfl, rfl, rfl, rfl, rfl, rfl, rfl⟩

@[simp] theorem State.updContainer_frame (s : State) (c : Nat) (f : Container → Container) :
    (s.updContainer c f).power = s.power ∧ (s.updContainer c f).now = s.now ∧
    (s.updContainer c f).lines = s.lines ∧ (s.updContainer c f).store = s.store ∧
    (s.updContainer c f).clock = s.clock ∧ (s.updContainer c f).run = s.run ∧
    (s.updContainer c f).inlets = s.inlets ∧ (s.updContainer c f).dueList = s.dueList ∧
    (s.updContainer c f).cards = s.cards ∧ (s.updContainer c f).journal = s.journal ∧
    (s.updContainer c f).lift = s.lift ∧ (s.updContainer c f).ports = s.ports ∧
    (s.updContainer c f).outcomes = s.outcomes ∧ (s.updContainer c f).wake = s.wake ∧
    (s.updContainer c f).drawn = s.drawn ∧ (s.updContainer c f).pending = s.pending :=
  ⟨rfl, rfl, rfl, rfl, rfl, rfl, rfl, rfl, rfl, rfl, rfl, rfl, rfl, rfl, rfl, rfl⟩

@[simp] theorem State.updInlet_frame (s : State) (i : Nat) (f : Inlet → Inlet) :
    (s.updInlet i f).power = s.power ∧ (s.updInlet i f).now = s.now ∧ (s.updInlet i f).lines = s.lines ∧
    (s.updInlet i f).store = s.store ∧ (s.updInlet i f).clock = s.clock ∧ (s.updInlet i f).run = s.run ∧
    (s.updInlet i f).containers = s.containers ∧ (s.updInlet i f).dueList = s.dueList ∧
    (s.updInlet i f).cards = s.cards ∧ (s.updInlet i f).journal = s.journal ∧ (s.updInlet i f).lift = s.lift ∧
    (s.updInlet i f).ports = s.ports ∧ (s.updInlet i f).outcomes = s.outcomes ∧ (s.updInlet i f).wake = s.wake ∧
    (s.updInlet i f).drawn = s.drawn ∧ (s.updInlet i f).pending = s.pending :=
  ⟨rfl, rfl, rfl, rfl, rfl, rfl, rfl, rfl, rfl, rfl, rfl, rfl, rfl, rfl, rfl, rfl⟩

@[simp] theorem State.mapBoundInlets_frame (s : State) (c : Nat) (f : Inlet → Inlet) :
    (s.mapBoundInlets c f).power = s.power ∧ (s.mapBoundInlets c f).now = s.now ∧
    (s.mapBoundInlets c f).lines = s.lines ∧ (s.mapBoundInlets c f).store = s.store ∧
    (s.mapBoundInlets c f).clock = s.clock ∧ (s.mapBoundInlets c f).run = s.run ∧
    (s.mapBoundInlets c f).containers = s.containers ∧ (s.mapBoundInlets c f).dueList = s.dueList ∧
    (s.mapBoundInlets c f).cards = s.cards ∧ (s.mapBoundInlets c f).journal = s.journal ∧
    (s.mapBoundInlets c f).lift = s.lift ∧ (s.mapBoundInlets c f).ports = s.ports ∧
    (s.mapBoundInlets c f).outcomes = s.outcomes ∧ (s.mapBoundInlets c f).wake = s.wake ∧
    (s.mapBoundInlets c f).drawn = s.drawn ∧ (s.mapBoundInlets c f).pending = s.pending :=
  ⟨rfl, rfl, rfl, rfl, rfl, rfl, rfl, rfl, rfl, rfl, rfl, rfl, rfl, rfl, rfl, rfl⟩

@[simp] theorem State.advanceTo_frame (s : State) (t : Nat) :
    (s.advanceTo t).power = s.power ∧ (s.advanceTo t).lines = s.lines ∧ (s.advanceTo t).store = s.store ∧
    (s.advanceTo t).clock = s.clock ∧ (s.advanceTo t).run = s.run ∧ (s.advanceTo t).containers = s.containers ∧
    (s.advanceTo t).inlets = s.inlets ∧ (s.advanceTo t).dueList = s.dueList ∧ (s.advanceTo t).cards = s.cards ∧
    (s.advanceTo t).journal = s.journal ∧ (s.advanceTo t).lift = s.lift ∧ (s.advanceTo t).ports = s.ports ∧
    (s.advanceTo t).outcomes = s.outcomes ∧ (s.advanceTo t).wake = s.wake ∧ (s.advanceTo t).drawn = s.drawn ∧
    (s.advanceTo t).pending = s.pending :=
  ⟨rfl, rfl, rfl, rfl, rfl, rfl, rfl, rfl, rfl, rfl, rfl, rfl, rfl, rfl, rfl, rfl⟩

@[simp] theorem State.sendOutcome_frame (s : State) (i : Nat) (o : ReadOutcome) :
    (s.sendOutcome i o).power = s.power ∧ (s.sendOutcome i o).now = s.now ∧
    (s.sendOutcome i o).lines = s.lines ∧ (s.sendOutcome i o).store = s.store ∧
    (s.sendOutcome i o).clock = s.clock ∧ (s.sendOutcome i o).run = s.run ∧
    (s.sendOutcome i o).containers = s.containers ∧ (s.sendOutcome i o).inlets = s.inlets ∧
    (s.sendOutcome i o).dueList = s.dueList ∧ (s.sendOutcome i o).cards = s.cards ∧
    (s.sendOutcome i o).journal = s.journal ∧ (s.sendOutcome i o).lift = s.lift ∧
    (s.sendOutcome i o).ports = s.ports ∧ (s.sendOutcome i o).wake = s.wake ∧
    (s.sendOutcome i o).drawn = s.drawn ∧ (s.sendOutcome i o).pending = s.pending :=
  ⟨rfl, rfl, rfl, rfl, rfl, rfl, rfl, rfl, rfl, rfl, rfl, rfl, rfl, rfl, rfl, rfl⟩

@[simp] theorem State.sendSlotOutcomes_frame (s : State) (test : Inlet → Bool) (o : ReadOutcome) :
    (s.sendSlotOutcomes test o).power = s.power ∧ (s.sendSlotOutcomes test o).now = s.now ∧
    (s.sendSlotOutcomes test o).lines = s.lines ∧ (s.sendSlotOutcomes test o).store = s.store ∧
    (s.sendSlotOutcomes test o).clock = s.clock ∧ (s.sendSlotOutcomes test o).run = s.run ∧
    (s.sendSlotOutcomes test o).containers = s.containers ∧ (s.sendSlotOutcomes test o).inlets = s.inlets ∧
    (s.sendSlotOutcomes test o).dueList = s.dueList ∧ (s.sendSlotOutcomes test o).cards = s.cards ∧
    (s.sendSlotOutcomes test o).journal = s.journal ∧ (s.sendSlotOutcomes test o).lift = s.lift ∧
    (s.sendSlotOutcomes test o).ports = s.ports ∧ (s.sendSlotOutcomes test o).wake = s.wake ∧
    (s.sendSlotOutcomes test o).drawn = s.drawn ∧ (s.sendSlotOutcomes test o).pending = s.pending :=
  ⟨rfl, rfl, rfl, rfl, rfl, rfl, rfl, rfl, rfl, rfl, rfl, rfl, rfl, rfl, rfl, rfl⟩

@[simp] theorem State.raise_frame (s : State) (k : AttentionKind) :
    (s.raise k).power = s.power ∧ (s.raise k).now = s.now ∧ (s.raise k).lines = s.lines ∧
    (s.raise k).store = s.store ∧ (s.raise k).clock = s.clock ∧ (s.raise k).run = s.run ∧
    (s.raise k).containers = s.containers ∧ (s.raise k).inlets = s.inlets ∧ (s.raise k).dueList = s.dueList ∧
    (s.raise k).cards = s.cards ∧ (s.raise k).journal = s.journal ∧ (s.raise k).lift = s.lift ∧
    (s.raise k).outcomes = s.outcomes ∧ (s.raise k).wake = s.wake ∧ (s.raise k).drawn = s.drawn ∧
    (s.raise k).pending = s.pending :=
  ⟨rfl, rfl, rfl, rfl, rfl, rfl, rfl, rfl, rfl, rfl, rfl, rfl, rfl, rfl, rfl, rfl⟩

@[simp] theorem State.raiseIf_frame (s : State) (b : Bool) (k : AttentionKind) :
    (s.raiseIf b k).power = s.power ∧ (s.raiseIf b k).now = s.now ∧ (s.raiseIf b k).lines = s.lines ∧
    (s.raiseIf b k).store = s.store ∧ (s.raiseIf b k).clock = s.clock ∧ (s.raiseIf b k).run = s.run ∧
    (s.raiseIf b k).containers = s.containers ∧ (s.raiseIf b k).inlets = s.inlets ∧
    (s.raiseIf b k).dueList = s.dueList ∧ (s.raiseIf b k).cards = s.cards ∧
    (s.raiseIf b k).journal = s.journal ∧ (s.raiseIf b k).lift = s.lift ∧
    (s.raiseIf b k).outcomes = s.outcomes ∧ (s.raiseIf b k).wake = s.wake ∧ (s.raiseIf b k).drawn = s.drawn ∧
    (s.raiseIf b k).pending = s.pending := by
  simp only [State.raiseIf]
  repeat' split
  all_goals simp

/-! ## Threshold unit -/

@[simp] theorem State.leaveDueList_frame (s : State) (c : Nat) :
    (s.leaveDueList c).power = s.power ∧ (s.leaveDueList c).now = s.now ∧ (s.leaveDueList c).lines = s.lines ∧
    (s.leaveDueList c).store = s.store ∧ (s.leaveDueList c).clock = s.clock ∧ (s.leaveDueList c).run = s.run ∧
    (s.leaveDueList c).containers = s.containers ∧ (s.leaveDueList c).inlets = s.inlets ∧
    (s.leaveDueList c).cards = s.cards ∧ (s.leaveDueList c).journal = s.journal ∧
    (s.leaveDueList c).lift = s.lift ∧ (s.leaveDueList c).outcomes = s.outcomes ∧
    (s.leaveDueList c).wake = s.wake ∧ (s.leaveDueList c).drawn = s.drawn ∧
    (s.leaveDueList c).pending = s.pending :=
  ⟨rfl, rfl, rfl, rfl, rfl, rfl, rfl, rfl, rfl, rfl, rfl, rfl, rfl, rfl, rfl⟩

@[simp] theorem State.joinDueList_frame (s : State) (c : Nat) (pe : Nat) :
    (s.joinDueList c pe).power = s.power ∧ (s.joinDueList c pe).now = s.now ∧
    (s.joinDueList c pe).lines = s.lines ∧ (s.joinDueList c pe).store = s.store ∧
    (s.joinDueList c pe).clock = s.clock ∧ (s.joinDueList c pe).run = s.run ∧
    (s.joinDueList c pe).containers = s.containers ∧ (s.joinDueList c pe).inlets = s.inlets ∧
    (s.joinDueList c pe).cards = s.cards ∧ (s.joinDueList c pe).journal = s.journal ∧
    (s.joinDueList c pe).lift = s.lift ∧ (s.joinDueList c pe).outcomes = s.outcomes ∧
    (s.joinDueList c pe).wake = s.wake ∧ (s.joinDueList c pe).drawn = s.drawn ∧
    (s.joinDueList c pe).pending = s.pending :=
  ⟨rfl, rfl, rfl, rfl, rfl, rfl, rfl, rfl, rfl, rfl, rfl, rfl, rfl, rfl, rfl⟩

@[simp] theorem State.judgeDue_frame (s : State) (c : Nat) (k : Container) (pe : Nat) :
    (s.judgeDue c k pe).power = s.power ∧ (s.judgeDue c k pe).now = s.now ∧
    (s.judgeDue c k pe).lines = s.lines ∧ (s.judgeDue c k pe).store = s.store ∧
    (s.judgeDue c k pe).clock = s.clock ∧ (s.judgeDue c k pe).run = s.run ∧
    (s.judgeDue c k pe).containers = s.containers ∧ (s.judgeDue c k pe).inlets = s.inlets ∧
    (s.judgeDue c k pe).cards = s.cards ∧ (s.judgeDue c k pe).journal = s.journal ∧
    (s.judgeDue c k pe).lift = s.lift ∧ (s.judgeDue c k pe).outcomes = s.outcomes ∧
    (s.judgeDue c k pe).wake = s.wake ∧ (s.judgeDue c k pe).drawn = s.drawn ∧
    (s.judgeDue c k pe).pending = s.pending := by
  simp only [State.judgeDue]
  repeat' split
  all_goals simp

@[simp] theorem State.setFull_frame (s : State) (c : Nat) (b : Bool) :
    (s.setFull c b).power = s.power ∧ (s.setFull c b).now = s.now ∧ (s.setFull c b).lines = s.lines ∧
    (s.setFull c b).store = s.store ∧ (s.setFull c b).clock = s.clock ∧ (s.setFull c b).run = s.run ∧
    (s.setFull c b).inlets = s.inlets ∧ (s.setFull c b).dueList = s.dueList ∧ (s.setFull c b).cards = s.cards ∧
    (s.setFull c b).journal = s.journal ∧ (s.setFull c b).lift = s.lift ∧
    (s.setFull c b).outcomes = s.outcomes ∧ (s.setFull c b).wake = s.wake ∧ (s.setFull c b).drawn = s.drawn ∧
    (s.setFull c b).pending = s.pending :=
  ⟨rfl, rfl, rfl, rfl, rfl, rfl, rfl, rfl, rfl, rfl, rfl, rfl, rfl, rfl, rfl⟩

@[simp] theorem State.judgeFull_frame (s : State) (c : Nat) (k : Container) (pe : Nat) :
    (s.judgeFull c k pe).power = s.power ∧ (s.judgeFull c k pe).now = s.now ∧
    (s.judgeFull c k pe).lines = s.lines ∧ (s.judgeFull c k pe).store = s.store ∧
    (s.judgeFull c k pe).clock = s.clock ∧ (s.judgeFull c k pe).run = s.run ∧
    (s.judgeFull c k pe).inlets = s.inlets ∧ (s.judgeFull c k pe).dueList = s.dueList ∧
    (s.judgeFull c k pe).cards = s.cards ∧ (s.judgeFull c k pe).journal = s.journal ∧
    (s.judgeFull c k pe).lift = s.lift ∧ (s.judgeFull c k pe).outcomes = s.outcomes ∧
    (s.judgeFull c k pe).wake = s.wake ∧ (s.judgeFull c k pe).drawn = s.drawn ∧
    (s.judgeFull c k pe).pending = s.pending := by
  simp only [State.judgeFull]
  repeat' split
  all_goals simp

@[simp] theorem State.evaluate_frame (s : State) (c : Nat) :
    (s.evaluate c).power = s.power ∧ (s.evaluate c).now = s.now ∧ (s.evaluate c).lines = s.lines ∧
    (s.evaluate c).store = s.store ∧ (s.evaluate c).clock = s.clock ∧ (s.evaluate c).run = s.run ∧
    (s.evaluate c).inlets = s.inlets ∧ (s.evaluate c).cards = s.cards ∧ (s.evaluate c).journal = s.journal ∧
    (s.evaluate c).lift = s.lift ∧ (s.evaluate c).outcomes = s.outcomes ∧ (s.evaluate c).wake = s.wake ∧
    (s.evaluate c).drawn = s.drawn ∧ (s.evaluate c).pending = s.pending := by
  simp only [State.evaluate]
  repeat' split
  all_goals simp

@[simp] theorem State.cleanUp_frame (s : State) (c : Nat) :
    (s.cleanUp c).power = s.power ∧ (s.cleanUp c).now = s.now ∧ (s.cleanUp c).lines = s.lines ∧
    (s.cleanUp c).store = s.store ∧ (s.cleanUp c).clock = s.clock ∧ (s.cleanUp c).run = s.run ∧
    (s.cleanUp c).inlets = s.inlets ∧ (s.cleanUp c).cards = s.cards ∧ (s.cleanUp c).journal = s.journal ∧
    (s.cleanUp c).lift = s.lift ∧ (s.cleanUp c).outcomes = s.outcomes ∧ (s.cleanUp c).wake = s.wake ∧
    (s.cleanUp c).drawn = s.drawn ∧ (s.cleanUp c).pending = s.pending := by
  simp only [State.cleanUp]
  repeat' split
  all_goals simp

@[simp] theorem State.addVolume_frame (s : State) (c : Nat) (n : Nat) :
    (s.addVolume c n).power = s.power ∧ (s.addVolume c n).now = s.now ∧ (s.addVolume c n).lines = s.lines ∧
    (s.addVolume c n).store = s.store ∧ (s.addVolume c n).clock = s.clock ∧ (s.addVolume c n).run = s.run ∧
    (s.addVolume c n).inlets = s.inlets ∧ (s.addVolume c n).cards = s.cards ∧
    (s.addVolume c n).journal = s.journal ∧ (s.addVolume c n).lift = s.lift ∧
    (s.addVolume c n).outcomes = s.outcomes ∧ (s.addVolume c n).wake = s.wake ∧
    (s.addVolume c n).drawn = s.drawn ∧ (s.addVolume c n).pending = s.pending := by
  simp only [State.addVolume]
  all_goals simp

/-! ## Measurement channel -/

@[simp] theorem State.requestPair_frame (s : State) (c : Nat) (cls : PairClass) :
    (s.requestPair c cls).power = s.power ∧ (s.requestPair c cls).now = s.now ∧
    (s.requestPair c cls).lines = s.lines ∧ (s.requestPair c cls).store = s.store ∧
    (s.requestPair c cls).clock = s.clock ∧ (s.requestPair c cls).run = s.run ∧
    (s.requestPair c cls).inlets = s.inlets ∧ (s.requestPair c cls).dueList = s.dueList ∧
    (s.requestPair c cls).cards = s.cards ∧ (s.requestPair c cls).journal = s.journal ∧
    (s.requestPair c cls).lift = s.lift ∧ (s.requestPair c cls).ports = s.ports ∧
    (s.requestPair c cls).outcomes = s.outcomes ∧ (s.requestPair c cls).wake = s.wake ∧
    (s.requestPair c cls).drawn = s.drawn ∧ (s.requestPair c cls).pending = s.pending :=
  ⟨rfl, rfl, rfl, rfl, rfl, rfl, rfl, rfl, rfl, rfl, rfl, rfl, rfl, rfl, rfl, rfl⟩

@[simp] theorem State.startMeasurement_frame (s : State) (c : Nat) (p : Pair) :
    (s.startMeasurement c p).power = s.power ∧ (s.startMeasurement c p).now = s.now ∧
    (s.startMeasurement c p).lines = s.lines ∧ (s.startMeasurement c p).store = s.store ∧
    (s.startMeasurement c p).clock = s.clock ∧ (s.startMeasurement c p).inlets = s.inlets ∧
    (s.startMeasurement c p).dueList = s.dueList ∧ (s.startMeasurement c p).cards = s.cards ∧
    (s.startMeasurement c p).journal = s.journal ∧ (s.startMeasurement c p).lift = s.lift ∧
    (s.startMeasurement c p).ports = s.ports ∧ (s.startMeasurement c p).outcomes = s.outcomes ∧
    (s.startMeasurement c p).wake = s.wake ∧ (s.startMeasurement c p).drawn = s.drawn ∧
    (s.startMeasurement c p).pending = s.pending :=
  ⟨rfl, rfl, rfl, rfl, rfl, rfl, rfl, rfl, rfl, rfl, rfl, rfl, rfl, rfl, rfl⟩

@[simp] theorem State.arbitrate_frame (s : State) :
    (s.arbitrate).power = s.power ∧ (s.arbitrate).now = s.now ∧ (s.arbitrate).lines = s.lines ∧
    (s.arbitrate).store = s.store ∧ (s.arbitrate).clock = s.clock ∧ (s.arbitrate).inlets = s.inlets ∧
    (s.arbitrate).dueList = s.dueList ∧ (s.arbitrate).cards = s.cards ∧ (s.arbitrate).journal = s.journal ∧
    (s.arbitrate).lift = s.lift ∧ (s.arbitrate).ports = s.ports ∧ (s.arbitrate).outcomes = s.outcomes ∧
    (s.arbitrate).wake = s.wake ∧ (s.arbitrate).drawn = s.drawn ∧ (s.arbitrate).pending = s.pending := by
  simp only [State.arbitrate]
  repeat' split
  all_goals simp

@[simp] theorem State.takeDueEvent_frame (s : State) (c : Nat) :
    (s.takeDueEvent c).power = s.power ∧ (s.takeDueEvent c).now = s.now ∧ (s.takeDueEvent c).lines = s.lines ∧
    (s.takeDueEvent c).store = s.store ∧ (s.takeDueEvent c).clock = s.clock ∧ (s.takeDueEvent c).run = s.run ∧
    (s.takeDueEvent c).inlets = s.inlets ∧ (s.takeDueEvent c).dueList = s.dueList ∧
    (s.takeDueEvent c).cards = s.cards ∧ (s.takeDueEvent c).journal = s.journal ∧
    (s.takeDueEvent c).lift = s.lift ∧ (s.takeDueEvent c).ports = s.ports ∧
    (s.takeDueEvent c).outcomes = s.outcomes ∧ (s.takeDueEvent c).wake = s.wake ∧
    (s.takeDueEvent c).drawn = s.drawn ∧ (s.takeDueEvent c).pending = s.pending :=
  ⟨rfl, rfl, rfl, rfl, rfl, rfl, rfl, rfl, rfl, rfl, rfl, rfl, rfl, rfl, rfl, rfl⟩

@[simp] theorem State.allDue_frame (s : State) :
    (s.allDue).power = s.power ∧ (s.allDue).now = s.now ∧ (s.allDue).lines = s.lines ∧
    (s.allDue).store = s.store ∧ (s.allDue).clock = s.clock ∧ (s.allDue).run = s.run ∧
    (s.allDue).inlets = s.inlets ∧ (s.allDue).dueList = s.dueList ∧ (s.allDue).cards = s.cards ∧
    (s.allDue).journal = s.journal ∧ (s.allDue).lift = s.lift ∧ (s.allDue).ports = s.ports ∧
    (s.allDue).outcomes = s.outcomes ∧ (s.allDue).wake = s.wake ∧ (s.allDue).drawn = s.drawn ∧
    (s.allDue).pending = s.pending :=
  ⟨rfl, rfl, rfl, rfl, rfl, rfl, rfl, rfl, rfl, rfl, rfl, rfl, rfl, rfl, rfl, rfl⟩

@[simp] theorem State.detachPair_frame (s : State) (c : Nat) :
    (s.detachPair c).power = s.power ∧ (s.detachPair c).now = s.now ∧ (s.detachPair c).lines = s.lines ∧
    (s.detachPair c).store = s.store ∧ (s.detachPair c).clock = s.clock ∧ (s.detachPair c).inlets = s.inlets ∧
    (s.detachPair c).dueList = s.dueList ∧ (s.detachPair c).cards = s.cards ∧
    (s.detachPair c).journal = s.journal ∧ (s.detachPair c).lift = s.lift ∧ (s.detachPair c).ports = s.ports ∧
    (s.detachPair c).outcomes = s.outcomes ∧ (s.detachPair c).wake = s.wake ∧ (s.detachPair c).drawn = s.drawn ∧
    (s.detachPair c).pending = s.pending :=
  ⟨rfl, rfl, rfl, rfl, rfl, rfl, rfl, rfl, rfl, rfl, rfl, rfl, rfl, rfl, rfl⟩

/-! ## Journal -/

@[simp] theorem State.makeEntry_frame (s : State) (n : Nat) (b : JournalBody) :
    (s.makeEntry n b).power = s.power ∧ (s.makeEntry n b).now = s.now ∧ (s.makeEntry n b).lines = s.lines ∧
    (s.makeEntry n b).store = s.store ∧ (s.makeEntry n b).clock = s.clock ∧ (s.makeEntry n b).run = s.run ∧
    (s.makeEntry n b).containers = s.containers ∧ (s.makeEntry n b).inlets = s.inlets ∧
    (s.makeEntry n b).dueList = s.dueList ∧ (s.makeEntry n b).cards = s.cards ∧
    (s.makeEntry n b).lift = s.lift ∧ (s.makeEntry n b).outcomes = s.outcomes ∧
    (s.makeEntry n b).wake = s.wake ∧ (s.makeEntry n b).drawn = s.drawn ∧
    (s.makeEntry n b).pending = s.pending := by
  simp only [State.makeEntry]
  all_goals simp

@[simp] theorem State.journalDeposit_frame (s : State) (i n : Nat) (h : Option Nat) (u : Bool) :
    (s.journalDeposit i n h u).power = s.power ∧ (s.journalDeposit i n h u).now = s.now ∧
    (s.journalDeposit i n h u).lines = s.lines ∧ (s.journalDeposit i n h u).store = s.store ∧
    (s.journalDeposit i n h u).clock = s.clock ∧ (s.journalDeposit i n h u).run = s.run ∧
    (s.journalDeposit i n h u).containers = s.containers ∧ (s.journalDeposit i n h u).inlets = s.inlets ∧
    (s.journalDeposit i n h u).dueList = s.dueList ∧ (s.journalDeposit i n h u).lift = s.lift ∧
    (s.journalDeposit i n h u).outcomes = s.outcomes ∧ (s.journalDeposit i n h u).wake = s.wake ∧
    (s.journalDeposit i n h u).drawn = s.drawn ∧ (s.journalDeposit i n h u).pending = s.pending := by
  simp only [State.journalDeposit]
  repeat' split
  all_goals simp

@[simp] theorem State.journalRecord_frame (s : State) (n : Nat) (b : JournalBody) :
    (s.journalRecord n b).power = s.power ∧ (s.journalRecord n b).now = s.now ∧
    (s.journalRecord n b).lines = s.lines ∧ (s.journalRecord n b).store = s.store ∧
    (s.journalRecord n b).clock = s.clock ∧ (s.journalRecord n b).run = s.run ∧
    (s.journalRecord n b).containers = s.containers ∧ (s.journalRecord n b).inlets = s.inlets ∧
    (s.journalRecord n b).dueList = s.dueList ∧ (s.journalRecord n b).cards = s.cards ∧
    (s.journalRecord n b).lift = s.lift ∧ (s.journalRecord n b).outcomes = s.outcomes ∧
    (s.journalRecord n b).wake = s.wake ∧ (s.journalRecord n b).drawn = s.drawn ∧
    (s.journalRecord n b).pending = s.pending := by
  simp only [State.journalRecord]
  repeat' split
  all_goals simp

/-! ## Inlets -/

@[simp] theorem State.endWindows_frame (s : State) (c : Nat) :
    (s.endWindows c).power = s.power ∧ (s.endWindows c).now = s.now ∧ (s.endWindows c).lines = s.lines ∧
    (s.endWindows c).store = s.store ∧ (s.endWindows c).clock = s.clock ∧ (s.endWindows c).run = s.run ∧
    (s.endWindows c).containers = s.containers ∧ (s.endWindows c).dueList = s.dueList ∧
    (s.endWindows c).cards = s.cards ∧ (s.endWindows c).journal = s.journal ∧ (s.endWindows c).lift = s.lift ∧
    (s.endWindows c).ports = s.ports ∧ (s.endWindows c).outcomes = s.outcomes ∧ (s.endWindows c).wake = s.wake ∧
    (s.endWindows c).drawn = s.drawn ∧ (s.endWindows c).pending = s.pending :=
  ⟨rfl, rfl, rfl, rfl, rfl, rfl, rfl, rfl, rfl, rfl, rfl, rfl, rfl, rfl, rfl, rfl⟩

@[simp] theorem State.openWindow_frame (s : State) (i : Nat) (w : WindowRecord) :
    (s.openWindow i w).power = s.power ∧ (s.openWindow i w).now = s.now ∧ (s.openWindow i w).lines = s.lines ∧
    (s.openWindow i w).store = s.store ∧ (s.openWindow i w).clock = s.clock ∧ (s.openWindow i w).run = s.run ∧
    (s.openWindow i w).containers = s.containers ∧ (s.openWindow i w).dueList = s.dueList ∧
    (s.openWindow i w).cards = s.cards ∧ (s.openWindow i w).journal = s.journal ∧
    (s.openWindow i w).lift = s.lift ∧ (s.openWindow i w).ports = s.ports ∧ (s.openWindow i w).wake = s.wake ∧
    (s.openWindow i w).drawn = s.drawn ∧ (s.openWindow i w).pending = s.pending :=
  ⟨rfl, rfl, rfl, rfl, rfl, rfl, rfl, rfl, rfl, rfl, rfl, rfl, rfl, rfl, rfl⟩

@[simp] theorem State.refuseRead_frame (s : State) (i : Nat) (o : ReadOutcome) :
    (s.refuseRead i o).power = s.power ∧ (s.refuseRead i o).now = s.now ∧ (s.refuseRead i o).lines = s.lines ∧
    (s.refuseRead i o).store = s.store ∧ (s.refuseRead i o).clock = s.clock ∧ (s.refuseRead i o).run = s.run ∧
    (s.refuseRead i o).containers = s.containers ∧ (s.refuseRead i o).dueList = s.dueList ∧
    (s.refuseRead i o).cards = s.cards ∧ (s.refuseRead i o).journal = s.journal ∧
    (s.refuseRead i o).lift = s.lift ∧ (s.refuseRead i o).ports = s.ports ∧ (s.refuseRead i o).wake = s.wake ∧
    (s.refuseRead i o).drawn = s.drawn ∧ (s.refuseRead i o).pending = s.pending :=
  ⟨rfl, rfl, rfl, rfl, rfl, rfl, rfl, rfl, rfl, rfl, rfl, rfl, rfl, rfl, rfl⟩

@[simp] theorem State.takeLidOpening_frame (s : State) (i t : Nat) :
    (s.takeLidOpening i t).power = s.power ∧ (s.takeLidOpening i t).now = s.now ∧
    (s.takeLidOpening i t).lines = s.lines ∧ (s.takeLidOpening i t).store = s.store ∧
    (s.takeLidOpening i t).clock = s.clock ∧ (s.takeLidOpening i t).run = s.run ∧
    (s.takeLidOpening i t).containers = s.containers ∧ (s.takeLidOpening i t).dueList = s.dueList ∧
    (s.takeLidOpening i t).cards = s.cards ∧ (s.takeLidOpening i t).journal = s.journal ∧
    (s.takeLidOpening i t).lift = s.lift ∧ (s.takeLidOpening i t).outcomes = s.outcomes ∧
    (s.takeLidOpening i t).wake = s.wake ∧ (s.takeLidOpening i t).drawn = s.drawn ∧
    (s.takeLidOpening i t).pending = s.pending := by
  simp only [State.takeLidOpening]
  repeat' split
  all_goals simp

@[simp] theorem State.chargeCard_frame (s : State) (n : Nat) :
    (s.chargeCard n).power = s.power ∧ (s.chargeCard n).now = s.now ∧ (s.chargeCard n).lines = s.lines ∧
    (s.chargeCard n).store = s.store ∧ (s.chargeCard n).clock = s.clock ∧ (s.chargeCard n).run = s.run ∧
    (s.chargeCard n).containers = s.containers ∧ (s.chargeCard n).inlets = s.inlets ∧
    (s.chargeCard n).dueList = s.dueList ∧ (s.chargeCard n).journal = s.journal ∧
    (s.chargeCard n).lift = s.lift ∧ (s.chargeCard n).ports = s.ports ∧ (s.chargeCard n).outcomes = s.outcomes ∧
    (s.chargeCard n).wake = s.wake ∧ (s.chargeCard n).drawn = s.drawn ∧ (s.chargeCard n).pending = s.pending :=
  ⟨rfl, rfl, rfl, rfl, rfl, rfl, rfl, rfl, rfl, rfl, rfl, rfl, rfl, rfl, rfl, rfl⟩

@[simp] theorem State.countDeposit_frame (s : State) (i : Nat) (x : Inlet) :
    (s.countDeposit i x).power = s.power ∧ (s.countDeposit i x).now = s.now ∧
    (s.countDeposit i x).lines = s.lines ∧ (s.countDeposit i x).store = s.store ∧
    (s.countDeposit i x).clock = s.clock ∧ (s.countDeposit i x).run = s.run ∧
    (s.countDeposit i x).inlets = s.inlets ∧ (s.countDeposit i x).lift = s.lift ∧
    (s.countDeposit i x).outcomes = s.outcomes ∧ (s.countDeposit i x).wake = s.wake ∧
    (s.countDeposit i x).drawn = s.drawn ∧ (s.countDeposit i x).pending = s.pending := by
  simp only [State.countDeposit]
  repeat' split
  all_goals simp

@[simp] theorem State.countForced_frame (s : State) (i : Nat) (x : Inlet) (o t : Nat) :
    (s.countForced i x o t).power = s.power ∧ (s.countForced i x o t).now = s.now ∧
    (s.countForced i x o t).lines = s.lines ∧ (s.countForced i x o t).store = s.store ∧
    (s.countForced i x o t).clock = s.clock ∧ (s.countForced i x o t).run = s.run ∧
    (s.countForced i x o t).inlets = s.inlets ∧ (s.countForced i x o t).cards = s.cards ∧
    (s.countForced i x o t).lift = s.lift ∧ (s.countForced i x o t).outcomes = s.outcomes ∧
    (s.countForced i x o t).wake = s.wake ∧ (s.countForced i x o t).drawn = s.drawn ∧
    (s.countForced i x o t).pending = s.pending := by
  simp only [State.countForced]
  all_goals simp

@[simp] theorem State.countClosing_frame (s : State) (i : Nat) (x : Inlet) (t : Nat) :
    (s.countClosing i x t).power = s.power ∧ (s.countClosing i x t).now = s.now ∧
    (s.countClosing i x t).lines = s.lines ∧ (s.countClosing i x t).store = s.store ∧
    (s.countClosing i x t).clock = s.clock ∧ (s.countClosing i x t).run = s.run ∧
    (s.countClosing i x t).inlets = s.inlets ∧ (s.countClosing i x t).lift = s.lift ∧
    (s.countClosing i x t).outcomes = s.outcomes ∧ (s.countClosing i x t).wake = s.wake ∧
    (s.countClosing i x t).drawn = s.drawn ∧ (s.countClosing i x t).pending = s.pending := by
  simp only [State.countClosing]
  repeat' split
  all_goals simp

@[simp] theorem State.judgeRelease_frame (s : State) (c : Nat) :
    (s.judgeRelease c).power = s.power ∧ (s.judgeRelease c).now = s.now ∧ (s.judgeRelease c).lines = s.lines ∧
    (s.judgeRelease c).store = s.store ∧ (s.judgeRelease c).clock = s.clock ∧ (s.judgeRelease c).run = s.run ∧
    (s.judgeRelease c).inlets = s.inlets ∧ (s.judgeRelease c).dueList = s.dueList ∧
    (s.judgeRelease c).cards = s.cards ∧ (s.judgeRelease c).journal = s.journal ∧
    (s.judgeRelease c).outcomes = s.outcomes ∧ (s.judgeRelease c).wake = s.wake ∧
    (s.judgeRelease c).drawn = s.drawn ∧ (s.judgeRelease c).pending = s.pending := by
  simp only [State.judgeRelease]
  repeat' split
  all_goals simp

@[simp] theorem State.takeLidClosing_frame (s : State) (i t : Nat) :
    (s.takeLidClosing i t).power = s.power ∧ (s.takeLidClosing i t).now = s.now ∧
    (s.takeLidClosing i t).lines = s.lines ∧ (s.takeLidClosing i t).store = s.store ∧
    (s.takeLidClosing i t).clock = s.clock ∧ (s.takeLidClosing i t).run = s.run ∧
    (s.takeLidClosing i t).outcomes = s.outcomes ∧ (s.takeLidClosing i t).wake = s.wake ∧
    (s.takeLidClosing i t).drawn = s.drawn ∧ (s.takeLidClosing i t).pending = s.pending := by
  simp only [State.takeLidClosing]
  repeat' split
  all_goals simp

/-! ## Emptying controller -/

@[simp] theorem State.setLastLift_frame (s : State) (c : Nat) (e : LiftEnding) :
    (s.setLastLift c e).power = s.power ∧ (s.setLastLift c e).now = s.now ∧
    (s.setLastLift c e).lines = s.lines ∧ (s.setLastLift c e).store = s.store ∧
    (s.setLastLift c e).clock = s.clock ∧ (s.setLastLift c e).run = s.run ∧
    (s.setLastLift c e).containers = s.containers ∧ (s.setLastLift c e).inlets = s.inlets ∧
    (s.setLastLift c e).dueList = s.dueList ∧ (s.setLastLift c e).cards = s.cards ∧
    (s.setLastLift c e).journal = s.journal ∧ (s.setLastLift c e).ports = s.ports ∧
    (s.setLastLift c e).outcomes = s.outcomes ∧ (s.setLastLift c e).wake = s.wake ∧
    (s.setLastLift c e).drawn = s.drawn ∧ (s.setLastLift c e).pending = s.pending :=
  ⟨rfl, rfl, rfl, rfl, rfl, rfl, rfl, rfl, rfl, rfl, rfl, rfl, rfl, rfl, rfl, rfl⟩

@[simp] theorem State.endClaim_frame (s : State) (c : Nat) (e : LiftEnding) :
    (s.endClaim c e).power = s.power ∧ (s.endClaim c e).now = s.now ∧ (s.endClaim c e).lines = s.lines ∧
    (s.endClaim c e).store = s.store ∧ (s.endClaim c e).clock = s.clock ∧ (s.endClaim c e).run = s.run ∧
    (s.endClaim c e).inlets = s.inlets ∧ (s.endClaim c e).dueList = s.dueList ∧
    (s.endClaim c e).cards = s.cards ∧ (s.endClaim c e).journal = s.journal ∧
    (s.endClaim c e).outcomes = s.outcomes ∧ (s.endClaim c e).wake = s.wake ∧ (s.endClaim c e).drawn = s.drawn ∧
    (s.endClaim c e).pending = s.pending := by
  simp only [State.endClaim]
  all_goals simp

@[simp] theorem State.finishEmptying_frame (s : State) (c : Nat) (after : Option Nat) (v : Bool) (e : LiftEnding) :
    (s.finishEmptying c after v e).power = s.power ∧ (s.finishEmptying c after v e).now = s.now ∧
    (s.finishEmptying c after v e).lines = s.lines ∧ (s.finishEmptying c after v e).store = s.store ∧
    (s.finishEmptying c after v e).clock = s.clock ∧ (s.finishEmptying c after v e).run = s.run ∧
    (s.finishEmptying c after v e).inlets = s.inlets ∧ (s.finishEmptying c after v e).cards = s.cards ∧
    (s.finishEmptying c after v e).outcomes = s.outcomes ∧ (s.finishEmptying c after v e).wake = s.wake ∧
    (s.finishEmptying c after v e).drawn = s.drawn ∧ (s.finishEmptying c after v e).pending = s.pending := by
  simp only [State.finishEmptying]
  repeat' split
  all_goals simp

@[simp] theorem State.endUnverified_frame (s : State) (c : Nat) (e : LiftEnding) :
    (s.endUnverified c e).power = s.power ∧ (s.endUnverified c e).now = s.now ∧
    (s.endUnverified c e).lines = s.lines ∧ (s.endUnverified c e).store = s.store ∧
    (s.endUnverified c e).clock = s.clock ∧ (s.endUnverified c e).run = s.run ∧
    (s.endUnverified c e).inlets = s.inlets ∧ (s.endUnverified c e).cards = s.cards ∧
    (s.endUnverified c e).outcomes = s.outcomes ∧ (s.endUnverified c e).wake = s.wake ∧
    (s.endUnverified c e).drawn = s.drawn ∧ (s.endUnverified c e).pending = s.pending := by
  simp only [State.endUnverified]
  all_goals simp

@[simp] theorem State.takeLift_frame (s : State) (c : Nat) (k : Container) :
    (s.takeLift c k).power = s.power ∧ (s.takeLift c k).now = s.now ∧ (s.takeLift c k).lines = s.lines ∧
    (s.takeLift c k).store = s.store ∧ (s.takeLift c k).clock = s.clock ∧ (s.takeLift c k).inlets = s.inlets ∧
    (s.takeLift c k).dueList = s.dueList ∧ (s.takeLift c k).cards = s.cards ∧
    (s.takeLift c k).journal = s.journal ∧ (s.takeLift c k).outcomes = s.outcomes ∧
    (s.takeLift c k).wake = s.wake ∧ (s.takeLift c k).drawn = s.drawn ∧ (s.takeLift c k).pending = s.pending := by
  simp only [State.takeLift]
  all_goals simp

@[simp] theorem State.displace_frame (s : State) (c : Nat) :
    (s.displace c).power = s.power ∧ (s.displace c).now = s.now ∧ (s.displace c).lines = s.lines ∧
    (s.displace c).store = s.store ∧ (s.displace c).clock = s.clock ∧ (s.displace c).dueList = s.dueList ∧
    (s.displace c).cards = s.cards ∧ (s.displace c).journal = s.journal ∧ (s.displace c).lift = s.lift ∧
    (s.displace c).outcomes = s.outcomes ∧ (s.displace c).wake = s.wake ∧ (s.displace c).drawn = s.drawn ∧
    (s.displace c).pending = s.pending := by
  simp only [State.displace]
  all_goals simp

@[simp] theorem State.takeUnseat_frame (s : State) (c : Nat) :
    (s.takeUnseat c).power = s.power ∧ (s.takeUnseat c).now = s.now ∧ (s.takeUnseat c).lines = s.lines ∧
    (s.takeUnseat c).store = s.store ∧ (s.takeUnseat c).clock = s.clock ∧ (s.takeUnseat c).cards = s.cards ∧
    (s.takeUnseat c).outcomes = s.outcomes ∧ (s.takeUnseat c).wake = s.wake ∧ (s.takeUnseat c).drawn = s.drawn ∧
    (s.takeUnseat c).pending = s.pending := by
  simp only [State.takeUnseat]
  repeat' split
  all_goals simp

@[simp] theorem State.reseatLifted_frame (s : State) (c : Nat) :
    (s.reseatLifted c).power = s.power ∧ (s.reseatLifted c).now = s.now ∧ (s.reseatLifted c).lines = s.lines ∧
    (s.reseatLifted c).store = s.store ∧ (s.reseatLifted c).clock = s.clock ∧ (s.reseatLifted c).run = s.run ∧
    (s.reseatLifted c).inlets = s.inlets ∧ (s.reseatLifted c).dueList = s.dueList ∧
    (s.reseatLifted c).cards = s.cards ∧ (s.reseatLifted c).journal = s.journal ∧
    (s.reseatLifted c).outcomes = s.outcomes ∧ (s.reseatLifted c).wake = s.wake ∧
    (s.reseatLifted c).drawn = s.drawn ∧ (s.reseatLifted c).pending = s.pending := by
  simp only [State.reseatLifted]
  all_goals simp

@[simp] theorem State.reseatDisplaced_frame (s : State) (c : Nat) :
    (s.reseatDisplaced c).power = s.power ∧ (s.reseatDisplaced c).now = s.now ∧
    (s.reseatDisplaced c).lines = s.lines ∧ (s.reseatDisplaced c).store = s.store ∧
    (s.reseatDisplaced c).clock = s.clock ∧ (s.reseatDisplaced c).run = s.run ∧
    (s.reseatDisplaced c).inlets = s.inlets ∧ (s.reseatDisplaced c).dueList = s.dueList ∧
    (s.reseatDisplaced c).cards = s.cards ∧ (s.reseatDisplaced c).journal = s.journal ∧
    (s.reseatDisplaced c).lift = s.lift ∧ (s.reseatDisplaced c).outcomes = s.outcomes ∧
    (s.reseatDisplaced c).wake = s.wake ∧ (s.reseatDisplaced c).drawn = s.drawn ∧
    (s.reseatDisplaced c).pending = s.pending := by
  simp only [State.reseatDisplaced]
  all_goals simp

@[simp] theorem State.takeReseat_frame (s : State) (c : Nat) :
    (s.takeReseat c).power = s.power ∧ (s.takeReseat c).now = s.now ∧ (s.takeReseat c).lines = s.lines ∧
    (s.takeReseat c).store = s.store ∧ (s.takeReseat c).clock = s.clock ∧ (s.takeReseat c).run = s.run ∧
    (s.takeReseat c).inlets = s.inlets ∧ (s.takeReseat c).dueList = s.dueList ∧
    (s.takeReseat c).cards = s.cards ∧ (s.takeReseat c).journal = s.journal ∧
    (s.takeReseat c).outcomes = s.outcomes ∧ (s.takeReseat c).wake = s.wake ∧ (s.takeReseat c).drawn = s.drawn ∧
    (s.takeReseat c).pending = s.pending := by
  simp only [State.takeReseat]
  repeat' split
  all_goals simp

@[simp] theorem State.takeSeat_frame (s : State) (c : Nat) (b : Bool) :
    (s.takeSeat c b).power = s.power ∧ (s.takeSeat c b).now = s.now ∧ (s.takeSeat c b).lines = s.lines ∧
    (s.takeSeat c b).store = s.store ∧ (s.takeSeat c b).clock = s.clock ∧ (s.takeSeat c b).cards = s.cards ∧
    (s.takeSeat c b).outcomes = s.outcomes ∧ (s.takeSeat c b).wake = s.wake ∧ (s.takeSeat c b).drawn = s.drawn ∧
    (s.takeSeat c b).pending = s.pending := by
  simp only [State.takeSeat]
  repeat' split
  all_goals simp

@[simp] theorem State.becomeHot_frame (s : State) (c : Nat) :
    (s.becomeHot c).power = s.power ∧ (s.becomeHot c).now = s.now ∧ (s.becomeHot c).lines = s.lines ∧
    (s.becomeHot c).store = s.store ∧ (s.becomeHot c).clock = s.clock ∧ (s.becomeHot c).run = s.run ∧
    (s.becomeHot c).dueList = s.dueList ∧ (s.becomeHot c).cards = s.cards ∧
    (s.becomeHot c).journal = s.journal ∧ (s.becomeHot c).outcomes = s.outcomes ∧
    (s.becomeHot c).wake = s.wake ∧ (s.becomeHot c).drawn = s.drawn ∧ (s.becomeHot c).pending = s.pending := by
  simp only [State.becomeHot]
  repeat' split
  all_goals simp

/-! ## Completion of a measurement -/

@[simp] theorem State.temperatureFault_frame (s : State) (c : Nat) (k : Container) :
    (s.temperatureFault c k).power = s.power ∧ (s.temperatureFault c k).now = s.now ∧
    (s.temperatureFault c k).lines = s.lines ∧ (s.temperatureFault c k).store = s.store ∧
    (s.temperatureFault c k).clock = s.clock ∧ (s.temperatureFault c k).run = s.run ∧
    (s.temperatureFault c k).inlets = s.inlets ∧ (s.temperatureFault c k).dueList = s.dueList ∧
    (s.temperatureFault c k).cards = s.cards ∧ (s.temperatureFault c k).journal = s.journal ∧
    (s.temperatureFault c k).lift = s.lift ∧ (s.temperatureFault c k).outcomes = s.outcomes ∧
    (s.temperatureFault c k).wake = s.wake ∧ (s.temperatureFault c k).drawn = s.drawn ∧
    (s.temperatureFault c k).pending = s.pending := by
  simp only [State.temperatureFault]
  all_goals simp

@[simp] theorem State.temperatureValid_frame (s : State) (c : Nat) (k : Container) (t : Int) (b : Bool) :
    (s.temperatureValid c k t b).power = s.power ∧ (s.temperatureValid c k t b).now = s.now ∧
    (s.temperatureValid c k t b).lines = s.lines ∧ (s.temperatureValid c k t b).store = s.store ∧
    (s.temperatureValid c k t b).clock = s.clock ∧ (s.temperatureValid c k t b).run = s.run ∧
    (s.temperatureValid c k t b).dueList = s.dueList ∧ (s.temperatureValid c k t b).cards = s.cards ∧
    (s.temperatureValid c k t b).journal = s.journal ∧ (s.temperatureValid c k t b).outcomes = s.outcomes ∧
    (s.temperatureValid c k t b).wake = s.wake ∧ (s.temperatureValid c k t b).drawn = s.drawn ∧
    (s.temperatureValid c k t b).pending = s.pending := by
  simp only [State.temperatureValid]
  repeat' split
  all_goals simp

@[simp] theorem State.endFailedPair_frame (s : State) (c : Nat) :
    (s.endFailedPair c).power = s.power ∧ (s.endFailedPair c).now = s.now ∧
    (s.endFailedPair c).lines = s.lines ∧ (s.endFailedPair c).store = s.store ∧
    (s.endFailedPair c).clock = s.clock ∧ (s.endFailedPair c).run = s.run ∧
    (s.endFailedPair c).inlets = s.inlets ∧ (s.endFailedPair c).cards = s.cards ∧
    (s.endFailedPair c).outcomes = s.outcomes ∧ (s.endFailedPair c).wake = s.wake ∧
    (s.endFailedPair c).drawn = s.drawn ∧ (s.endFailedPair c).pending = s.pending := by
  simp only [State.endFailedPair]
  repeat' split
  all_goals simp

@[simp] theorem State.pairMiss_frame (s : State) (c : Nat) (k : Container) :
    (s.pairMiss c k).power = s.power ∧ (s.pairMiss c k).now = s.now ∧ (s.pairMiss c k).lines = s.lines ∧
    (s.pairMiss c k).store = s.store ∧ (s.pairMiss c k).clock = s.clock ∧ (s.pairMiss c k).run = s.run ∧
    (s.pairMiss c k).inlets = s.inlets ∧ (s.pairMiss c k).cards = s.cards ∧
    (s.pairMiss c k).outcomes = s.outcomes ∧ (s.pairMiss c k).wake = s.wake ∧ (s.pairMiss c k).drawn = s.drawn ∧
    (s.pairMiss c k).pending = s.pending := by
  simp only [State.pairMiss]
  all_goals simp

@[simp] theorem State.pairMismatch_frame (s : State) (c : Nat) (k : Container) :
    (s.pairMismatch c k).power = s.power ∧ (s.pairMismatch c k).now = s.now ∧
    (s.pairMismatch c k).lines = s.lines ∧ (s.pairMismatch c k).store = s.store ∧
    (s.pairMismatch c k).clock = s.clock ∧ (s.pairMismatch c k).run = s.run ∧
    (s.pairMismatch c k).inlets = s.inlets ∧ (s.pairMismatch c k).cards = s.cards ∧
    (s.pairMismatch c k).outcomes = s.outcomes ∧ (s.pairMismatch c k).wake = s.wake ∧
    (s.pairMismatch c k).drawn = s.drawn ∧ (s.pairMismatch c k).pending = s.pending := by
  simp only [State.pairMismatch]
  all_goals simp

@[simp] theorem State.adoptPair_frame (s : State) (c : Nat) (k : Container) (r : Reading) :
    (s.adoptPair c k r).power = s.power ∧ (s.adoptPair c k r).now = s.now ∧
    (s.adoptPair c k r).lines = s.lines ∧ (s.adoptPair c k r).store = s.store ∧
    (s.adoptPair c k r).clock = s.clock ∧ (s.adoptPair c k r).run = s.run ∧
    (s.adoptPair c k r).inlets = s.inlets ∧ (s.adoptPair c k r).cards = s.cards ∧
    (s.adoptPair c k r).outcomes = s.outcomes ∧ (s.adoptPair c k r).wake = s.wake ∧
    (s.adoptPair c k r).drawn = s.drawn ∧ (s.adoptPair c k r).pending = s.pending := by
  simp only [State.adoptPair]
  repeat' split
  all_goals simp

@[simp] theorem State.firstDone_frame (s : State) (c : Nat) (k : Container) (r : Option Reading) :
    (s.firstDone c k r).power = s.power ∧ (s.firstDone c k r).now = s.now ∧
    (s.firstDone c k r).lines = s.lines ∧ (s.firstDone c k r).store = s.store ∧
    (s.firstDone c k r).clock = s.clock ∧ (s.firstDone c k r).run = s.run ∧
    (s.firstDone c k r).inlets = s.inlets ∧ (s.firstDone c k r).cards = s.cards ∧
    (s.firstDone c k r).outcomes = s.outcomes ∧ (s.firstDone c k r).wake = s.wake ∧
    (s.firstDone c k r).drawn = s.drawn ∧ (s.firstDone c k r).pending = s.pending := by
  simp only [State.firstDone]
  repeat' split
  all_goals simp

@[simp] theorem State.secondDone_frame (s : State) (c : Nat) (k : Container) (r : Option Reading) :
    (s.secondDone c k r).power = s.power ∧ (s.secondDone c k r).now = s.now ∧
    (s.secondDone c k r).lines = s.lines ∧ (s.secondDone c k r).store = s.store ∧
    (s.secondDone c k r).clock = s.clock ∧ (s.secondDone c k r).run = s.run ∧
    (s.secondDone c k r).inlets = s.inlets ∧ (s.secondDone c k r).cards = s.cards ∧
    (s.secondDone c k r).outcomes = s.outcomes ∧ (s.secondDone c k r).wake = s.wake ∧
    (s.secondDone c k r).drawn = s.drawn ∧ (s.secondDone c k r).pending = s.pending := by
  simp only [State.secondDone]
  repeat' split
  all_goals simp

@[simp] theorem State.takeTemperature_frame (s : State) (c : Nat) (k : Container) (t : Option (Int × Bool)) :
    (s.takeTemperature c k t).power = s.power ∧ (s.takeTemperature c k t).now = s.now ∧
    (s.takeTemperature c k t).lines = s.lines ∧ (s.takeTemperature c k t).store = s.store ∧
    (s.takeTemperature c k t).clock = s.clock ∧ (s.takeTemperature c k t).run = s.run ∧
    (s.takeTemperature c k t).dueList = s.dueList ∧ (s.takeTemperature c k t).cards = s.cards ∧
    (s.takeTemperature c k t).journal = s.journal ∧ (s.takeTemperature c k t).outcomes = s.outcomes ∧
    (s.takeTemperature c k t).wake = s.wake ∧ (s.takeTemperature c k t).drawn = s.drawn ∧
    (s.takeTemperature c k t).pending = s.pending := by
  simp only [State.takeTemperature]
  repeat' split
  all_goals simp

@[simp] theorem State.takeResult_frame (s : State) (r : Run) (echo : EchoSignal) :
    (s.takeResult r echo).power = s.power ∧ (s.takeResult r echo).now = s.now ∧
    (s.takeResult r echo).lines = s.lines ∧ (s.takeResult r echo).store = s.store ∧
    (s.takeResult r echo).clock = s.clock ∧ (s.takeResult r echo).run = s.run ∧
    (s.takeResult r echo).cards = s.cards ∧ (s.takeResult r echo).outcomes = s.outcomes ∧
    (s.takeResult r echo).wake = s.wake ∧ (s.takeResult r echo).drawn = s.drawn ∧
    (s.takeResult r echo).pending = s.pending := by
  simp only [State.takeResult]
  repeat' split
  all_goals simp

@[simp] theorem State.takeCompletion_frame (s : State) (conv : Conversion) (echo : EchoSignal) :
    (s.takeCompletion conv echo).power = s.power ∧ (s.takeCompletion conv echo).now = s.now ∧
    (s.takeCompletion conv echo).lines = s.lines ∧ (s.takeCompletion conv echo).store = s.store ∧
    (s.takeCompletion conv echo).clock = s.clock ∧ (s.takeCompletion conv echo).cards = s.cards ∧
    (s.takeCompletion conv echo).outcomes = s.outcomes ∧ (s.takeCompletion conv echo).wake = s.wake ∧
    (s.takeCompletion conv echo).drawn = s.drawn ∧ (s.takeCompletion conv echo).pending = s.pending := by
  simp only [State.takeCompletion]
  repeat' split
  all_goals simp

/-! ## Card table -/

@[simp] theorem State.judgePeriod_frame (s : State) :
    (s.judgePeriod).power = s.power ∧ (s.judgePeriod).now = s.now ∧ (s.judgePeriod).lines = s.lines ∧
    (s.judgePeriod).store = s.store ∧ (s.judgePeriod).clock = s.clock ∧ (s.judgePeriod).run = s.run ∧
    (s.judgePeriod).containers = s.containers ∧ (s.judgePeriod).inlets = s.inlets ∧
    (s.judgePeriod).dueList = s.dueList ∧ (s.judgePeriod).journal = s.journal ∧ (s.judgePeriod).lift = s.lift ∧
    (s.judgePeriod).ports = s.ports ∧ (s.judgePeriod).outcomes = s.outcomes ∧ (s.judgePeriod).wake = s.wake ∧
    (s.judgePeriod).drawn = s.drawn ∧ (s.judgePeriod).pending = s.pending := by
  simp only [State.judgePeriod]
  repeat' split
  all_goals simp

@[simp] theorem State.postQuery_frame (s : State) (i n : Nat) :
    (s.postQuery i n).power = s.power ∧ (s.postQuery i n).now = s.now ∧ (s.postQuery i n).lines = s.lines ∧
    (s.postQuery i n).store = s.store ∧ (s.postQuery i n).clock = s.clock ∧ (s.postQuery i n).run = s.run ∧
    (s.postQuery i n).containers = s.containers ∧ (s.postQuery i n).dueList = s.dueList ∧
    (s.postQuery i n).cards = s.cards ∧ (s.postQuery i n).journal = s.journal ∧
    (s.postQuery i n).lift = s.lift ∧ (s.postQuery i n).outcomes = s.outcomes ∧
    (s.postQuery i n).wake = s.wake ∧ (s.postQuery i n).drawn = s.drawn ∧
    (s.postQuery i n).pending = s.pending :=
  ⟨rfl, rfl, rfl, rfl, rfl, rfl, rfl, rfl, rfl, rfl, rfl, rfl, rfl, rfl, rfl⟩

@[simp] theorem State.decideSlot_frame (s : State) (i n : Nat) (x : Inlet) :
    (s.decideSlot i n x).power = s.power ∧ (s.decideSlot i n x).now = s.now ∧
    (s.decideSlot i n x).lines = s.lines ∧ (s.decideSlot i n x).store = s.store ∧
    (s.decideSlot i n x).clock = s.clock ∧ (s.decideSlot i n x).run = s.run ∧
    (s.decideSlot i n x).containers = s.containers ∧ (s.decideSlot i n x).dueList = s.dueList ∧
    (s.decideSlot i n x).cards = s.cards ∧ (s.decideSlot i n x).journal = s.journal ∧
    (s.decideSlot i n x).lift = s.lift ∧ (s.decideSlot i n x).wake = s.wake ∧
    (s.decideSlot i n x).drawn = s.drawn ∧ (s.decideSlot i n x).pending = s.pending := by
  simp only [State.decideSlot]
  repeat' split
  all_goals simp

@[simp] theorem State.extendWindow_frame (s : State) (i : Nat) :
    (s.extendWindow i).power = s.power ∧ (s.extendWindow i).now = s.now ∧ (s.extendWindow i).lines = s.lines ∧
    (s.extendWindow i).store = s.store ∧ (s.extendWindow i).clock = s.clock ∧ (s.extendWindow i).run = s.run ∧
    (s.extendWindow i).containers = s.containers ∧ (s.extendWindow i).dueList = s.dueList ∧
    (s.extendWindow i).cards = s.cards ∧ (s.extendWindow i).journal = s.journal ∧
    (s.extendWindow i).lift = s.lift ∧ (s.extendWindow i).ports = s.ports ∧ (s.extendWindow i).wake = s.wake ∧
    (s.extendWindow i).drawn = s.drawn ∧ (s.extendWindow i).pending = s.pending :=
  ⟨rfl, rfl, rfl, rfl, rfl, rfl, rfl, rfl, rfl, rfl, rfl, rfl, rfl, rfl, rfl⟩

@[simp] theorem State.takeRead_frame (s : State) (i n : Nat) :
    (s.takeRead i n).power = s.power ∧ (s.takeRead i n).now = s.now ∧ (s.takeRead i n).lines = s.lines ∧
    (s.takeRead i n).store = s.store ∧ (s.takeRead i n).clock = s.clock ∧ (s.takeRead i n).run = s.run ∧
    (s.takeRead i n).containers = s.containers ∧ (s.takeRead i n).dueList = s.dueList ∧
    (s.takeRead i n).cards = s.cards ∧ (s.takeRead i n).journal = s.journal ∧ (s.takeRead i n).lift = s.lift ∧
    (s.takeRead i n).wake = s.wake ∧ (s.takeRead i n).drawn = s.drawn ∧ (s.takeRead i n).pending = s.pending := by
  simp only [State.takeRead]
  repeat' split
  all_goals simp

@[simp] theorem State.allowRead_frame (s : State) (i : Nat) (x : Inlet) (e : Card) :
    (s.allowRead i x e).power = s.power ∧ (s.allowRead i x e).now = s.now ∧
    (s.allowRead i x e).lines = s.lines ∧ (s.allowRead i x e).store = s.store ∧
    (s.allowRead i x e).clock = s.clock ∧ (s.allowRead i x e).run = s.run ∧
    (s.allowRead i x e).containers = s.containers ∧ (s.allowRead i x e).dueList = s.dueList ∧
    (s.allowRead i x e).cards = s.cards ∧ (s.allowRead i x e).journal = s.journal ∧
    (s.allowRead i x e).lift = s.lift ∧ (s.allowRead i x e).ports = s.ports ∧
    (s.allowRead i x e).wake = s.wake ∧ (s.allowRead i x e).drawn = s.drawn ∧
    (s.allowRead i x e).pending = s.pending := by
  simp only [State.allowRead]
  repeat' split
  all_goals simp

/-! ## Restarts -/

@[simp] theorem reconcileFrom_frame (l : FieldLines) (n k : Nat) (s : State) :
    (reconcileFrom l n k s).power = s.power ∧ (reconcileFrom l n k s).now = s.now ∧
    (reconcileFrom l n k s).lines = s.lines ∧ (reconcileFrom l n k s).store = s.store ∧
    (reconcileFrom l n k s).clock = s.clock ∧ (reconcileFrom l n k s).cards = s.cards ∧
    (reconcileFrom l n k s).outcomes = s.outcomes ∧ (reconcileFrom l n k s).wake = s.wake ∧
    (reconcileFrom l n k s).drawn = s.drawn ∧ (reconcileFrom l n k s).pending = s.pending := by
  induction k generalizing n s with
  | zero => simp [reconcileFrom]
  | succ k ih => simp [reconcileFrom, ih]

@[simp] theorem State.warmValues_frame (s : State) :
    (s.warmValues).power = s.power ∧ (s.warmValues).now = s.now ∧ (s.warmValues).lines = s.lines ∧
    (s.warmValues).clock = s.clock ∧ (s.warmValues).dueList = s.dueList ∧ (s.warmValues).cards = s.cards ∧
    (s.warmValues).journal = s.journal ∧ (s.warmValues).drawn = s.drawn ∧ (s.warmValues).pending = s.pending :=
  ⟨rfl, rfl, rfl, rfl, rfl, rfl, rfl, rfl, rfl⟩

@[simp] theorem State.warmRestart_frame (s : State) :
    (s.warmRestart).power = s.power ∧ (s.warmRestart).now = s.now ∧ (s.warmRestart).lines = s.lines ∧
    (s.warmRestart).clock = s.clock ∧ (s.warmRestart).cards = s.cards ∧ (s.warmRestart).drawn = s.drawn ∧
    (s.warmRestart).pending = s.pending := by
  simp only [State.warmRestart]
  all_goals simp

@[simp] theorem State.configRestart_frame (s : State) (g : StationConfig) :
    (s.configRestart g).power = s.power ∧ (s.configRestart g).now = s.now ∧
    (s.configRestart g).lines = s.lines ∧ (s.configRestart g).clock = s.clock ∧
    (s.configRestart g).journal = s.journal ∧ (s.configRestart g).drawn = s.drawn ∧
    (s.configRestart g).pending = s.pending := by
  simp only [State.configRestart]
  all_goals simp

@[simp] theorem State.withLines_frame (s : State) (l : FieldLines) :
    (s.withLines l).power = s.power ∧ (s.withLines l).now = s.now ∧ (s.withLines l).lines = l ∧
    (s.withLines l).store = s.store ∧ (s.withLines l).clock = s.clock ∧ (s.withLines l).run = s.run ∧
    (s.withLines l).dueList = s.dueList ∧ (s.withLines l).cards = s.cards ∧
    (s.withLines l).journal = s.journal ∧ (s.withLines l).lift = s.lift ∧ (s.withLines l).ports = s.ports ∧
    (s.withLines l).outcomes = s.outcomes ∧ (s.withLines l).wake = s.wake ∧ (s.withLines l).drawn = s.drawn ∧
    (s.withLines l).pending = s.pending :=
  ⟨rfl, rfl, rfl, rfl, rfl, rfl, rfl, rfl, rfl, rfl, rfl, rfl, rfl, rfl, rfl⟩

@[simp] theorem Run.convert_frame (r : Run) (conv : Conversion) :
    (r.convert conv).container = r.container ∧ (r.convert conv).second = r.second ∧
    (r.convert conv).detached = r.detached ∧ (r.convert conv).gate = conversionGate conv ∧
    (r.convert conv).result = some (conversionResult conv) :=
  ⟨rfl, rfl, rfl, rfl, rfl⟩

@[simp] theorem Run.started_fields (c : Nat) (b : Bool) :
    (Run.started c b).container = c ∧ (Run.started c b).second = b ∧ (Run.started c b).detached = false ∧
    (Run.started c b).gate = none ∧ (Run.started c b).result = none :=
  ⟨rfl, rfl, rfl, rfl, rfl⟩

/-! ## Wake controller -/

@[simp] theorem State.judgeIdle_frame (s : State) :
    (s.judgeIdle).power = s.power ∧ (s.judgeIdle).now = s.now ∧ (s.judgeIdle).lines = s.lines ∧
    (s.judgeIdle).store = s.store ∧ (s.judgeIdle).clock = s.clock ∧ (s.judgeIdle).run = s.run ∧
    (s.judgeIdle).containers = s.containers ∧ (s.judgeIdle).inlets = s.inlets ∧
    (s.judgeIdle).dueList = s.dueList ∧ (s.judgeIdle).cards = s.cards ∧ (s.judgeIdle).journal = s.journal ∧
    (s.judgeIdle).lift = s.lift ∧ (s.judgeIdle).ports = s.ports ∧ (s.judgeIdle).outcomes = s.outcomes ∧
    (s.judgeIdle).drawn = s.drawn ∧ (s.judgeIdle).pending = s.pending :=
  ⟨rfl, rfl, rfl, rfl, rfl, rfl, rfl, rfl, rfl, rfl, rfl, rfl, rfl, rfl, rfl, rfl⟩

@[simp] theorem State.enterDoze_frame (s : State) :
    (s.enterDoze).power = s.power ∧ (s.enterDoze).now = s.now ∧ (s.enterDoze).lines = s.lines ∧
    (s.enterDoze).store = s.store ∧ (s.enterDoze).clock = s.clock ∧ (s.enterDoze).run = s.run ∧
    (s.enterDoze).containers = s.containers ∧ (s.enterDoze).inlets = s.inlets ∧
    (s.enterDoze).dueList = s.dueList ∧ (s.enterDoze).cards = s.cards ∧ (s.enterDoze).journal = s.journal ∧
    (s.enterDoze).lift = s.lift ∧ (s.enterDoze).outcomes = s.outcomes ∧ (s.enterDoze).drawn = s.drawn ∧
    (s.enterDoze).pending = s.pending :=
  ⟨rfl, rfl, rfl, rfl, rfl, rfl, rfl, rfl, rfl, rfl, rfl, rfl, rfl, rfl, rfl⟩

@[simp] theorem State.beginWaking_frame (s : State) :
    (s.beginWaking).power = s.power ∧ (s.beginWaking).now = s.now ∧ (s.beginWaking).lines = s.lines ∧
    (s.beginWaking).store = s.store ∧ (s.beginWaking).clock = s.clock ∧ (s.beginWaking).run = s.run ∧
    (s.beginWaking).containers = s.containers ∧ (s.beginWaking).inlets = s.inlets ∧
    (s.beginWaking).dueList = s.dueList ∧ (s.beginWaking).cards = s.cards ∧
    (s.beginWaking).journal = s.journal ∧ (s.beginWaking).lift = s.lift ∧ (s.beginWaking).ports = s.ports ∧
    (s.beginWaking).outcomes = s.outcomes ∧ (s.beginWaking).drawn = s.drawn ∧
    (s.beginWaking).pending = s.pending := by
  simp only [State.beginWaking]
  repeat' split
  all_goals simp

@[simp] theorem State.hold_frame (s : State) (h : HeldCause) :
    (s.hold h).power = s.power ∧ (s.hold h).now = s.now ∧ (s.hold h).lines = s.lines ∧
    (s.hold h).store = s.store ∧ (s.hold h).clock = s.clock ∧ (s.hold h).run = s.run ∧
    (s.hold h).containers = s.containers ∧ (s.hold h).inlets = s.inlets ∧ (s.hold h).dueList = s.dueList ∧
    (s.hold h).cards = s.cards ∧ (s.hold h).journal = s.journal ∧ (s.hold h).lift = s.lift ∧
    (s.hold h).ports = s.ports ∧ (s.hold h).outcomes = s.outcomes ∧ (s.hold h).drawn = s.drawn ∧
    (s.hold h).pending = s.pending := by
  simp only [State.hold]
  all_goals simp

@[simp] theorem State.holdAll_frame (s : State) (hs : List HeldCause) :
    (s.holdAll hs).power = s.power ∧ (s.holdAll hs).now = s.now ∧ (s.holdAll hs).lines = s.lines ∧
    (s.holdAll hs).store = s.store ∧ (s.holdAll hs).clock = s.clock ∧ (s.holdAll hs).run = s.run ∧
    (s.holdAll hs).containers = s.containers ∧ (s.holdAll hs).inlets = s.inlets ∧
    (s.holdAll hs).dueList = s.dueList ∧ (s.holdAll hs).cards = s.cards ∧ (s.holdAll hs).journal = s.journal ∧
    (s.holdAll hs).lift = s.lift ∧ (s.holdAll hs).ports = s.ports ∧ (s.holdAll hs).outcomes = s.outcomes ∧
    (s.holdAll hs).drawn = s.drawn ∧ (s.holdAll hs).pending = s.pending := by
  unfold State.holdAll
  induction hs generalizing s with
  | nil => simp
  | cons h hs ih => simp [ih]

@[simp] theorem State.takeLimit_frame (s : State) (i : Nat) :
    (s.takeLimit i).power = s.power ∧ (s.takeLimit i).now = s.now ∧ (s.takeLimit i).lines = s.lines ∧
    (s.takeLimit i).store = s.store ∧ (s.takeLimit i).clock = s.clock ∧ (s.takeLimit i).run = s.run ∧
    (s.takeLimit i).containers = s.containers ∧ (s.takeLimit i).dueList = s.dueList ∧
    (s.takeLimit i).cards = s.cards ∧ (s.takeLimit i).journal = s.journal ∧ (s.takeLimit i).lift = s.lift ∧
    (s.takeLimit i).outcomes = s.outcomes ∧ (s.takeLimit i).wake = s.wake ∧ (s.takeLimit i).drawn = s.drawn ∧
    (s.takeLimit i).pending = s.pending :=
  ⟨rfl, rfl, rfl, rfl, rfl, rfl, rfl, rfl, rfl, rfl, rfl, rfl, rfl, rfl, rfl⟩

@[simp] theorem State.takeHeldLimit_frame (s : State) (i : Nat) :
    (s.takeHeldLimit i).power = s.power ∧ (s.takeHeldLimit i).now = s.now ∧
    (s.takeHeldLimit i).lines = s.lines ∧ (s.takeHeldLimit i).store = s.store ∧
    (s.takeHeldLimit i).clock = s.clock ∧ (s.takeHeldLimit i).run = s.run ∧
    (s.takeHeldLimit i).containers = s.containers ∧ (s.takeHeldLimit i).dueList = s.dueList ∧
    (s.takeHeldLimit i).cards = s.cards ∧ (s.takeHeldLimit i).journal = s.journal ∧
    (s.takeHeldLimit i).lift = s.lift ∧ (s.takeHeldLimit i).outcomes = s.outcomes ∧
    (s.takeHeldLimit i).wake = s.wake ∧ (s.takeHeldLimit i).drawn = s.drawn ∧
    (s.takeHeldLimit i).pending = s.pending := by
  simp only [State.takeHeldLimit]
  repeat' split
  all_goals simp

@[simp] theorem State.takeHeldDue_frame (s : State) (c : Nat) :
    (s.takeHeldDue c).power = s.power ∧ (s.takeHeldDue c).now = s.now ∧ (s.takeHeldDue c).lines = s.lines ∧
    (s.takeHeldDue c).store = s.store ∧ (s.takeHeldDue c).clock = s.clock ∧ (s.takeHeldDue c).run = s.run ∧
    (s.takeHeldDue c).inlets = s.inlets ∧ (s.takeHeldDue c).dueList = s.dueList ∧
    (s.takeHeldDue c).cards = s.cards ∧ (s.takeHeldDue c).journal = s.journal ∧
    (s.takeHeldDue c).lift = s.lift ∧ (s.takeHeldDue c).ports = s.ports ∧
    (s.takeHeldDue c).outcomes = s.outcomes ∧ (s.takeHeldDue c).wake = s.wake ∧
    (s.takeHeldDue c).drawn = s.drawn ∧ (s.takeHeldDue c).pending = s.pending := by
  simp only [State.takeHeldDue]
  repeat' split
  all_goals simp

@[simp] theorem State.takeCarrier_frame (s : State) (b : Bool) :
    (s.takeCarrier b).power = s.power ∧ (s.takeCarrier b).now = s.now ∧ (s.takeCarrier b).lines = s.lines ∧
    (s.takeCarrier b).store = s.store ∧ (s.takeCarrier b).clock = s.clock ∧ (s.takeCarrier b).run = s.run ∧
    (s.takeCarrier b).containers = s.containers ∧ (s.takeCarrier b).inlets = s.inlets ∧
    (s.takeCarrier b).dueList = s.dueList ∧ (s.takeCarrier b).cards = s.cards ∧
    (s.takeCarrier b).journal = s.journal ∧ (s.takeCarrier b).ports = s.ports ∧
    (s.takeCarrier b).outcomes = s.outcomes ∧ (s.takeCarrier b).wake = s.wake ∧
    (s.takeCarrier b).drawn = s.drawn ∧ (s.takeCarrier b).pending = s.pending := by
  simp only [State.takeCarrier]
  repeat' split
  all_goals simp

@[simp] theorem State.takeReceiveActivity_frame (s : State) (p : Port) :
    (s.takeReceiveActivity p).power = s.power ∧ (s.takeReceiveActivity p).now = s.now ∧
    (s.takeReceiveActivity p).lines = s.lines ∧ (s.takeReceiveActivity p).store = s.store ∧
    (s.takeReceiveActivity p).clock = s.clock ∧ (s.takeReceiveActivity p).run = s.run ∧
    (s.takeReceiveActivity p).containers = s.containers ∧ (s.takeReceiveActivity p).inlets = s.inlets ∧
    (s.takeReceiveActivity p).dueList = s.dueList ∧ (s.takeReceiveActivity p).cards = s.cards ∧
    (s.takeReceiveActivity p).journal = s.journal ∧ (s.takeReceiveActivity p).lift = s.lift ∧
    (s.takeReceiveActivity p).outcomes = s.outcomes ∧ (s.takeReceiveActivity p).wake = s.wake ∧
    (s.takeReceiveActivity p).drawn = s.drawn ∧ (s.takeReceiveActivity p).pending = s.pending :=
  ⟨rfl, rfl, rfl, rfl, rfl, rfl, rfl, rfl, rfl, rfl, rfl, rfl, rfl, rfl, rfl, rfl⟩

@[simp] theorem State.takeCause_frame (s : State) (h : HeldCause) :
    (s.takeCause h).power = s.power ∧ (s.takeCause h).now = s.now ∧ (s.takeCause h).lines = s.lines ∧
    (s.takeCause h).clock = s.clock ∧ (s.takeCause h).drawn = s.drawn ∧ (s.takeCause h).pending = s.pending := by
  simp only [State.takeCause]
  repeat' split
  all_goals simp

@[simp] theorem takeCauses_frame (n : Nat) (o : List Nat) (hs : List HeldCause) (s : State) :
    (takeCauses n o hs s).power = s.power ∧ (takeCauses n o hs s).now = s.now ∧
    (takeCauses n o hs s).lines = s.lines ∧ (takeCauses n o hs s).clock = s.clock ∧
    (takeCauses n o hs s).drawn = s.drawn ∧ (takeCauses n o hs s).pending = s.pending := by
  induction n generalizing o hs s with
  | zero => simp [takeCauses]
  | succ n ih =>
    simp only [takeCauses]
    split <;> simp [ih]

@[simp] theorem State.awaken_frame (s : State) (o : List Nat) :
    (s.awaken o).power = s.power ∧ (s.awaken o).now = s.now ∧ (s.awaken o).lines = s.lines ∧
    (s.awaken o).clock = s.clock ∧ (s.awaken o).drawn = s.drawn ∧ (s.awaken o).pending = s.pending := by
  simp only [State.awaken]
  all_goals simp

/-! ## Ports -/

@[simp] theorem State.sendReply_frame (s : State) (p : Port) (code tag : Byte) (st : Status) (pl : List Byte) :
    (s.sendReply p code tag st pl).power = s.power ∧ (s.sendReply p code tag st pl).now = s.now ∧
    (s.sendReply p code tag st pl).lines = s.lines ∧ (s.sendReply p code tag st pl).store = s.store ∧
    (s.sendReply p code tag st pl).clock = s.clock ∧ (s.sendReply p code tag st pl).run = s.run ∧
    (s.sendReply p code tag st pl).containers = s.containers ∧
    (s.sendReply p code tag st pl).inlets = s.inlets ∧ (s.sendReply p code tag st pl).dueList = s.dueList ∧
    (s.sendReply p code tag st pl).cards = s.cards ∧ (s.sendReply p code tag st pl).journal = s.journal ∧
    (s.sendReply p code tag st pl).lift = s.lift ∧ (s.sendReply p code tag st pl).outcomes = s.outcomes ∧
    (s.sendReply p code tag st pl).wake = s.wake ∧ (s.sendReply p code tag st pl).drawn = s.drawn ∧
    (s.sendReply p code tag st pl).pending = s.pending :=
  ⟨rfl, rfl, rfl, rfl, rfl, rfl, rfl, rfl, rfl, rfl, rfl, rfl, rfl, rfl, rfl, rfl⟩

@[simp] theorem State.holdPort_frame (s : State) (p : Port) (code tag : Byte) :
    (s.holdPort p code tag).power = s.power ∧ (s.holdPort p code tag).now = s.now ∧
    (s.holdPort p code tag).lines = s.lines ∧ (s.holdPort p code tag).store = s.store ∧
    (s.holdPort p code tag).clock = s.clock ∧ (s.holdPort p code tag).run = s.run ∧
    (s.holdPort p code tag).containers = s.containers ∧ (s.holdPort p code tag).inlets = s.inlets ∧
    (s.holdPort p code tag).dueList = s.dueList ∧ (s.holdPort p code tag).cards = s.cards ∧
    (s.holdPort p code tag).journal = s.journal ∧ (s.holdPort p code tag).lift = s.lift ∧
    (s.holdPort p code tag).outcomes = s.outcomes ∧ (s.holdPort p code tag).wake = s.wake ∧
    (s.holdPort p code tag).drawn = s.drawn ∧ (s.holdPort p code tag).pending = s.pending :=
  ⟨rfl, rfl, rfl, rfl, rfl, rfl, rfl, rfl, rfl, rfl, rfl, rfl, rfl, rfl, rfl, rfl⟩

@[simp] theorem State.takeUnknown_frame (s : State) (p : Port) (code tag : Byte) :
    (s.takeUnknown p code tag).power = s.power ∧ (s.takeUnknown p code tag).now = s.now ∧
    (s.takeUnknown p code tag).lines = s.lines ∧ (s.takeUnknown p code tag).store = s.store ∧
    (s.takeUnknown p code tag).clock = s.clock ∧ (s.takeUnknown p code tag).run = s.run ∧
    (s.takeUnknown p code tag).containers = s.containers ∧ (s.takeUnknown p code tag).inlets = s.inlets ∧
    (s.takeUnknown p code tag).dueList = s.dueList ∧ (s.takeUnknown p code tag).cards = s.cards ∧
    (s.takeUnknown p code tag).journal = s.journal ∧ (s.takeUnknown p code tag).lift = s.lift ∧
    (s.takeUnknown p code tag).outcomes = s.outcomes ∧ (s.takeUnknown p code tag).wake = s.wake ∧
    (s.takeUnknown p code tag).drawn = s.drawn ∧ (s.takeUnknown p code tag).pending = s.pending :=
  ⟨rfl, rfl, rfl, rfl, rfl, rfl, rfl, rfl, rfl, rfl, rfl, rfl, rfl, rfl, rfl, rfl⟩

@[simp] theorem State.startGap_frame (s : State) (p : Port) :
    (s.startGap p).power = s.power ∧ (s.startGap p).now = s.now ∧ (s.startGap p).lines = s.lines ∧
    (s.startGap p).store = s.store ∧ (s.startGap p).clock = s.clock ∧ (s.startGap p).run = s.run ∧
    (s.startGap p).containers = s.containers ∧ (s.startGap p).inlets = s.inlets ∧
    (s.startGap p).dueList = s.dueList ∧ (s.startGap p).cards = s.cards ∧ (s.startGap p).journal = s.journal ∧
    (s.startGap p).lift = s.lift ∧ (s.startGap p).outcomes = s.outcomes ∧ (s.startGap p).wake = s.wake ∧
    (s.startGap p).drawn = s.drawn ∧ (s.startGap p).pending = s.pending :=
  ⟨rfl, rfl, rfl, rfl, rfl, rfl, rfl, rfl, rfl, rfl, rfl, rfl, rfl, rfl, rfl, rfl⟩

@[simp] theorem State.setReceiver_frame (s : State) (p : Port) (r : Receiver) :
    (s.setReceiver p r).power = s.power ∧ (s.setReceiver p r).now = s.now ∧
    (s.setReceiver p r).lines = s.lines ∧ (s.setReceiver p r).store = s.store ∧
    (s.setReceiver p r).clock = s.clock ∧ (s.setReceiver p r).run = s.run ∧
    (s.setReceiver p r).containers = s.containers ∧ (s.setReceiver p r).inlets = s.inlets ∧
    (s.setReceiver p r).dueList = s.dueList ∧ (s.setReceiver p r).cards = s.cards ∧
    (s.setReceiver p r).journal = s.journal ∧ (s.setReceiver p r).lift = s.lift ∧
    (s.setReceiver p r).outcomes = s.outcomes ∧ (s.setReceiver p r).wake = s.wake ∧
    (s.setReceiver p r).drawn = s.drawn ∧ (s.setReceiver p r).pending = s.pending :=
  ⟨rfl, rfl, rfl, rfl, rfl, rfl, rfl, rfl, rfl, rfl, rfl, rfl, rfl, rfl, rfl, rfl⟩

@[simp] theorem State.discardFrame_frame (s : State) (p : Port) (r : Receiver) :
    (s.discardFrame p r).power = s.power ∧ (s.discardFrame p r).now = s.now ∧
    (s.discardFrame p r).lines = s.lines ∧ (s.discardFrame p r).store = s.store ∧
    (s.discardFrame p r).clock = s.clock ∧ (s.discardFrame p r).run = s.run ∧
    (s.discardFrame p r).containers = s.containers ∧ (s.discardFrame p r).inlets = s.inlets ∧
    (s.discardFrame p r).dueList = s.dueList ∧ (s.discardFrame p r).cards = s.cards ∧
    (s.discardFrame p r).journal = s.journal ∧ (s.discardFrame p r).lift = s.lift ∧
    (s.discardFrame p r).outcomes = s.outcomes ∧ (s.discardFrame p r).wake = s.wake ∧
    (s.discardFrame p r).drawn = s.drawn ∧ (s.discardFrame p r).pending = s.pending :=
  ⟨rfl, rfl, rfl, rfl, rfl, rfl, rfl, rfl, rfl, rfl, rfl, rfl, rfl, rfl, rfl, rfl⟩

@[simp] theorem State.gapExpires_frame (s : State) (p : Port) :
    (s.gapExpires p).power = s.power ∧ (s.gapExpires p).now = s.now ∧ (s.gapExpires p).lines = s.lines ∧
    (s.gapExpires p).store = s.store ∧ (s.gapExpires p).clock = s.clock ∧ (s.gapExpires p).run = s.run ∧
    (s.gapExpires p).containers = s.containers ∧ (s.gapExpires p).inlets = s.inlets ∧
    (s.gapExpires p).dueList = s.dueList ∧ (s.gapExpires p).cards = s.cards ∧
    (s.gapExpires p).journal = s.journal ∧ (s.gapExpires p).lift = s.lift ∧
    (s.gapExpires p).outcomes = s.outcomes ∧ (s.gapExpires p).wake = s.wake ∧ (s.gapExpires p).drawn = s.drawn ∧
    (s.gapExpires p).pending = s.pending := by
  simp only [State.gapExpires]
  repeat' split
  all_goals simp

@[simp] theorem State.answerHeld_frame (s : State) (p : Port) (h : PortState) (st : Status) :
    (s.answerHeld p h st).power = s.power ∧ (s.answerHeld p h st).now = s.now ∧
    (s.answerHeld p h st).lines = s.lines ∧ (s.answerHeld p h st).store = s.store ∧
    (s.answerHeld p h st).clock = s.clock ∧ (s.answerHeld p h st).run = s.run ∧
    (s.answerHeld p h st).containers = s.containers ∧ (s.answerHeld p h st).inlets = s.inlets ∧
    (s.answerHeld p h st).dueList = s.dueList ∧ (s.answerHeld p h st).cards = s.cards ∧
    (s.answerHeld p h st).journal = s.journal ∧ (s.answerHeld p h st).lift = s.lift ∧
    (s.answerHeld p h st).outcomes = s.outcomes ∧ (s.answerHeld p h st).wake = s.wake ∧
    (s.answerHeld p h st).drawn = s.drawn ∧ (s.answerHeld p h st).pending = s.pending := by
  simp only [State.answerHeld]
  repeat' split
  all_goals simp

/-! ## Commands -/

@[simp] theorem State.completeWrite_frame (s : State) :
    (s.completeWrite).power = s.power ∧ (s.completeWrite).now = s.now ∧ (s.completeWrite).lines = s.lines ∧
    (s.completeWrite).clock = s.clock ∧ (s.completeWrite).run = s.run ∧
    (s.completeWrite).containers = s.containers ∧ (s.completeWrite).inlets = s.inlets ∧
    (s.completeWrite).dueList = s.dueList ∧ (s.completeWrite).cards = s.cards ∧
    (s.completeWrite).journal = s.journal ∧ (s.completeWrite).lift = s.lift ∧
    (s.completeWrite).outcomes = s.outcomes ∧ (s.completeWrite).wake = s.wake ∧
    (s.completeWrite).drawn = s.drawn ∧ (s.completeWrite).pending = s.pending := by
  simp only [State.completeWrite]
  repeat' split
  all_goals simp

@[simp] theorem State.endWait_frame (s : State) (st : ServiceState) (e : LiftEnding) :
    (s.endWait st e).power = s.power ∧ (s.endWait st e).now = s.now ∧ (s.endWait st e).lines = s.lines ∧
    (s.endWait st e).store = s.store ∧ (s.endWait st e).clock = s.clock ∧ (s.endWait st e).run = s.run ∧
    (s.endWait st e).inlets = s.inlets ∧ (s.endWait st e).dueList = s.dueList ∧
    (s.endWait st e).cards = s.cards ∧ (s.endWait st e).journal = s.journal ∧
    (s.endWait st e).outcomes = s.outcomes ∧ (s.endWait st e).wake = s.wake ∧ (s.endWait st e).drawn = s.drawn ∧
    (s.endWait st e).pending = s.pending := by
  simp only [State.endWait]
  repeat' split
  all_goals simp

@[simp] theorem State.loseCarrier_frame (s : State) :
    (s.loseCarrier).power = s.power ∧ (s.loseCarrier).now = s.now ∧ (s.loseCarrier).lines = s.lines ∧
    (s.loseCarrier).store = s.store ∧ (s.loseCarrier).clock = s.clock ∧ (s.loseCarrier).run = s.run ∧
    (s.loseCarrier).inlets = s.inlets ∧ (s.loseCarrier).dueList = s.dueList ∧ (s.loseCarrier).cards = s.cards ∧
    (s.loseCarrier).journal = s.journal ∧ (s.loseCarrier).outcomes = s.outcomes ∧
    (s.loseCarrier).wake = s.wake ∧ (s.loseCarrier).drawn = s.drawn ∧ (s.loseCarrier).pending = s.pending := by
  simp only [State.loseCarrier]
  repeat' split
  all_goals simp

@[simp] theorem State.openSession_frame (s : State) (id : Nat) (fs : FractionSet) :
    (s.openSession id fs).power = s.power ∧ (s.openSession id fs).now = s.now ∧
    (s.openSession id fs).lines = s.lines ∧ (s.openSession id fs).store = s.store ∧
    (s.openSession id fs).clock = s.clock ∧ (s.openSession id fs).run = s.run ∧
    (s.openSession id fs).containers = s.containers ∧ (s.openSession id fs).inlets = s.inlets ∧
    (s.openSession id fs).dueList = s.dueList ∧ (s.openSession id fs).cards = s.cards ∧
    (s.openSession id fs).journal = s.journal ∧ (s.openSession id fs).ports = s.ports ∧
    (s.openSession id fs).outcomes = s.outcomes ∧ (s.openSession id fs).wake = s.wake ∧
    (s.openSession id fs).drawn = s.drawn ∧ (s.openSession id fs).pending = s.pending :=
  ⟨rfl, rfl, rfl, rfl, rfl, rfl, rfl, rfl, rfl, rfl, rfl, rfl, rfl, rfl, rfl, rfl⟩

@[simp] theorem State.acceptClaim_frame (s : State) (c : Nat) :
    (s.acceptClaim c).power = s.power ∧ (s.acceptClaim c).now = s.now ∧ (s.acceptClaim c).lines = s.lines ∧
    (s.acceptClaim c).store = s.store ∧ (s.acceptClaim c).clock = s.clock ∧ (s.acceptClaim c).run = s.run ∧
    (s.acceptClaim c).dueList = s.dueList ∧ (s.acceptClaim c).cards = s.cards ∧
    (s.acceptClaim c).journal = s.journal ∧ (s.acceptClaim c).wake = s.wake ∧
    (s.acceptClaim c).drawn = s.drawn ∧ (s.acceptClaim c).pending = s.pending := by
  simp only [State.acceptClaim]
  all_goals simp

@[simp] theorem State.wakeExpires_frame (s : State) (t : Nat) :
    (s.wakeExpires t).power = s.power ∧ (s.wakeExpires t).lines = s.lines ∧ (s.wakeExpires t).store = s.store ∧
    (s.wakeExpires t).clock = s.clock ∧ (s.wakeExpires t).run = s.run ∧
    (s.wakeExpires t).containers = s.containers ∧ (s.wakeExpires t).inlets = s.inlets ∧
    (s.wakeExpires t).dueList = s.dueList ∧ (s.wakeExpires t).cards = s.cards ∧
    (s.wakeExpires t).journal = s.journal ∧ (s.wakeExpires t).lift = s.lift ∧
    (s.wakeExpires t).ports = s.ports ∧ (s.wakeExpires t).outcomes = s.outcomes ∧
    (s.wakeExpires t).drawn = s.drawn ∧ (s.wakeExpires t).pending = s.pending := by
  simp only [State.wakeExpires]
  all_goals simp

@[simp] theorem State.acceptLid_frame (s : State) (i : Nat) (b : Bool) :
    (s.acceptLid i b).power = s.power ∧ (s.acceptLid i b).now = s.now ∧ (s.acceptLid i b).store = s.store ∧
    (s.acceptLid i b).clock = s.clock ∧ (s.acceptLid i b).run = s.run ∧
    (s.acceptLid i b).outcomes = s.outcomes ∧ (s.acceptLid i b).drawn = s.drawn ∧
    (s.acceptLid i b).pending = s.pending := by
  simp only [State.acceptLid]
  repeat' split
  all_goals simp

@[simp] theorem State.acceptSeat_frame (s : State) (c : Nat) (b : Bool) :
    (s.acceptSeat c b).power = s.power ∧ (s.acceptSeat c b).now = s.now ∧ (s.acceptSeat c b).store = s.store ∧
    (s.acceptSeat c b).clock = s.clock ∧ (s.acceptSeat c b).cards = s.cards ∧
    (s.acceptSeat c b).outcomes = s.outcomes ∧ (s.acceptSeat c b).drawn = s.drawn ∧
    (s.acceptSeat c b).pending = s.pending := by
  simp only [State.acceptSeat]
  repeat' split
  all_goals simp

@[simp] theorem State.acceptStood_frame (s : State) :
    s.acceptStood.power = s.power ∧ s.acceptStood.now = s.now ∧ s.acceptStood.store = s.store ∧
    s.acceptStood.clock = s.clock ∧ s.acceptStood.outcomes = s.outcomes ∧ s.acceptStood.drawn = s.drawn ∧
    s.acceptStood.pending = s.pending := by
  have lids : ∀ (es : List (Nat × Bool)) (v : State),
      let w := es.foldl (fun v e => v.acceptLid e.1 e.2) v
      w.power = v.power ∧ w.now = v.now ∧ w.store = v.store ∧ w.clock = v.clock ∧ w.outcomes = v.outcomes ∧
        w.drawn = v.drawn ∧ w.pending = v.pending := by
    intro es
    induction es with
    | nil => simp
    | cons e es ih => intro v; simpa using ih (v.acceptLid e.1 e.2)
  have seats : ∀ (es : List (Nat × Bool)) (v : State),
      let w := es.foldl (fun v e => v.acceptSeat e.1 e.2) v
      w.power = v.power ∧ w.now = v.now ∧ w.store = v.store ∧ w.clock = v.clock ∧ w.outcomes = v.outcomes ∧
        w.drawn = v.drawn ∧ w.pending = v.pending := by
    intro es
    induction es with
    | nil => simp
    | cons e es ih => intro v; simpa using ih (v.acceptSeat e.1 e.2)
  have h := lids (eachOf s.stoodLid 0 s.inlets) s
  have k := seats (eachOf s.stoodSeat 0 s.containers)
    ((eachOf s.stoodLid 0 s.inlets).foldl (fun v e => v.acceptLid e.1 e.2) s)
  simp_all [State.acceptStood]

@[simp] theorem State.moveLines_frame (s : State) (l : FieldLines) :
    (s.moveLines l).power = s.power ∧ (s.moveLines l).now = s.now ∧ (s.moveLines l).store = s.store ∧
    (s.moveLines l).clock = s.clock ∧ (s.moveLines l).outcomes = s.outcomes ∧ (s.moveLines l).drawn = s.drawn ∧
    (s.moveLines l).pending = s.pending := by
  simp [State.moveLines]

@[simp] theorem State.tick_frame (s : State) :
    (s.tick).power = s.power ∧ (s.tick).lines = s.lines ∧ (s.tick).store = s.store ∧ (s.tick).clock = s.clock ∧
    (s.tick).run = s.run ∧ (s.tick).dueList = s.dueList ∧ (s.tick).cards = s.cards ∧
    (s.tick).journal = s.journal ∧ (s.tick).lift = s.lift ∧ (s.tick).ports = s.ports ∧
    (s.tick).outcomes = s.outcomes ∧ (s.tick).wake = s.wake ∧ (s.tick).drawn = s.drawn ∧
    (s.tick).pending = s.pending := by
  simp only [State.tick]
  repeat' split
  all_goals simp

end Sys2Proof.Machine
end

