-- ==== Sys2Proof/Laws/Requests.lean ====
section
/-! SUPPORT. What the effect of each request leaves of the state: for every body, the fields it does not touch. -/

namespace Sys2Proof.Machine

@[simp] theorem refuse_fst (s : State) (st : Status) : (refuse s st).1 = s := rfl
@[simp] theorem refuse_snd (s : State) (st : Status) : (refuse s st).2 = .reply st [] := rfl
@[simp] theorem done_fst (s : State) : (done s).1 = s := rfl
@[simp] theorem done_snd (s : State) : (done s).2 = .reply .ok [] := rfl

@[simp] theorem reqReadStatus_body : reqReadStatus.body = bodyReadStatus := rfl

@[simp] theorem bodyReadStatus_frame (p : Port) (ps : List Byte) (s : State) :
    (bodyReadStatus p ps s).1.power = s.power ∧ (bodyReadStatus p ps s).1.now = s.now ∧
    (bodyReadStatus p ps s).1.lines = s.lines ∧ (bodyReadStatus p ps s).1.store = s.store ∧
    (bodyReadStatus p ps s).1.clock = s.clock ∧ (bodyReadStatus p ps s).1.run = s.run ∧
    (bodyReadStatus p ps s).1.containers = s.containers ∧ (bodyReadStatus p ps s).1.inlets = s.inlets ∧
    (bodyReadStatus p ps s).1.dueList = s.dueList ∧ (bodyReadStatus p ps s).1.cards = s.cards ∧
    (bodyReadStatus p ps s).1.journal = s.journal ∧ (bodyReadStatus p ps s).1.lift = s.lift ∧
    (bodyReadStatus p ps s).1.outcomes = s.outcomes ∧ (bodyReadStatus p ps s).1.wake = s.wake ∧
    (bodyReadStatus p ps s).1.drawn = s.drawn ∧ (bodyReadStatus p ps s).1.pending = s.pending := by
  simp only [bodyReadStatus]
  all_goals simp

@[simp] theorem reqAcknowledgeAttention_body : reqAcknowledgeAttention.body = bodyAcknowledgeAttention := rfl

@[simp] theorem bodyAcknowledgeAttention_frame (p : Port) (ps : List Byte) (s : State) :
    (bodyAcknowledgeAttention p ps s).1.power = s.power ∧ (bodyAcknowledgeAttention p ps s).1.now = s.now ∧
    (bodyAcknowledgeAttention p ps s).1.lines = s.lines ∧ (bodyAcknowledgeAttention p ps s).1.store = s.store ∧
    (bodyAcknowledgeAttention p ps s).1.clock = s.clock ∧ (bodyAcknowledgeAttention p ps s).1.run = s.run ∧
    (bodyAcknowledgeAttention p ps s).1.containers = s.containers ∧
    (bodyAcknowledgeAttention p ps s).1.inlets = s.inlets ∧
    (bodyAcknowledgeAttention p ps s).1.dueList = s.dueList ∧
    (bodyAcknowledgeAttention p ps s).1.cards = s.cards ∧
    (bodyAcknowledgeAttention p ps s).1.journal = s.journal ∧
    (bodyAcknowledgeAttention p ps s).1.lift = s.lift ∧
    (bodyAcknowledgeAttention p ps s).1.outcomes = s.outcomes ∧
    (bodyAcknowledgeAttention p ps s).1.wake = s.wake ∧ (bodyAcknowledgeAttention p ps s).1.drawn = s.drawn ∧
    (bodyAcknowledgeAttention p ps s).1.pending = s.pending := by
  simp only [bodyAcknowledgeAttention]
  repeat' split
  all_goals simp

@[simp] theorem reqSetAttentionMask_body : reqSetAttentionMask.body = bodySetAttentionMask := rfl

@[simp] theorem bodySetAttentionMask_frame (p : Port) (ps : List Byte) (s : State) :
    (bodySetAttentionMask p ps s).1.power = s.power ∧ (bodySetAttentionMask p ps s).1.now = s.now ∧
    (bodySetAttentionMask p ps s).1.lines = s.lines ∧ (bodySetAttentionMask p ps s).1.store = s.store ∧
    (bodySetAttentionMask p ps s).1.clock = s.clock ∧ (bodySetAttentionMask p ps s).1.run = s.run ∧
    (bodySetAttentionMask p ps s).1.containers = s.containers ∧
    (bodySetAttentionMask p ps s).1.inlets = s.inlets ∧ (bodySetAttentionMask p ps s).1.dueList = s.dueList ∧
    (bodySetAttentionMask p ps s).1.cards = s.cards ∧ (bodySetAttentionMask p ps s).1.journal = s.journal ∧
    (bodySetAttentionMask p ps s).1.lift = s.lift ∧ (bodySetAttentionMask p ps s).1.outcomes = s.outcomes ∧
    (bodySetAttentionMask p ps s).1.wake = s.wake ∧ (bodySetAttentionMask p ps s).1.drawn = s.drawn ∧
    (bodySetAttentionMask p ps s).1.pending = s.pending := by
  simp only [bodySetAttentionMask]
  repeat' split
  all_goals simp

@[simp] theorem reqReadClock_body : reqReadClock.body = bodyReadClock := rfl

@[simp] theorem bodyReadClock_frame (p : Port) (ps : List Byte) (s : State) :
    (bodyReadClock p ps s).1.power = s.power ∧ (bodyReadClock p ps s).1.now = s.now ∧
    (bodyReadClock p ps s).1.lines = s.lines ∧ (bodyReadClock p ps s).1.store = s.store ∧
    (bodyReadClock p ps s).1.clock = s.clock ∧ (bodyReadClock p ps s).1.run = s.run ∧
    (bodyReadClock p ps s).1.containers = s.containers ∧ (bodyReadClock p ps s).1.inlets = s.inlets ∧
    (bodyReadClock p ps s).1.dueList = s.dueList ∧ (bodyReadClock p ps s).1.cards = s.cards ∧
    (bodyReadClock p ps s).1.journal = s.journal ∧ (bodyReadClock p ps s).1.lift = s.lift ∧
    (bodyReadClock p ps s).1.ports = s.ports ∧ (bodyReadClock p ps s).1.outcomes = s.outcomes ∧
    (bodyReadClock p ps s).1.wake = s.wake ∧ (bodyReadClock p ps s).1.drawn = s.drawn ∧
    (bodyReadClock p ps s).1.pending = s.pending := by
  simp only [bodyReadClock]
  all_goals simp

@[simp] theorem reqSetClock_body : reqSetClock.body = bodySetClock := rfl

@[simp] theorem bodySetClock_frame (p : Port) (ps : List Byte) (s : State) :
    (bodySetClock p ps s).1.power = s.power ∧ (bodySetClock p ps s).1.now = s.now ∧
    (bodySetClock p ps s).1.lines = s.lines ∧ (bodySetClock p ps s).1.store = s.store ∧
    (bodySetClock p ps s).1.run = s.run ∧ (bodySetClock p ps s).1.containers = s.containers ∧
    (bodySetClock p ps s).1.inlets = s.inlets ∧ (bodySetClock p ps s).1.dueList = s.dueList ∧
    (bodySetClock p ps s).1.journal = s.journal ∧ (bodySetClock p ps s).1.lift = s.lift ∧
    (bodySetClock p ps s).1.ports = s.ports ∧ (bodySetClock p ps s).1.outcomes = s.outcomes ∧
    (bodySetClock p ps s).1.wake = s.wake ∧ (bodySetClock p ps s).1.drawn = s.drawn ∧
    (bodySetClock p ps s).1.pending = s.pending := by
  simp only [bodySetClock]
  all_goals simp

@[simp] theorem reqRestart_body : reqRestart.body = bodyRestart := rfl

@[simp] theorem bodyRestart_frame (p : Port) (ps : List Byte) (s : State) :
    (bodyRestart p ps s).1.power = s.power ∧ (bodyRestart p ps s).1.now = s.now ∧
    (bodyRestart p ps s).1.lines = s.lines ∧ (bodyRestart p ps s).1.clock = s.clock ∧
    (bodyRestart p ps s).1.cards = s.cards ∧ (bodyRestart p ps s).1.drawn = s.drawn ∧
    (bodyRestart p ps s).1.pending = s.pending := by
  simp only [bodyRestart]
  all_goals simp

@[simp] theorem reqWriteImageBlock_body : reqWriteImageBlock.body = bodyWriteImageBlock := rfl

@[simp] theorem bodyWriteImageBlock_frame (p : Port) (ps : List Byte) (s : State) :
    (bodyWriteImageBlock p ps s).1.power = s.power ∧ (bodyWriteImageBlock p ps s).1.now = s.now ∧
    (bodyWriteImageBlock p ps s).1.lines = s.lines ∧ (bodyWriteImageBlock p ps s).1.clock = s.clock ∧
    (bodyWriteImageBlock p ps s).1.run = s.run ∧ (bodyWriteImageBlock p ps s).1.containers = s.containers ∧
    (bodyWriteImageBlock p ps s).1.inlets = s.inlets ∧ (bodyWriteImageBlock p ps s).1.dueList = s.dueList ∧
    (bodyWriteImageBlock p ps s).1.cards = s.cards ∧ (bodyWriteImageBlock p ps s).1.journal = s.journal ∧
    (bodyWriteImageBlock p ps s).1.lift = s.lift ∧ (bodyWriteImageBlock p ps s).1.ports = s.ports ∧
    (bodyWriteImageBlock p ps s).1.outcomes = s.outcomes ∧ (bodyWriteImageBlock p ps s).1.wake = s.wake ∧
    (bodyWriteImageBlock p ps s).1.drawn = s.drawn ∧ (bodyWriteImageBlock p ps s).1.pending = s.pending := by
  simp only [bodyWriteImageBlock]
  repeat' split
  all_goals simp

@[simp] theorem reqApplyConfiguration_body : reqApplyConfiguration.body = bodyApplyConfiguration := rfl

@[simp] theorem bodyApplyConfiguration_frame (p : Port) (ps : List Byte) (s : State) :
    (bodyApplyConfiguration p ps s).1.power = s.power ∧ (bodyApplyConfiguration p ps s).1.now = s.now ∧
    (bodyApplyConfiguration p ps s).1.lines = s.lines ∧ (bodyApplyConfiguration p ps s).1.clock = s.clock ∧
    (bodyApplyConfiguration p ps s).1.run = s.run ∧
    (bodyApplyConfiguration p ps s).1.containers = s.containers ∧
    (bodyApplyConfiguration p ps s).1.inlets = s.inlets ∧
    (bodyApplyConfiguration p ps s).1.dueList = s.dueList ∧ (bodyApplyConfiguration p ps s).1.cards = s.cards ∧
    (bodyApplyConfiguration p ps s).1.journal = s.journal ∧ (bodyApplyConfiguration p ps s).1.lift = s.lift ∧
    (bodyApplyConfiguration p ps s).1.ports = s.ports ∧
    (bodyApplyConfiguration p ps s).1.outcomes = s.outcomes ∧ (bodyApplyConfiguration p ps s).1.wake = s.wake ∧
    (bodyApplyConfiguration p ps s).1.drawn = s.drawn ∧
    (bodyApplyConfiguration p ps s).1.pending = s.pending := by
  simp only [bodyApplyConfiguration]
  repeat' split
  all_goals simp

@[simp] theorem reqReadContainer_body : reqReadContainer.body = bodyReadContainer := rfl

@[simp] theorem bodyReadContainer_frame (p : Port) (ps : List Byte) (s : State) :
    (bodyReadContainer p ps s).1.power = s.power ∧ (bodyReadContainer p ps s).1.now = s.now ∧
    (bodyReadContainer p ps s).1.lines = s.lines ∧ (bodyReadContainer p ps s).1.store = s.store ∧
    (bodyReadContainer p ps s).1.clock = s.clock ∧ (bodyReadContainer p ps s).1.run = s.run ∧
    (bodyReadContainer p ps s).1.containers = s.containers ∧ (bodyReadContainer p ps s).1.inlets = s.inlets ∧
    (bodyReadContainer p ps s).1.dueList = s.dueList ∧ (bodyReadContainer p ps s).1.cards = s.cards ∧
    (bodyReadContainer p ps s).1.journal = s.journal ∧ (bodyReadContainer p ps s).1.lift = s.lift ∧
    (bodyReadContainer p ps s).1.ports = s.ports ∧ (bodyReadContainer p ps s).1.outcomes = s.outcomes ∧
    (bodyReadContainer p ps s).1.wake = s.wake ∧ (bodyReadContainer p ps s).1.drawn = s.drawn ∧
    (bodyReadContainer p ps s).1.pending = s.pending := by
  simp only [bodyReadContainer]
  repeat' split
  all_goals simp

@[simp] theorem reqSuspendContainer_body : reqSuspendContainer.body = bodySuspendContainer := rfl

@[simp] theorem bodySuspendContainer_frame (p : Port) (ps : List Byte) (s : State) :
    (bodySuspendContainer p ps s).1.power = s.power ∧ (bodySuspendContainer p ps s).1.now = s.now ∧
    (bodySuspendContainer p ps s).1.lines = s.lines ∧ (bodySuspendContainer p ps s).1.store = s.store ∧
    (bodySuspendContainer p ps s).1.clock = s.clock ∧ (bodySuspendContainer p ps s).1.run = s.run ∧
    (bodySuspendContainer p ps s).1.dueList = s.dueList ∧ (bodySuspendContainer p ps s).1.cards = s.cards ∧
    (bodySuspendContainer p ps s).1.journal = s.journal ∧ (bodySuspendContainer p ps s).1.lift = s.lift ∧
    (bodySuspendContainer p ps s).1.ports = s.ports ∧ (bodySuspendContainer p ps s).1.outcomes = s.outcomes ∧
    (bodySuspendContainer p ps s).1.wake = s.wake ∧ (bodySuspendContainer p ps s).1.drawn = s.drawn ∧
    (bodySuspendContainer p ps s).1.pending = s.pending := by
  simp only [bodySuspendContainer]
  repeat' split
  all_goals simp

@[simp] theorem reqResumeContainer_body : reqResumeContainer.body = bodyResumeContainer := rfl

@[simp] theorem bodyResumeContainer_frame (p : Port) (ps : List Byte) (s : State) :
    (bodyResumeContainer p ps s).1.power = s.power ∧ (bodyResumeContainer p ps s).1.now = s.now ∧
    (bodyResumeContainer p ps s).1.lines = s.lines ∧ (bodyResumeContainer p ps s).1.store = s.store ∧
    (bodyResumeContainer p ps s).1.clock = s.clock ∧ (bodyResumeContainer p ps s).1.run = s.run ∧
    (bodyResumeContainer p ps s).1.inlets = s.inlets ∧ (bodyResumeContainer p ps s).1.dueList = s.dueList ∧
    (bodyResumeContainer p ps s).1.cards = s.cards ∧ (bodyResumeContainer p ps s).1.journal = s.journal ∧
    (bodyResumeContainer p ps s).1.lift = s.lift ∧ (bodyResumeContainer p ps s).1.ports = s.ports ∧
    (bodyResumeContainer p ps s).1.outcomes = s.outcomes ∧ (bodyResumeContainer p ps s).1.wake = s.wake ∧
    (bodyResumeContainer p ps s).1.drawn = s.drawn ∧ (bodyResumeContainer p ps s).1.pending = s.pending := by
  simp only [bodyResumeContainer]
  repeat' split
  all_goals simp

@[simp] theorem reqMeasureNow_body : reqMeasureNow.body = bodyMeasureNow := rfl

@[simp] theorem bodyMeasureNow_frame (p : Port) (ps : List Byte) (s : State) :
    (bodyMeasureNow p ps s).1.power = s.power ∧ (bodyMeasureNow p ps s).1.now = s.now ∧
    (bodyMeasureNow p ps s).1.lines = s.lines ∧ (bodyMeasureNow p ps s).1.store = s.store ∧
    (bodyMeasureNow p ps s).1.clock = s.clock ∧ (bodyMeasureNow p ps s).1.inlets = s.inlets ∧
    (bodyMeasureNow p ps s).1.dueList = s.dueList ∧ (bodyMeasureNow p ps s).1.cards = s.cards ∧
    (bodyMeasureNow p ps s).1.journal = s.journal ∧ (bodyMeasureNow p ps s).1.lift = s.lift ∧
    (bodyMeasureNow p ps s).1.ports = s.ports ∧ (bodyMeasureNow p ps s).1.outcomes = s.outcomes ∧
    (bodyMeasureNow p ps s).1.wake = s.wake ∧ (bodyMeasureNow p ps s).1.drawn = s.drawn ∧
    (bodyMeasureNow p ps s).1.pending = s.pending := by
  simp only [bodyMeasureNow]
  repeat' split
  all_goals simp

@[simp] theorem reqReadDueList_body : reqReadDueList.body = bodyReadDueList := rfl

@[simp] theorem bodyReadDueList_frame (p : Port) (ps : List Byte) (s : State) :
    (bodyReadDueList p ps s).1.power = s.power ∧ (bodyReadDueList p ps s).1.now = s.now ∧
    (bodyReadDueList p ps s).1.lines = s.lines ∧ (bodyReadDueList p ps s).1.store = s.store ∧
    (bodyReadDueList p ps s).1.clock = s.clock ∧ (bodyReadDueList p ps s).1.run = s.run ∧
    (bodyReadDueList p ps s).1.containers = s.containers ∧ (bodyReadDueList p ps s).1.inlets = s.inlets ∧
    (bodyReadDueList p ps s).1.dueList = s.dueList ∧ (bodyReadDueList p ps s).1.cards = s.cards ∧
    (bodyReadDueList p ps s).1.journal = s.journal ∧ (bodyReadDueList p ps s).1.lift = s.lift ∧
    (bodyReadDueList p ps s).1.ports = s.ports ∧ (bodyReadDueList p ps s).1.outcomes = s.outcomes ∧
    (bodyReadDueList p ps s).1.wake = s.wake ∧ (bodyReadDueList p ps s).1.drawn = s.drawn ∧
    (bodyReadDueList p ps s).1.pending = s.pending := by
  simp only [bodyReadDueList]
  all_goals simp

@[simp] theorem reqClearHeat_body : reqClearHeat.body = bodyClearHeat := rfl

@[simp] theorem bodyClearHeat_frame (p : Port) (ps : List Byte) (s : State) :
    (bodyClearHeat p ps s).1.power = s.power ∧ (bodyClearHeat p ps s).1.now = s.now ∧
    (bodyClearHeat p ps s).1.lines = s.lines ∧ (bodyClearHeat p ps s).1.store = s.store ∧
    (bodyClearHeat p ps s).1.clock = s.clock ∧ (bodyClearHeat p ps s).1.run = s.run ∧
    (bodyClearHeat p ps s).1.inlets = s.inlets ∧ (bodyClearHeat p ps s).1.dueList = s.dueList ∧
    (bodyClearHeat p ps s).1.cards = s.cards ∧ (bodyClearHeat p ps s).1.journal = s.journal ∧
    (bodyClearHeat p ps s).1.lift = s.lift ∧ (bodyClearHeat p ps s).1.outcomes = s.outcomes ∧
    (bodyClearHeat p ps s).1.wake = s.wake ∧ (bodyClearHeat p ps s).1.drawn = s.drawn ∧
    (bodyClearHeat p ps s).1.pending = s.pending := by
  simp only [bodyClearHeat]
  repeat' split
  all_goals simp

@[simp] theorem reqReadInlet_body : reqReadInlet.body = bodyReadInlet := rfl

@[simp] theorem bodyReadInlet_frame (p : Port) (ps : List Byte) (s : State) :
    (bodyReadInlet p ps s).1.power = s.power ∧ (bodyReadInlet p ps s).1.now = s.now ∧
    (bodyReadInlet p ps s).1.lines = s.lines ∧ (bodyReadInlet p ps s).1.store = s.store ∧
    (bodyReadInlet p ps s).1.clock = s.clock ∧ (bodyReadInlet p ps s).1.run = s.run ∧
    (bodyReadInlet p ps s).1.containers = s.containers ∧ (bodyReadInlet p ps s).1.inlets = s.inlets ∧
    (bodyReadInlet p ps s).1.dueList = s.dueList ∧ (bodyReadInlet p ps s).1.cards = s.cards ∧
    (bodyReadInlet p ps s).1.journal = s.journal ∧ (bodyReadInlet p ps s).1.lift = s.lift ∧
    (bodyReadInlet p ps s).1.ports = s.ports ∧ (bodyReadInlet p ps s).1.outcomes = s.outcomes ∧
    (bodyReadInlet p ps s).1.wake = s.wake ∧ (bodyReadInlet p ps s).1.drawn = s.drawn ∧
    (bodyReadInlet p ps s).1.pending = s.pending := by
  simp only [bodyReadInlet]
  repeat' split
  all_goals simp

@[simp] theorem reqOpenInlet_body : reqOpenInlet.body = bodyOpenInlet := rfl

@[simp] theorem bodyOpenInlet_frame (p : Port) (ps : List Byte) (s : State) :
    (bodyOpenInlet p ps s).1.power = s.power ∧ (bodyOpenInlet p ps s).1.now = s.now ∧
    (bodyOpenInlet p ps s).1.lines = s.lines ∧ (bodyOpenInlet p ps s).1.store = s.store ∧
    (bodyOpenInlet p ps s).1.clock = s.clock ∧ (bodyOpenInlet p ps s).1.run = s.run ∧
    (bodyOpenInlet p ps s).1.containers = s.containers ∧ (bodyOpenInlet p ps s).1.dueList = s.dueList ∧
    (bodyOpenInlet p ps s).1.cards = s.cards ∧ (bodyOpenInlet p ps s).1.journal = s.journal ∧
    (bodyOpenInlet p ps s).1.lift = s.lift ∧ (bodyOpenInlet p ps s).1.ports = s.ports ∧
    (bodyOpenInlet p ps s).1.wake = s.wake ∧ (bodyOpenInlet p ps s).1.drawn = s.drawn ∧
    (bodyOpenInlet p ps s).1.pending = s.pending := by
  simp only [bodyOpenInlet]
  repeat' split
  all_goals simp

@[simp] theorem reqPutCard_body : reqPutCard.body = bodyPutCard := rfl

@[simp] theorem bodyPutCard_frame (p : Port) (ps : List Byte) (s : State) :
    (bodyPutCard p ps s).1.power = s.power ∧ (bodyPutCard p ps s).1.now = s.now ∧
    (bodyPutCard p ps s).1.lines = s.lines ∧ (bodyPutCard p ps s).1.store = s.store ∧
    (bodyPutCard p ps s).1.clock = s.clock ∧ (bodyPutCard p ps s).1.run = s.run ∧
    (bodyPutCard p ps s).1.containers = s.containers ∧ (bodyPutCard p ps s).1.inlets = s.inlets ∧
    (bodyPutCard p ps s).1.dueList = s.dueList ∧ (bodyPutCard p ps s).1.journal = s.journal ∧
    (bodyPutCard p ps s).1.lift = s.lift ∧ (bodyPutCard p ps s).1.ports = s.ports ∧
    (bodyPutCard p ps s).1.outcomes = s.outcomes ∧ (bodyPutCard p ps s).1.wake = s.wake ∧
    (bodyPutCard p ps s).1.drawn = s.drawn ∧ (bodyPutCard p ps s).1.pending = s.pending := by
  simp only [bodyPutCard, putNetwork]
  repeat' split
  all_goals simp

@[simp] theorem reqRemoveCard_body : reqRemoveCard.body = bodyRemoveCard := rfl

@[simp] theorem bodyRemoveCard_frame (p : Port) (ps : List Byte) (s : State) :
    (bodyRemoveCard p ps s).1.power = s.power ∧ (bodyRemoveCard p ps s).1.now = s.now ∧
    (bodyRemoveCard p ps s).1.lines = s.lines ∧ (bodyRemoveCard p ps s).1.store = s.store ∧
    (bodyRemoveCard p ps s).1.clock = s.clock ∧ (bodyRemoveCard p ps s).1.run = s.run ∧
    (bodyRemoveCard p ps s).1.containers = s.containers ∧ (bodyRemoveCard p ps s).1.inlets = s.inlets ∧
    (bodyRemoveCard p ps s).1.dueList = s.dueList ∧ (bodyRemoveCard p ps s).1.journal = s.journal ∧
    (bodyRemoveCard p ps s).1.lift = s.lift ∧ (bodyRemoveCard p ps s).1.ports = s.ports ∧
    (bodyRemoveCard p ps s).1.outcomes = s.outcomes ∧ (bodyRemoveCard p ps s).1.wake = s.wake ∧
    (bodyRemoveCard p ps s).1.drawn = s.drawn ∧ (bodyRemoveCard p ps s).1.pending = s.pending := by
  simp only [bodyRemoveCard]
  repeat' split
  all_goals simp

@[simp] theorem reqBlockCard_body : reqBlockCard.body = bodyBlockCard := rfl

@[simp] theorem bodyBlockCard_frame (p : Port) (ps : List Byte) (s : State) :
    (bodyBlockCard p ps s).1.power = s.power ∧ (bodyBlockCard p ps s).1.now = s.now ∧
    (bodyBlockCard p ps s).1.lines = s.lines ∧ (bodyBlockCard p ps s).1.store = s.store ∧
    (bodyBlockCard p ps s).1.clock = s.clock ∧ (bodyBlockCard p ps s).1.run = s.run ∧
    (bodyBlockCard p ps s).1.containers = s.containers ∧ (bodyBlockCard p ps s).1.inlets = s.inlets ∧
    (bodyBlockCard p ps s).1.dueList = s.dueList ∧ (bodyBlockCard p ps s).1.journal = s.journal ∧
    (bodyBlockCard p ps s).1.lift = s.lift ∧ (bodyBlockCard p ps s).1.ports = s.ports ∧
    (bodyBlockCard p ps s).1.outcomes = s.outcomes ∧ (bodyBlockCard p ps s).1.wake = s.wake ∧
    (bodyBlockCard p ps s).1.drawn = s.drawn ∧ (bodyBlockCard p ps s).1.pending = s.pending := by
  simp only [bodyBlockCard]
  repeat' split
  all_goals simp

@[simp] theorem reqClearCardTable_body : reqClearCardTable.body = bodyClearCardTable := rfl

@[simp] theorem bodyClearCardTable_frame (p : Port) (ps : List Byte) (s : State) :
    (bodyClearCardTable p ps s).1.power = s.power ∧ (bodyClearCardTable p ps s).1.now = s.now ∧
    (bodyClearCardTable p ps s).1.lines = s.lines ∧ (bodyClearCardTable p ps s).1.store = s.store ∧
    (bodyClearCardTable p ps s).1.clock = s.clock ∧ (bodyClearCardTable p ps s).1.run = s.run ∧
    (bodyClearCardTable p ps s).1.containers = s.containers ∧ (bodyClearCardTable p ps s).1.inlets = s.inlets ∧
    (bodyClearCardTable p ps s).1.dueList = s.dueList ∧ (bodyClearCardTable p ps s).1.journal = s.journal ∧
    (bodyClearCardTable p ps s).1.lift = s.lift ∧ (bodyClearCardTable p ps s).1.ports = s.ports ∧
    (bodyClearCardTable p ps s).1.outcomes = s.outcomes ∧ (bodyClearCardTable p ps s).1.wake = s.wake ∧
    (bodyClearCardTable p ps s).1.drawn = s.drawn ∧ (bodyClearCardTable p ps s).1.pending = s.pending := by
  simp only [bodyClearCardTable]
  all_goals simp

@[simp] theorem reqMarkTableLoaded_body : reqMarkTableLoaded.body = bodyMarkTableLoaded := rfl

@[simp] theorem bodyMarkTableLoaded_frame (p : Port) (ps : List Byte) (s : State) :
    (bodyMarkTableLoaded p ps s).1.power = s.power ∧ (bodyMarkTableLoaded p ps s).1.now = s.now ∧
    (bodyMarkTableLoaded p ps s).1.lines = s.lines ∧ (bodyMarkTableLoaded p ps s).1.store = s.store ∧
    (bodyMarkTableLoaded p ps s).1.clock = s.clock ∧ (bodyMarkTableLoaded p ps s).1.run = s.run ∧
    (bodyMarkTableLoaded p ps s).1.containers = s.containers ∧
    (bodyMarkTableLoaded p ps s).1.inlets = s.inlets ∧ (bodyMarkTableLoaded p ps s).1.dueList = s.dueList ∧
    (bodyMarkTableLoaded p ps s).1.journal = s.journal ∧ (bodyMarkTableLoaded p ps s).1.lift = s.lift ∧
    (bodyMarkTableLoaded p ps s).1.ports = s.ports ∧ (bodyMarkTableLoaded p ps s).1.outcomes = s.outcomes ∧
    (bodyMarkTableLoaded p ps s).1.wake = s.wake ∧ (bodyMarkTableLoaded p ps s).1.drawn = s.drawn ∧
    (bodyMarkTableLoaded p ps s).1.pending = s.pending := by
  simp only [bodyMarkTableLoaded]
  all_goals simp

@[simp] theorem reqReadCards_body : reqReadCards.body = bodyReadCards := rfl

@[simp] theorem bodyReadCards_frame (p : Port) (ps : List Byte) (s : State) :
    (bodyReadCards p ps s).1.power = s.power ∧ (bodyReadCards p ps s).1.now = s.now ∧
    (bodyReadCards p ps s).1.lines = s.lines ∧ (bodyReadCards p ps s).1.store = s.store ∧
    (bodyReadCards p ps s).1.clock = s.clock ∧ (bodyReadCards p ps s).1.run = s.run ∧
    (bodyReadCards p ps s).1.containers = s.containers ∧ (bodyReadCards p ps s).1.inlets = s.inlets ∧
    (bodyReadCards p ps s).1.dueList = s.dueList ∧ (bodyReadCards p ps s).1.cards = s.cards ∧
    (bodyReadCards p ps s).1.journal = s.journal ∧ (bodyReadCards p ps s).1.lift = s.lift ∧
    (bodyReadCards p ps s).1.outcomes = s.outcomes ∧ (bodyReadCards p ps s).1.wake = s.wake ∧
    (bodyReadCards p ps s).1.drawn = s.drawn ∧ (bodyReadCards p ps s).1.pending = s.pending := by
  simp only [bodyReadCards]
  all_goals simp

@[simp] theorem reqRewindCardCursor_body : reqRewindCardCursor.body = bodyRewindCardCursor := rfl

@[simp] theorem bodyRewindCardCursor_frame (p : Port) (ps : List Byte) (s : State) :
    (bodyRewindCardCursor p ps s).1.power = s.power ∧ (bodyRewindCardCursor p ps s).1.now = s.now ∧
    (bodyRewindCardCursor p ps s).1.lines = s.lines ∧ (bodyRewindCardCursor p ps s).1.store = s.store ∧
    (bodyRewindCardCursor p ps s).1.clock = s.clock ∧ (bodyRewindCardCursor p ps s).1.run = s.run ∧
    (bodyRewindCardCursor p ps s).1.containers = s.containers ∧
    (bodyRewindCardCursor p ps s).1.inlets = s.inlets ∧ (bodyRewindCardCursor p ps s).1.dueList = s.dueList ∧
    (bodyRewindCardCursor p ps s).1.cards = s.cards ∧ (bodyRewindCardCursor p ps s).1.journal = s.journal ∧
    (bodyRewindCardCursor p ps s).1.lift = s.lift ∧ (bodyRewindCardCursor p ps s).1.outcomes = s.outcomes ∧
    (bodyRewindCardCursor p ps s).1.wake = s.wake ∧ (bodyRewindCardCursor p ps s).1.drawn = s.drawn ∧
    (bodyRewindCardCursor p ps s).1.pending = s.pending := by
  simp only [bodyRewindCardCursor]
  all_goals simp

@[simp] theorem reqReadQueries_body : reqReadQueries.body = bodyReadQueries := rfl

@[simp] theorem bodyReadQueries_frame (p : Port) (ps : List Byte) (s : State) :
    (bodyReadQueries p ps s).1.power = s.power ∧ (bodyReadQueries p ps s).1.now = s.now ∧
    (bodyReadQueries p ps s).1.lines = s.lines ∧ (bodyReadQueries p ps s).1.store = s.store ∧
    (bodyReadQueries p ps s).1.clock = s.clock ∧ (bodyReadQueries p ps s).1.run = s.run ∧
    (bodyReadQueries p ps s).1.containers = s.containers ∧ (bodyReadQueries p ps s).1.inlets = s.inlets ∧
    (bodyReadQueries p ps s).1.dueList = s.dueList ∧ (bodyReadQueries p ps s).1.cards = s.cards ∧
    (bodyReadQueries p ps s).1.journal = s.journal ∧ (bodyReadQueries p ps s).1.lift = s.lift ∧
    (bodyReadQueries p ps s).1.ports = s.ports ∧ (bodyReadQueries p ps s).1.outcomes = s.outcomes ∧
    (bodyReadQueries p ps s).1.wake = s.wake ∧ (bodyReadQueries p ps s).1.drawn = s.drawn ∧
    (bodyReadQueries p ps s).1.pending = s.pending := by
  simp only [bodyReadQueries]
  all_goals simp

@[simp] theorem reqAnswerCard_body : reqAnswerCard.body = bodyAnswerCard := rfl

@[simp] theorem bodyAnswerCard_frame (p : Port) (ps : List Byte) (s : State) :
    (bodyAnswerCard p ps s).1.power = s.power ∧ (bodyAnswerCard p ps s).1.now = s.now ∧
    (bodyAnswerCard p ps s).1.lines = s.lines ∧ (bodyAnswerCard p ps s).1.store = s.store ∧
    (bodyAnswerCard p ps s).1.clock = s.clock ∧ (bodyAnswerCard p ps s).1.run = s.run ∧
    (bodyAnswerCard p ps s).1.containers = s.containers ∧ (bodyAnswerCard p ps s).1.dueList = s.dueList ∧
    (bodyAnswerCard p ps s).1.journal = s.journal ∧ (bodyAnswerCard p ps s).1.lift = s.lift ∧
    (bodyAnswerCard p ps s).1.ports = s.ports ∧ (bodyAnswerCard p ps s).1.wake = s.wake ∧
    (bodyAnswerCard p ps s).1.drawn = s.drawn ∧ (bodyAnswerCard p ps s).1.pending = s.pending := by
  simp only [bodyAnswerCard, addCarried, applyVerdict]
  repeat' split
  all_goals simp

@[simp] theorem reqReadJournal_body : reqReadJournal.body = bodyReadJournal := rfl

@[simp] theorem bodyReadJournal_frame (p : Port) (ps : List Byte) (s : State) :
    (bodyReadJournal p ps s).1.power = s.power ∧ (bodyReadJournal p ps s).1.now = s.now ∧
    (bodyReadJournal p ps s).1.lines = s.lines ∧ (bodyReadJournal p ps s).1.store = s.store ∧
    (bodyReadJournal p ps s).1.clock = s.clock ∧ (bodyReadJournal p ps s).1.run = s.run ∧
    (bodyReadJournal p ps s).1.containers = s.containers ∧ (bodyReadJournal p ps s).1.inlets = s.inlets ∧
    (bodyReadJournal p ps s).1.dueList = s.dueList ∧ (bodyReadJournal p ps s).1.cards = s.cards ∧
    (bodyReadJournal p ps s).1.journal = s.journal ∧ (bodyReadJournal p ps s).1.lift = s.lift ∧
    (bodyReadJournal p ps s).1.outcomes = s.outcomes ∧ (bodyReadJournal p ps s).1.wake = s.wake ∧
    (bodyReadJournal p ps s).1.drawn = s.drawn ∧ (bodyReadJournal p ps s).1.pending = s.pending := by
  simp only [bodyReadJournal]
  all_goals simp

@[simp] theorem reqRewindJournalCursor_body : reqRewindJournalCursor.body = bodyRewindJournalCursor := rfl

@[simp] theorem bodyRewindJournalCursor_frame (p : Port) (ps : List Byte) (s : State) :
    (bodyRewindJournalCursor p ps s).1.power = s.power ∧ (bodyRewindJournalCursor p ps s).1.now = s.now ∧
    (bodyRewindJournalCursor p ps s).1.lines = s.lines ∧ (bodyRewindJournalCursor p ps s).1.store = s.store ∧
    (bodyRewindJournalCursor p ps s).1.clock = s.clock ∧ (bodyRewindJournalCursor p ps s).1.run = s.run ∧
    (bodyRewindJournalCursor p ps s).1.containers = s.containers ∧
    (bodyRewindJournalCursor p ps s).1.inlets = s.inlets ∧
    (bodyRewindJournalCursor p ps s).1.dueList = s.dueList ∧
    (bodyRewindJournalCursor p ps s).1.cards = s.cards ∧
    (bodyRewindJournalCursor p ps s).1.journal = s.journal ∧ (bodyRewindJournalCursor p ps s).1.lift = s.lift ∧
    (bodyRewindJournalCursor p ps s).1.outcomes = s.outcomes ∧
    (bodyRewindJournalCursor p ps s).1.wake = s.wake ∧ (bodyRewindJournalCursor p ps s).1.drawn = s.drawn ∧
    (bodyRewindJournalCursor p ps s).1.pending = s.pending := by
  simp only [bodyRewindJournalCursor]
  all_goals simp

@[simp] theorem reqReleaseJournal_body : reqReleaseJournal.body = bodyReleaseJournal := rfl

@[simp] theorem bodyReleaseJournal_frame (p : Port) (ps : List Byte) (s : State) :
    (bodyReleaseJournal p ps s).1.power = s.power ∧ (bodyReleaseJournal p ps s).1.now = s.now ∧
    (bodyReleaseJournal p ps s).1.lines = s.lines ∧ (bodyReleaseJournal p ps s).1.store = s.store ∧
    (bodyReleaseJournal p ps s).1.clock = s.clock ∧ (bodyReleaseJournal p ps s).1.run = s.run ∧
    (bodyReleaseJournal p ps s).1.containers = s.containers ∧ (bodyReleaseJournal p ps s).1.inlets = s.inlets ∧
    (bodyReleaseJournal p ps s).1.dueList = s.dueList ∧ (bodyReleaseJournal p ps s).1.cards = s.cards ∧
    (bodyReleaseJournal p ps s).1.lift = s.lift ∧ (bodyReleaseJournal p ps s).1.ports = s.ports ∧
    (bodyReleaseJournal p ps s).1.outcomes = s.outcomes ∧ (bodyReleaseJournal p ps s).1.wake = s.wake ∧
    (bodyReleaseJournal p ps s).1.drawn = s.drawn ∧ (bodyReleaseJournal p ps s).1.pending = s.pending := by
  simp only [bodyReleaseJournal]
  repeat' split
  all_goals simp

@[simp] theorem reqAnnounce_body : reqAnnounce.body = bodyAnnounce := rfl

@[simp] theorem bodyAnnounce_frame (p : Port) (ps : List Byte) (s : State) :
    (bodyAnnounce p ps s).1.power = s.power ∧ (bodyAnnounce p ps s).1.now = s.now ∧
    (bodyAnnounce p ps s).1.lines = s.lines ∧ (bodyAnnounce p ps s).1.store = s.store ∧
    (bodyAnnounce p ps s).1.clock = s.clock ∧ (bodyAnnounce p ps s).1.run = s.run ∧
    (bodyAnnounce p ps s).1.containers = s.containers ∧ (bodyAnnounce p ps s).1.inlets = s.inlets ∧
    (bodyAnnounce p ps s).1.dueList = s.dueList ∧ (bodyAnnounce p ps s).1.cards = s.cards ∧
    (bodyAnnounce p ps s).1.journal = s.journal ∧ (bodyAnnounce p ps s).1.ports = s.ports ∧
    (bodyAnnounce p ps s).1.outcomes = s.outcomes ∧ (bodyAnnounce p ps s).1.wake = s.wake ∧
    (bodyAnnounce p ps s).1.drawn = s.drawn ∧ (bodyAnnounce p ps s).1.pending = s.pending := by
  simp only [bodyAnnounce]
  repeat' split
  all_goals simp

@[simp] theorem reqEndSession_body : reqEndSession.body = bodyEndSession := rfl

@[simp] theorem bodyEndSession_frame (p : Port) (ps : List Byte) (s : State) :
    (bodyEndSession p ps s).1.power = s.power ∧ (bodyEndSession p ps s).1.now = s.now ∧
    (bodyEndSession p ps s).1.lines = s.lines ∧ (bodyEndSession p ps s).1.store = s.store ∧
    (bodyEndSession p ps s).1.clock = s.clock ∧ (bodyEndSession p ps s).1.run = s.run ∧
    (bodyEndSession p ps s).1.containers = s.containers ∧ (bodyEndSession p ps s).1.inlets = s.inlets ∧
    (bodyEndSession p ps s).1.dueList = s.dueList ∧ (bodyEndSession p ps s).1.cards = s.cards ∧
    (bodyEndSession p ps s).1.journal = s.journal ∧ (bodyEndSession p ps s).1.outcomes = s.outcomes ∧
    (bodyEndSession p ps s).1.wake = s.wake ∧ (bodyEndSession p ps s).1.drawn = s.drawn ∧
    (bodyEndSession p ps s).1.pending = s.pending := by
  simp only [bodyEndSession]
  repeat' split
  all_goals simp

@[simp] theorem reqClaimLift_body : reqClaimLift.body = bodyClaimLift := rfl

@[simp] theorem bodyClaimLift_frame (p : Port) (ps : List Byte) (s : State) :
    (bodyClaimLift p ps s).1.power = s.power ∧ (bodyClaimLift p ps s).1.now = s.now ∧
    (bodyClaimLift p ps s).1.lines = s.lines ∧ (bodyClaimLift p ps s).1.store = s.store ∧
    (bodyClaimLift p ps s).1.clock = s.clock ∧ (bodyClaimLift p ps s).1.run = s.run ∧
    (bodyClaimLift p ps s).1.dueList = s.dueList ∧ (bodyClaimLift p ps s).1.cards = s.cards ∧
    (bodyClaimLift p ps s).1.journal = s.journal ∧ (bodyClaimLift p ps s).1.wake = s.wake ∧
    (bodyClaimLift p ps s).1.drawn = s.drawn ∧ (bodyClaimLift p ps s).1.pending = s.pending := by
  simp only [bodyClaimLift]
  repeat' split
  all_goals simp

@[simp] theorem reqCancelLift_body : reqCancelLift.body = bodyCancelLift := rfl

@[simp] theorem bodyCancelLift_frame (p : Port) (ps : List Byte) (s : State) :
    (bodyCancelLift p ps s).1.power = s.power ∧ (bodyCancelLift p ps s).1.now = s.now ∧
    (bodyCancelLift p ps s).1.lines = s.lines ∧ (bodyCancelLift p ps s).1.store = s.store ∧
    (bodyCancelLift p ps s).1.clock = s.clock ∧ (bodyCancelLift p ps s).1.run = s.run ∧
    (bodyCancelLift p ps s).1.inlets = s.inlets ∧ (bodyCancelLift p ps s).1.dueList = s.dueList ∧
    (bodyCancelLift p ps s).1.cards = s.cards ∧ (bodyCancelLift p ps s).1.journal = s.journal ∧
    (bodyCancelLift p ps s).1.outcomes = s.outcomes ∧ (bodyCancelLift p ps s).1.wake = s.wake ∧
    (bodyCancelLift p ps s).1.drawn = s.drawn ∧ (bodyCancelLift p ps s).1.pending = s.pending := by
  simp only [bodyCancelLift]
  repeat' split
  all_goals simp

@[simp] theorem reqReadLift_body : reqReadLift.body = bodyReadLift := rfl

@[simp] theorem bodyReadLift_frame (p : Port) (ps : List Byte) (s : State) :
    (bodyReadLift p ps s).1.power = s.power ∧ (bodyReadLift p ps s).1.now = s.now ∧
    (bodyReadLift p ps s).1.lines = s.lines ∧ (bodyReadLift p ps s).1.store = s.store ∧
    (bodyReadLift p ps s).1.clock = s.clock ∧ (bodyReadLift p ps s).1.run = s.run ∧
    (bodyReadLift p ps s).1.containers = s.containers ∧ (bodyReadLift p ps s).1.inlets = s.inlets ∧
    (bodyReadLift p ps s).1.dueList = s.dueList ∧ (bodyReadLift p ps s).1.cards = s.cards ∧
    (bodyReadLift p ps s).1.journal = s.journal ∧ (bodyReadLift p ps s).1.lift = s.lift ∧
    (bodyReadLift p ps s).1.ports = s.ports ∧ (bodyReadLift p ps s).1.outcomes = s.outcomes ∧
    (bodyReadLift p ps s).1.wake = s.wake ∧ (bodyReadLift p ps s).1.drawn = s.drawn ∧
    (bodyReadLift p ps s).1.pending = s.pending := by
  simp only [bodyReadLift]
  all_goals simp

end Sys2Proof.Machine
end

