-- ==== Sys2Proof/Laws/Receiver.lean ====
section
/-! SUPPORT. What taking a request, receiving bytes and answering leave of the state, whatever the request. -/

namespace Sys2Proof.Machine

/-- The fields that nothing a port receives can move: the supply, the time, the pins, the free values, the queue. -/
def SameOutside (s t : State) : Prop :=
  t.power = s.power ∧ t.now = s.now ∧ t.lines = s.lines ∧ t.drawn = s.drawn ∧ t.pending = s.pending

theorem SameOutside.refl (s : State) : SameOutside s s := ⟨rfl, rfl, rfl, rfl, rfl⟩

theorem SameOutside.trans {s t u : State} (h : SameOutside s t) (k : SameOutside t u) : SameOutside s u :=
  ⟨k.1.trans h.1, k.2.1.trans h.2.1, k.2.2.1.trans h.2.2.1, k.2.2.2.1.trans h.2.2.2.1, k.2.2.2.2.trans h.2.2.2.2⟩

theorem updPort_same (s : State) (p : Port) (f : PortBlock → PortBlock) : SameOutside s (s.updPort p f) :=
  ⟨rfl, rfl, rfl, rfl, rfl⟩

/-- No request's effect moves time, the supply, the pins, the queue or the free values. -/
theorem index_body_same {r : Request} (hr : r ∈ requestIndex) (p : Port) (ps : List Byte) (s : State) :
    SameOutside s (r.body p ps s).1 := by
  simp only [requestIndex, List.mem_cons, List.not_mem_nil, or_false] at hr
  rcases hr with rfl | rfl | rfl | rfl | rfl | rfl | rfl | rfl | rfl | rfl | rfl | rfl | rfl | rfl | rfl | rfl | rfl |
    rfl | rfl | rfl | rfl | rfl | rfl | rfl | rfl | rfl | rfl | rfl | rfl | rfl | rfl | rfl | rfl
  all_goals simp [SameOutside]

/-- The reply of a request that was carried out touches the ports alone. -/
theorem answerRequest_same (p : Port) (code tag : Byte) (r : State × Answer) :
    SameOutside r.1 (answerRequest p code tag r) := by
  unfold answerRequest
  split
  · exact updPort_same _ _ _
  · exact .refl _

theorem take_same {r : Request} (hr : r ∈ requestIndex) (p : Port) (tag : Byte) (ps : List Byte) (s : State) :
    SameOutside s (r.take p tag ps s) := by
  unfold Request.take
  split
  · exact updPort_same s p _ |>.trans (updPort_same _ p _)
  · exact (updPort_same s p _).trans ((index_body_same hr p ps _).trans (answerRequest_same p _ _ _))

theorem requestOf_mem {code : Byte} {r : Request} (h : requestOf code = some r) : r ∈ requestIndex :=
  List.mem_of_find?_eq_some h

theorem requestOf_code {code : Byte} {r : Request} (h : requestOf code = some r) : r.row.code = code := by
  simpa using List.find?_some h

theorem takeFrame_same (s : State) (p : Port) (code tag : Byte) (ps : List Byte) :
    SameOutside s (s.takeFrame p code tag ps) := by
  unfold State.takeFrame
  split
  · exact take_same (requestOf_mem ‹_›) p tag ps s
  · exact (updPort_same s p _).trans (updPort_same _ p _)

/-- What one received byte can do: it restarts the gap timer, and then it changes the receiver, or discards a frame,
or ends a good frame that is taken. -/
theorem receiveByte_cases (s : State) (p : Port) (b : RxByte) :
    s.receiveByte p b = s.startGap p ∨ (∃ r, s.receiveByte p b = (s.startGap p).setReceiver p r) ∨
    (∃ r, s.receiveByte p b = (s.startGap p).discardFrame p r) ∨
    ∃ code tag ps, s.receiveByte p b = ((s.startGap p).setReceiver p .hunting).takeFrame p code tag ps := by
  unfold State.receiveByte
  split
  · exact .inl rfl
  · split
    · split
      · exact .inr (.inl ⟨_, rfl⟩)
      · exact .inr (.inr (.inl ⟨_, rfl⟩))
    · exact .inl rfl
  · split
    · exact .inr (.inr (.inl ⟨_, rfl⟩))
    · unfold State.receiveFurther
      split
      · exact .inl rfl
      · split
        · exact .inr (.inr (.inl ⟨_, rfl⟩))
        · split
          · exact .inr (.inl ⟨_, rfl⟩)
          · split
            · exact .inr (.inr (.inr ⟨_, _, _, rfl⟩))
            · exact .inr (.inr (.inl ⟨_, rfl⟩))

theorem receiveByte_same (s : State) (p : Port) (b : RxByte) : SameOutside s (s.receiveByte p b) := by
  have hg : SameOutside s (s.startGap p) := updPort_same s p _
  rcases receiveByte_cases s p b with h | ⟨r, h⟩ | ⟨r, h⟩ | ⟨code, tag, ps, h⟩ <;> rw [h]
  · exact hg
  · exact hg.trans (updPort_same _ p _)
  · exact hg.trans (updPort_same _ p _)
  · exact hg.trans ((updPort_same _ p _).trans (takeFrame_same _ p code tag ps))

theorem receiveBytes_same (s : State) (p : Port) (bs : List RxByte) : SameOutside s (s.receiveBytes p bs) := by
  unfold State.receiveBytes
  induction bs generalizing s with
  | nil => exact .refl s
  | cons b bs ih => exact (receiveByte_same s p b).trans (ih _)

theorem receiveEvents_same (s : State) (p : Port) (bs : List RxByte) : SameOutside s (s.receiveEvents p bs) := by
  unfold State.receiveEvents
  induction bs generalizing s with
  | nil => exact .refl s
  | cons b bs ih =>
    exact (receiveByte_same s p b).trans (.trans (t := (s.receiveByte p b).judgeIdle) ⟨by simp, by simp, by simp, by simp, by simp⟩ (ih _))

theorem hold_same (s : State) (h : HeldCause) : SameOutside s (s.hold h) := by simp [SameOutside]

theorem receiveRun_same (s : State) (p : Port) (bs : List RxByte) : SameOutside s (s.receiveRun p bs) := by
  unfold State.receiveRun
  split
  · exact .refl s
  · split
    · exact receiveEvents_same s p bs
    · exact hold_same s _

theorem arrive_same {r : Request} (hr : r ∈ requestIndex) (p : Port) (tag : Byte) (ps : List Byte) (s : State) :
    SameOutside s (r.arrive p tag ps s) := by
  unfold Request.arrive
  split
  · exact (updPort_same s p _).trans (take_same hr p tag ps _)
  · exact receiveRun_same s p _

/-! ## At a listening port -/

theorem listening_iff (s : State) (p : Port) :
    s.listening p = true ↔ s.power = .running ∧ s.wake.state = .awake ∧ (s.port p).receiver = .hunting ∧
      (s.port p).state = .free := by
  simp [State.listening, State.attends, and_assoc]

theorem arrive_listening {s : State} {p : Port} (h : s.listening p = true) (r : Request) (tag : Byte) (ps : List Byte) :
    r.arrive p tag ps s = r.take p tag ps (s.startGap p) := by
  simp [Request.arrive, h]

@[simp] theorem whenRunning_running {s : State} (h : s.power = .running) (f : State → State) :
    whenRunning s f = .next (f s).judgeIdle := by simp [whenRunning, h]

end Sys2Proof.Machine
end

