-- ==== Sys2Proof/Laws/Exec.lean ====
section
/-! SUPPORT. The shape of every command: the supply's three, and the others, which take effect in a running part and
end in the judgement of the idle conditions. -/

namespace Sys2Proof.Machine

/-- The three commands of the supply (R175). -/
def Supply : Instr → Prop
  | .powerOnReset | .powerOnResetEnd _ _ | .powerLoss => True
  | _ => False

/-- Every command but the supply's is an effect of the running part. -/
theorem exec_whenRunning {c : Instr} (hc : ¬ Supply c) : ∃ f : State → State, ∀ s, exec c s = whenRunning s f := by
  cases c <;> first
    | exact absurd trivial hc
    | exact ⟨_, fun _ => rfl⟩

/-- The three outcomes of a command, in the states alone: the supply's, none without power, the judged effect. -/
theorem whenRunning_cases (s t : State) (f : State → State) (h : whenRunning s f = .next t) :
    (s.power ≠ .running ∧ t = s) ∨ (s.power = .running ∧ t = (f s).judgeIdle) := by
  unfold whenRunning at h
  split at h
  · next hp => exact .inr ⟨hp, (Host.Outcome.next.inj h).symm⟩
  · next hp => exact .inl ⟨hp, (Host.Outcome.next.inj h).symm⟩

end Sys2Proof.Machine
end

