-- ==== Sys2Proof/Laws/Memory.lean ====
section
/-! SUPPORT. The serial memory: a write leaves every other byte, the byte written reads back, and every operation keeps
the canonical form. -/

namespace Sys2Proof.Machine

/-! ## Reading after writing -/

theorem readByte_writeByte_other (m : List Host.Cell) {a b : Nat} (v : Byte) (h : b ≠ a) :
    readByte (writeByte m a v) b = readByte m b := by
  induction m with
  | nil => simp only [writeByte]; split <;> simp [readByte, Ne.symm h]
  | cons c rest ih =>
    simp only [writeByte]
    repeat' split
    all_goals grind [readByte]

/-- The addresses of a memory in canonical form rise. -/
theorem memoryWf_iff (m : List Host.Cell) :
    memoryWf m = true ↔ m.Pairwise (fun x y => x.1 < y.1) ∧ ∀ c ∈ m, c.1 < memorySize ∧ c.2 ≠ erasedByte := by
  simp [memoryWf]

theorem readByte_unlisted {m : List Host.Cell} {a : Nat} (h : ∀ c ∈ m, c.1 ≠ a) : readByte m a = erasedByte := by
  induction m with
  | nil => rfl
  | cons c rest ih =>
    rw [readByte, if_neg (h c (by simp)), ih fun d hd => h d (by simp [hd])]

theorem readByte_writeByte_same {m : List Host.Cell} (a : Nat) (v : Byte) (h : m.Pairwise fun x y => x.1 < y.1) :
    readByte (writeByte m a v) a = v := by
  induction m with
  | nil => simp only [writeByte]; split <;> simp_all [readByte]
  | cons c rest ih =>
    rw [List.pairwise_cons] at h
    simp only [writeByte]
    split
    · next hlt =>
      split
      · next hv =>
        rw [readByte_unlisted, hv]
        intro d hd
        rcases List.mem_cons.mp hd with rfl | hd
        · omega
        · have := h.1 d hd; omega
      · simp [readByte]
    · split
      · next heq =>
        split
        · next hv =>
          rw [readByte_unlisted, hv]
          intro d hd
          have := h.1 d hd; omega
        · simp [readByte]
      · next hne => rw [readByte, if_neg (Ne.symm hne), ih h.2]

/-- A run of bytes leaves every byte outside it. -/
theorem readByte_writeBytes_other (m : List Host.Cell) (a : Nat) (bs : List Byte) {b : Nat}
    (h : b < a ∨ a + bs.length ≤ b) : readByte (writeBytes m a bs) b = readByte m b := by
  induction bs generalizing m a with
  | nil => rfl
  | cons v bs ih =>
    simp only [List.length_cons] at h
    rw [writeBytes, ih _ _ (by omega), readByte_writeByte_other _ _ (by omega)]

/-! ## The canonical form -/

theorem writeByte_mem {m : List Host.Cell} {a : Nat} {v : Byte} {c : Host.Cell} (h : c ∈ writeByte m a v) :
    c ∈ m ∨ c = (a, v) ∧ v ≠ erasedByte := by
  induction m with
  | nil => simp only [writeByte] at h; split at h <;> simp_all
  | cons d rest ih =>
    simp only [writeByte] at h
    repeat' split at h
    all_goals simp only [List.mem_cons] at h ⊢
    all_goals grind

theorem writeByte_ascending {m : List Host.Cell} (a : Nat) (v : Byte) (h : m.Pairwise fun x y => x.1 < y.1) :
    (writeByte m a v).Pairwise fun x y => x.1 < y.1 := by
  induction m with
  | nil => simp only [writeByte]; split <;> simp
  | cons c rest ih =>
    have h2 := (List.pairwise_cons.mp h)
    simp only [writeByte]
    repeat' split
    · exact h
    · refine List.pairwise_cons.mpr ⟨?_, h⟩
      intro d hd
      rcases List.mem_cons.mp hd with rfl | hd
      · assumption
      · have := h2.1 d hd; simp only; omega
    · exact h2.2
    · refine List.pairwise_cons.mpr ⟨?_, h2.2⟩
      intro d hd; have := h2.1 d hd; simp only; omega
    · refine List.pairwise_cons.mpr ⟨?_, ih h2.2⟩
      intro d hd
      rcases writeByte_mem hd with hd | ⟨rfl, _⟩
      · exact h2.1 d hd
      · simp only; omega

/-- Writing a byte inside the memory keeps the canonical form. -/
theorem writeByte_wf {m : List Host.Cell} {a : Nat} (v : Byte) (ha : a < memorySize) (h : memoryWf m = true) :
    memoryWf (writeByte m a v) = true := by
  rw [memoryWf_iff] at h ⊢
  refine ⟨writeByte_ascending a v h.1, fun c hc => ?_⟩
  rcases writeByte_mem hc with hc | ⟨rfl, hv⟩
  · exact h.2 c hc
  · exact ⟨ha, hv⟩

/-- Writing a run of bytes inside the memory keeps the canonical form. -/
theorem writeBytes_wf {m : List Host.Cell} {a : Nat} (bs : List Byte) (ha : a + bs.length ≤ memorySize)
    (h : memoryWf m = true) : memoryWf (writeBytes m a bs) = true := by
  induction bs generalizing m a with
  | nil => exact h
  | cons v bs ih =>
    simp only [List.length_cons] at ha
    exact ih (by omega) (writeByte_wf v (by omega) h)

@[simp] theorem tornBytes_length (k a n : Nat) : (tornBytes k a n).length = n := by
  induction n generalizing a with
  | zero => rfl
  | succ n ih => simp [tornBytes, ih]

/-- Writes cut off at any point keep the canonical form, if none of them passes the end. -/
theorem tornMemory_wf {m : List Host.Cell} (k : Nat) {ws : List BlockWrite}
    (hw : ∀ w ∈ ws, w.offset + w.data.length ≤ memorySize) (h : memoryWf m = true) :
    memoryWf (tornMemory k m ws) = true := by
  induction ws generalizing m with
  | nil => exact h
  | cons w ws ih =>
    refine ih (fun x hx => hw x (by simp [hx])) (writeBytes_wf _ ?_ h)
    simpa using hw w (by simp)

/-- Writes cut off at any point leave every byte that none of them covers. -/
theorem readByte_tornMemory (k : Nat) (m : List Host.Cell) (ws : List BlockWrite) {a : Nat}
    (h : ∀ w ∈ ws, a < w.offset ∨ w.offset + w.data.length ≤ a) : readByte (tornMemory k m ws) a = readByte m a := by
  induction ws generalizing m with
  | nil => rfl
  | cons w ws ih =>
    rw [tornMemory, ih _ fun x hx => h x (by simp [hx]), readByte_writeBytes_other]
    simpa using h w (by simp)

/-- The memory of the reset state has the canonical form. -/
theorem reset_memory_wf : memoryWf State.reset.store.memory = true := rfl

end Sys2Proof.Machine
end

