-- ==== Sys2Proof/Laws/Records.lean ====
section
/-! SUPPORT. Records by their numbers: what an update of one record does to every record, the arbiter's choice, and the
records that the resets make. -/

namespace Sys2Proof.Machine

/-! ## One record changed -/

theorem updContainer_get (s : State) (c d : Nat) (f : Container → Container) :
    (s.updContainer c f).containers[d]? = (s.containers[d]?).map fun k => if c = d then f k else k := by
  simp only [State.updContainer, List.getElem?_modify]
  cases s.containers[d]? <;> simp

theorem updInlet_get (s : State) (i j : Nat) (f : Inlet → Inlet) :
    (s.updInlet i f).inlets[j]? = (s.inlets[j]?).map fun x => if i = j then f x else x := by
  simp only [State.updInlet, List.getElem?_modify]
  cases s.inlets[j]? <;> simp

theorem mapBoundInlets_get (s : State) (c j : Nat) (f : Inlet → Inlet) :
    (s.mapBoundInlets c f).inlets[j]? = (s.inlets[j]?).map fun x => if x.cfg.container = c then f x else x := by
  simp [State.mapBoundInlets]

/-- A record that is there is replaced in its place. -/
theorem modify_eq_set {α : Type} {l : List α} {i : Nat} {x : α} (f : α → α) (h : l[i]? = some x) :
    l.modify i f = l.set i (f x) := by
  apply List.ext_getElem?
  intro j
  rw [List.getElem?_modify, List.getElem?_set]
  by_cases hij : i = j
  · subst hij
    obtain ⟨hlt, hx⟩ := List.getElem?_eq_some_iff.mp h
    simp [hlt, hx]
  · simp [hij]

/-- The service state of a container after an update of one record. -/
theorem inState_eq (s : State) (c : Nat) (st : ServiceState) :
    s.inState c st = true ↔ ∃ k, s.containers[c]? = some k ∧ k.state = st := by
  unfold State.inState
  cases s.containers[c]? <;> simp

/-! ## The arbiter (R30) -/

/-- The chosen entry is a queued container's pair. -/
theorem chooseQueued_mem {n : Nat} {ks : List Container} {c : Nat} {p : Pair} (h : chooseQueued n ks = some (c, p)) :
    ∃ k, n ≤ c ∧ ks[c - n]? = some k ∧ k.pair = p ∧ p.queued = true := by
  induction ks generalizing n c p with
  | nil => simp [chooseQueued] at h
  | cons k ks ih =>
    have later : ∀ {m q}, chooseQueued (n + 1) ks = some (m, q) →
        ∃ k', n ≤ m ∧ (k :: ks)[m - n]? = some k' ∧ k'.pair = q ∧ q.queued = true := by
      intro m q hm
      obtain ⟨k', h1, h2, h3, h4⟩ := ih hm
      refine ⟨k', by omega, ?_, h3, h4⟩
      rw [show m - n = m - (n + 1) + 1 by omega]
      simpa using h2
    simp only [chooseQueued] at h
    split at h
    · exact later h
    · next hq _ =>
      simp only [Option.some.injEq, Prod.mk.injEq] at h
      obtain ⟨rfl, rfl⟩ := h
      exact ⟨k, by omega, by simp, rfl, hq⟩
    · next hq hm =>
      split at h
      · simp only [Option.some.injEq, Prod.mk.injEq] at h
        obtain ⟨rfl, rfl⟩ := h
        exact later hm
      · simp only [Option.some.injEq, Prod.mk.injEq] at h
        obtain ⟨rfl, rfl⟩ := h
        exact ⟨k, by omega, by simp, rfl, hq⟩

/-- Everything the arbiter can do: nothing, or the start of a queued container's measurement on a free front end. -/
theorem arbitrate_cases (s : State) :
    s.arbitrate = s ∨ ∃ c k, s.run = none ∧ s.containers[c]? = some k ∧ k.pair.queued = true ∧
      s.arbitrate = s.startMeasurement c k.pair := by
  unfold State.arbitrate
  split
  · next c p hr hc =>
    obtain ⟨k, _, h2, h3, h4⟩ := chooseQueued_mem hc
    exact .inr ⟨c, k, hr, by simpa using h2, by rw [h3]; exact h4, by rw [h3]⟩
  · exact .inl rfl

/-- What the arbiter leaves of one container's record: all but its pair, which starts or stays. -/
theorem arbitrate_record (s : State) {c : Nat} {k : Container} (h : s.containers[c]? = some k) :
    ∃ m, s.arbitrate.containers[c]? = some m ∧
      (m = k ∨ k.pair.queued = true ∧
        m = { k with pair := { k.pair with
          stage := if k.pair.stage = .secondQueued then .secondRunning else .firstRunning, entry := none } } ∧
        s.arbitrate.run = some (.started c (decide (k.pair.stage = .secondQueued)))) := by
  rcases arbitrate_cases s with ha | ⟨d, m, _, hm, hq, ha⟩ <;> rw [ha]
  · exact ⟨k, h, .inl rfl⟩
  · by_cases hcd : d = c
    · subst hcd
      rw [h] at hm
      obtain rfl := Option.some.inj hm
      refine ⟨_, ?_, .inr ⟨hq, rfl, ?_⟩⟩
      · simp [State.startMeasurement, updContainer_get, h]
      · simp [State.startMeasurement]
    · exact ⟨k, by simp [State.startMeasurement, updContainer_get, h, hcd], .inl rfl⟩

@[simp] theorem updContainer_length (s : State) (c : Nat) (f : Container → Container) :
    (s.updContainer c f).containers.length = s.containers.length := by simp [State.updContainer]

@[simp] theorem arbitrate_length (s : State) : s.arbitrate.containers.length = s.containers.length := by
  rcases arbitrate_cases s with ha | ⟨d, m, _, _, _, ha⟩ <;> rw [ha]
  simp [State.startMeasurement]

@[simp] theorem allDue_length (s : State) : s.allDue.containers.length = s.containers.length := by simp [State.allDue]

theorem allDue_get (s : State) (c : Nat) :
    s.allDue.containers[c]? = (s.containers[c]?).map fun k => ({ k with nextDue := s.now }).takeDue s.now := by
  simp [State.allDue]

/-! ## The field lines (R7, R72) -/

theorem lidsMoved_get (s : State) (l : FieldLines) (n : Nat) (xs : List Inlet) (i : Nat) :
    (lidsMoved s l n xs)[i]? = (xs[i]?).map fun x =>
      { x with
        rejectStart := atChange (l.lid.getLsbD (n + i) != s.lines.lid.getLsbD (n + i)) (s.lidOff l (n + i) x)
          x.rejectStart s.now } := by
  induction xs generalizing n i with
  | nil => simp [lidsMoved]
  | cons x xs ih =>
    cases i with
    | zero => simp [lidsMoved]
    | succ i => simp [lidsMoved, ih, Nat.add_assoc, Nat.add_comm 1 i]

theorem seatsMoved_get (s : State) (l : FieldLines) (n : Nat) (ks : List Container) (c : Nat) :
    (seatsMoved s l n ks)[c]? = (ks[c]?).map fun k =>
      { k with
        seatHold := atChange (l.seat.getLsbD (n + c) != s.lines.seat.getLsbD (n + c)) (s.seatOff l (n + c) k)
          k.seatHold s.now } := by
  induction ks generalizing n c with
  | nil => simp [seatsMoved]
  | cons k ks ih =>
    cases c with
    | zero => simp [seatsMoved]
    | succ c => simp [seatsMoved, ih, Nat.add_assoc, Nat.add_comm 1 c]

/-- Everything a move of the field lines does to one inlet's record. -/
theorem withLines_inlet (s : State) (l : FieldLines) (i : Nat) :
    (s.withLines l).inlets[i]? = (s.inlets[i]?).map fun x =>
      { x with
        rejectStart := atChange (l.lid.getLsbD i != s.lines.lid.getLsbD i) (s.lidOff l i x) x.rejectStart s.now } := by
  simp [State.withLines, lidsMoved_get]

/-- Everything a move of the field lines does to one container's record. -/
theorem withLines_container (s : State) (l : FieldLines) (c : Nat) :
    (s.withLines l).containers[c]? = (s.containers[c]?).map fun k =>
      { k with
        seatHold := atChange (l.seat.getLsbD c != s.lines.seat.getLsbD c) (s.seatOff l c k) k.seatHold s.now } := by
  simp [State.withLines, seatsMoved_get]

/-- Levels that stand move nothing: no debouncer sees a change. -/
@[simp] theorem withLines_same (s : State) : s.withLines s.lines = s := by
  have h : ∀ n xs, lidsMoved s s.lines n xs = xs := by
    intro n xs
    induction xs generalizing n with
    | nil => rfl
    | cons x xs ih => simp [lidsMoved, atChange, ih]
  have k : ∀ n ks, seatsMoved s s.lines n ks = ks := by
    intro n ks
    induction ks generalizing n with
    | nil => rfl
    | cons x xs ih => simp [seatsMoved, atChange, ih]
  simp [State.withLines, h, k]

@[simp] theorem withLines_lengths (s : State) (l : FieldLines) :
    (s.withLines l).containers.length = s.containers.length ∧ (s.withLines l).inlets.length = s.inlets.length := by
  have h : ∀ n xs, (lidsMoved s l n xs).length = xs.length := by
    intro n xs
    induction xs generalizing n with
    | nil => rfl
    | cons x xs ih => simp [lidsMoved, ih]
  have k : ∀ n ks, (seatsMoved s l n ks).length = ks.length := by
    intro n ks
    induction ks generalizing n with
    | nil => rfl
    | cons x xs ih => simp [seatsMoved, ih]
  exact ⟨k _ _, h _ _⟩

/-- What the records of a list give, each by its number. -/
theorem mem_eachOf {α β : Type} (f : Nat → α → List β) (n : Nat) (xs : List α) (b : β) :
    b ∈ eachOf f n xs ↔ ∃ i x, xs[i]? = some x ∧ b ∈ f (n + i) x := by
  induction xs generalizing n with
  | nil => simp [eachOf]
  | cons x xs ih =>
    simp only [eachOf, List.mem_append, ih]
    constructor
    · rintro (h | ⟨i, y, hy, h⟩)
      · exact ⟨0, x, rfl, h⟩
      · exact ⟨i + 1, y, hy, by rwa [show n + (i + 1) = n + 1 + i by omega]⟩
    · rintro ⟨i, y, hy, h⟩
      cases i with
      | zero => cases hy; exact .inl h
      | succ i => exact .inr ⟨i, y, hy, by rwa [show n + 1 + i = n + (i + 1) by omega]⟩

/-- Where no change has stood out its interval, none is accepted. -/
theorem acceptStood_of_none (s : State) (hl : eachOf s.stoodLid 0 s.inlets = [])
    (hs : eachOf s.stoodSeat 0 s.containers = []) : s.acceptStood = s := by
  simp [State.acceptStood, hl, hs]

/-! ## Records that the resets make -/

theorem freshContainers_get (l : FieldLines) (now n : Nat) (gs : List ContainerSettings) (c : Nat) :
    (freshContainers l now n gs)[c]? = (gs[c]?).map fun g => freshContainer g (seatLevel l (n + c)) now := by
  induction gs generalizing n c with
  | nil => simp [freshContainers]
  | cons g gs ih =>
    cases c with
    | zero => simp [freshContainers]
    | succ c => simp [freshContainers, ih, Nat.add_assoc, Nat.add_comm 1 c]

theorem freshInlets_get (l : FieldLines) (now n : Nat) (gs : List InletSettings) (i : Nat) :
    (freshInlets l now n gs)[i]? = (gs[i]?).map fun g => freshInlet g (lidLevel l (n + i) g) now := by
  induction gs generalizing n i with
  | nil => simp [freshInlets]
  | cons g gs ih =>
    cases i with
    | zero => simp [freshInlets]
    | succ i => simp [freshInlets, ih, Nat.add_assoc, Nat.add_comm 1 i]

/-- A configuration restart's record is the power-on record, with the service state and the hot flag of the number's old
record where there is one (R18). -/
theorem rebuiltContainers_get (l : FieldLines) (now n : Nat) (ks : List Container) (gs : List ContainerSettings)
    (c : Nat) :
    (rebuiltContainers l now n ks gs)[c]? = (gs[c]?).map fun g =>
      match ks[c]? with
      | none => freshContainer g (seatLevel l (n + c)) now
      | some k => { freshContainer g (seatLevel l (n + c)) now with state := k.state, hot := k.hot } := by
  induction gs generalizing n ks c with
  | nil => cases ks <;> simp [rebuiltContainers]
  | cons g gs ih =>
    cases ks with
    | nil =>
      cases c with
      | zero => simp [rebuiltContainers]
      | succ c => simp [rebuiltContainers, ih, Nat.add_assoc, Nat.add_comm 1 c]
    | cons k ks =>
      cases c with
      | zero => simp [rebuiltContainers]
      | succ c => simp [rebuiltContainers, ih, Nat.add_assoc, Nat.add_comm 1 c]

theorem freshContainers_length (l : FieldLines) (now n : Nat) (gs : List ContainerSettings) :
    (freshContainers l now n gs).length = gs.length := by
  induction gs generalizing n with
  | nil => rfl
  | cons g gs ih => simp [freshContainers, ih]

theorem freshInlets_length (l : FieldLines) (now n : Nat) (gs : List InletSettings) :
    (freshInlets l now n gs).length = gs.length := by
  induction gs generalizing n with
  | nil => rfl
  | cons g gs ih => simp [freshInlets, ih]

theorem rebuiltContainers_length (l : FieldLines) (now n : Nat) (ks : List Container) (gs : List ContainerSettings) :
    (rebuiltContainers l now n ks gs).length = gs.length := by
  induction gs generalizing n ks with
  | nil => cases ks <;> rfl
  | cons g gs ih => cases ks <;> simp [rebuiltContainers, ih]

end Sys2Proof.Machine
end

