-- ==== Sys2Proof/WellFormed.lean ====
section
/-! DEFINITION. Which commands the spec knows: checks on a command's operands alone. -/

namespace Sys2Proof

/-- A frame has at most 246 parameter bytes (R153). -/
def paramsFit (params : List Byte) : Bool := decide (params.length ≤ 246)

/-- A received run is one whole good request frame: each byte free of framing errors, a right check (R153, R154). -/
def isGoodFrame (bytes : List RxByte) : Bool :=
  bytes.all (fun b => !b.framingError) && (parseRequestFrame (bytes.map RxByte.val)).isSome

/-- Crossings are told in the order in which they happen. -/
def EchoSignal.ordered (e : EchoSignal) : Bool := decide (e.crossings.Pairwise (· < ·))

/-- A reference phase that ended did so within 100 ms (R20). -/
def Conversion.inTime : Conversion → Bool
  | .overrun => true
  | .cycles gate _ => decide (gate ≤ 100000)

/-- A command is well formed when it is one the rules speak of: a request that fits a frame, an unknown code that
is unknown (R157), a bad frame that has bytes and is not a good one (R156), a gate time within 100 ms (R20), crossings
in their order (R21). The other commands have no ill-formed operands. -/
def Instr.wellFormed : Instr → Bool
  | .readStatus _ _ ps | .acknowledgeAttention _ _ ps | .setAttentionMask _ _ ps | .readClock _ _ ps
  | .setClock _ _ ps | .restart _ _ ps _ | .writeImageBlock _ _ ps | .applyConfiguration _ _ ps
  | .readContainer _ _ ps | .suspendContainer _ _ ps | .resumeContainer _ _ ps | .measureNow _ _ ps
  | .readDueList _ _ ps | .clearHeat _ _ ps | .readInlet _ _ ps | .openInlet _ _ ps | .putCard _ _ ps
  | .removeCard _ _ ps | .blockCard _ _ ps | .clearCardTable _ _ ps | .markTableLoaded _ _ ps
  | .readCards _ _ ps | .rewindCardCursor _ _ ps | .readQueries _ _ ps | .answerCard _ _ ps
  | .readJournal _ _ ps | .rewindJournalCursor _ _ ps | .releaseJournal _ _ ps | .announce _ _ ps
  | .endSession _ _ ps | .claimLift _ _ ps | .cancelLift _ _ ps | .readLift _ _ ps => paramsFit ps
  | .unknownRequestCode _ code _ ps => paramsFit ps && !requestCodes.contains code
  | .badFrame _ bytes => !bytes.isEmpty && !isGoodFrame bytes
  | .measurementCompletion c e => c.inTime && e.ordered
  | .powerOnReset | .powerOnResetEnd _ _ | .resetLineAssertion _ | .writeCompletion | .writerIdleExpiry
  | .applyCheckCompletion _ | .gapTimerExpiry _ | .replySent _ | .cardRead _ _ | .queryWaitExpiry _
  | .windowExpiry _ | .lidOpening _ | .lidClosing _ | .lidOpenLimitExpiry _ | .serviceTimerExpiry _
  | .unseat _ | .reseat _ | .dueEvent _ | .spacingExpiry _ | .lidWaitExpiry | .releaseWaitExpiry
  | .carrierChange _ | .carrierLoss | .clockCount | .idleTimerExpiry | .wakeTimerExpiry
  | .receiveActivityInDoze _ | .wakeSettlingEnd _ _ | .powerLoss => true

end Sys2Proof
end

