-- ==== Sys2Proof/Tests/Slice0.lean ====
section
/-! SUPPORT. Our own tests: the well-formedness checks, the manual's worked examples, and a concrete state and operands for
the hypotheses of every statement. Expected values are the manual's, or counted by hand from its rules. -/

open Sys2Proof Sys2Proof.Machine

namespace Sys2Proof.Tests

/-! ## A small station -/

/-- The settings of a demonstration container: floor 2,100 mm, blanking 250 mm, as in the manual's examples. -/
def boxSettings (bound : List Nat) : ContainerSettings :=
  { fraction := 2, shape := 0, floor := 2100, blanking := 250, floorBand := 60, confirmBand := 30, pingMinutes := 60
    dueAt := 750, fullAt := 950, heatLimit := 60, riseLimit := 8, bound := bound }

/-- The settings of a demonstration inlet. -/
def flapSettings (c : Nat) : InletSettings :=
  { container := c, nominal := 60, windowSeconds := 10, limitSeconds := 60, activeHigh := true, width := .ms16
    reader := true }

/-- The thermistor table of R42's example. -/
def table42 : List (Nat × Int) :=
  [(7936, -40), (4740, -20), (2939, 0), (1885, 20), (1246, 40), (847, 60), (590, 80), (305, 120), (170, 160)]

/-- A station of two containers and three inlets. -/
def demoConfig : StationConfig :=
  { version := 1, periodDays := 7, dozePermitted := true, dozeSeconds := 10, queryWaitSeconds := 4, queryEnabled := true
    fallbackOpen := 0x04, containers := [boxSettings [0], boxSettings [1, 2]]
    inlets := [flapSettings 0, flapSettings 1, flapSettings 1], thermistor := table42
    shapes := [[(0, 0), (2000, 3000)]], vehicles := [⟨12, 0x04⟩] }

/-- The station at rest: seated, SERVING, LOCKED, AWAKE, nothing queued. -/
def demo : State :=
  { State.reset with
    store := { State.reset.store with running := some demoConfig }
    containers := [freshContainer (boxSettings [0]) true 0, freshContainer (boxSettings [1, 2]) true 0]
    inlets := [freshInlet (flapSettings 0) false 0, freshInlet (flapSettings 1) false 0, freshInlet (flapSettings 1) false 0] }

/-- The station with container 0's record changed. -/
def box (f : Container → Container) : State := demo.updContainer 0 f

/-- The station with inlet 0's record changed. -/
def flap (f : Inlet → Inlet) : State := demo.updInlet 0 f

/-- A resident's card entry. -/
def resident : Card := ⟨5, 9, .resident, false, 0x04, 2, 0, 0, none⟩

/-- The station with a loaded table of one resident. -/
def carded : State := { demo with cards := ⟨[resident], true, 0⟩ }

/-- A session of vehicle 12 with no claim. -/
def session : Session := ⟨12, 0x04, 0, none⟩

/-- The station with a session. -/
def called : State := { demo with lift := { demo.lift with session := some session, carrier := true } }

/-- The station with container 0 in a state of the lift protocol. -/
def lifting (st : ServiceState) : State :=
  { box (fun k => { k with state := st, note := some ⟨none, none, none⟩ }) with
    lift := { demo.lift with
      session := some { session with claimed := some 0 }, carrier := true, lidWait := some 60000
      releaseWait := some 180000 } }

/-- The station with a measurement running for container 0. -/
def measuring (second : Bool) (p : Pair) : State :=
  { box (fun k => { k with pair := p }) with run := some (.started 0 second) }

/-- A pair whose first measurement runs. -/
def firstPair (cls : PairClass) : Pair := ⟨.firstRunning, some cls, none, none, none, none⟩

/-- A pair whose second measurement runs, after a first reading of 853 mm. -/
def secondPair (cls : PairClass) (attempt : Option Nat) : Pair := ⟨.secondRunning, some cls, none, some 853, none, attempt⟩

/-- The manual's echo: N_s = 3,500 and t = 7,250 µs, so T_half = 42, d = 1,247 and H = 853 (R43, R46, R47). -/
def echo853 : EchoSignal := ⟨false, [7250]⟩

/-- No crossing. -/
def silence : EchoSignal := ⟨false, []⟩

/-- The station dozing, with a wake timer. -/
def dozing : State := { demo with wake := ⟨.doze, none, some 3400000, none, []⟩ }

/-- The station settling after a wake cause. -/
def waking (hs : List HeldCause) : State := { demo with wake := ⟨.waking, none, none, some 2, hs⟩ }

/-- The station of the worked case of R52: container 0 with the shape table of C = 4,350 L, at its second measurement. -/
def adopting : State :=
  { measuring true (⟨.secondRunning, some .demand, none, some 861, none, none⟩) with
    store := { demo.store with running := some { demoConfig with
      shapes := [[(0, 0), (300, 420), (600, 1100), (900, 1880), (1200, 2660), (1500, 3440), (1850, 4350)]] } }
    clock := ⟨4121840, true, 1000⟩
    containers := (measuring true (⟨.secondRunning, some .demand, none, some 861, none, none⟩)).containers.modify 0 fun k =>
      { k with level := some ⟨1020, 2192, 503, 38, 4118200, false⟩, added := 960, levelStatus := .unsure, mismatches := 6 } }

/-- A claimed container whose first measurement runs as DEMAND. -/
def heated : State := (lifting .claimed).updContainer 0 fun k => { k with pair := firstPair .demand }

/-- A counted opening in progress at inlet 0, as in the example of R84. -/
def depositing : State :=
  { carded with
    cards := ⟨[{ resident with used := 2 }], true, 0⟩
    containers := (box fun k => { k with added := 300 }).containers
    inlets := (flap fun x =>
      { openedInlet x ⟨.card, some 5, some 9, false⟩ 0 with
        state := .inUse, windowTimer := none, lidOpen := true, lid := some ⟨.window, 0⟩, limitTimer := some 60000 }).inlets }

/-- The state after a command. -/
def after (c : Instr) (s : State) : State :=
  match exec c s with
  | .next t => t
  | .fault _ => s
  | .refused _ => s

/-! ## Well-formedness and decoding -/

theorem test_too_many_params : (Instr.readStatus .network 0 (List.replicate 247 0)).wellFormed = false := by
  simp only [Instr.wellFormed, paramsFit, List.length_replicate]
  decide
theorem test_known_code_is_not_unknown : (Instr.unknownRequestCode .network 0x13 0 []).wellFormed = false := by decide
theorem test_unknown_code_too_long :
    (Instr.unknownRequestCode .network 0x99 0 (List.replicate 247 0)).wellFormed = false := by
  simp only [Instr.wellFormed, paramsFit, List.length_replicate]
  decide
theorem test_bad_frame_has_bytes : (Instr.badFrame .network []).wellFormed = false := by decide
theorem test_good_frame_is_not_bad :
    (Instr.badFrame .network ([0xA5, 0x03, 0x13, 0x07, 0x02, 0xE1].map fun b => ⟨b, false⟩)).wellFormed = false := by
  decide
theorem test_crossings_in_order :
    (Instr.measurementCompletion .overrun ⟨false, [7, 7]⟩).wellFormed = false := by decide
theorem test_gate_in_time :
    (Instr.measurementCompletion (.cycles 100001 3500) ⟨false, []⟩).wellFormed = false ∧
    (Instr.measurementCompletion (.cycles 100000 3500) ⟨false, []⟩).wellFormed = true := by decide
theorem test_well_formed :
    (Instr.measureNow .network 7 [2]).wellFormed = true ∧ (Instr.unknownRequestCode .network 0x99 0 []).wellFormed = true ∧
    (Instr.badFrame .network [⟨0xA5, true⟩]).wellFormed = true := by decide

/-- No row of the table has bits (log entry 23). -/
theorem test_table_words_spell_nothing (n w : Nat) : decodeTableWord n w = none ∧ demo.withFetchWord n w = demo :=
  ⟨rfl, rfl⟩

/-- The state after power-on reset over an unwritten memory is State.reset (R175, R176). -/
theorem test_reset : after (.powerOnResetEnd ⟨0xFF, 0⟩ false) (after .powerOnReset State.reset) = State.reset := by decide

/-! ## The manual's worked figures -/

/-- The worked temperatures after R44. -/
theorem test_temperatures :
    [3500, 699, 8192, 400, 30000].map (fun ns => temperature table42 (thermistorRatio ns)) =
      [(42, false), (-28, false), (91, false), (-40, true), (160, true)] ∧
    conversionResult (.cycles 81920 100) = .openCircuit := by decide

/-- The table after R45. -/
theorem test_speeds : [-80, -50, 0, 30, 42, 50, 160].map speedOfSound = [3071, 3161, 3313, 3404, 3440, 3465, 3798] := by
  decide

/-- The examples of R46 and the blanking time of R21. -/
theorem test_distances : distance 7250 3440 = 1247 ∧ distance 10000 3443 = 1722 ∧ blankingTime 250 = 1316 := by decide

/-- The worked fill heights after R47. -/
theorem test_heights :
    fillHeight 1247 250 2100 false = some (853, false) ∧ fillHeight 226 250 2100 true = some (1850, true) ∧
    fillHeight 239 250 2100 false = some (1850, true) ∧ fillHeight 2116 250 2100 false = some (0, false) ∧
    fillHeight 2408 250 2100 false = none := by decide

/-- The period index at the turn of a week (R114). -/
theorem test_periods : computedPeriod 1209599 7 = 1 ∧ computedPeriod 1209600 7 = 2 := by decide

/-! ## The manual's examples of commands -/

/-- Suspend Container (the example after R14): the window at the bound inlet ends, the added volume is kept. -/
theorem test_suspend :
    let t := after (.suspendContainer .service 1 [0])
      ({ box (fun k => { k with added := 140 }) with inlets := (flap (fun x => openedInlet x ⟨.card, some 5, some 9, false⟩ 0)).inlets })
    (t.containers[0]?.map fun k => (k.state, k.added)) = some (.suspended, 140) ∧
    (t.inlets[0]?.map fun x => (x.state, x.window)) = some (.locked, none) ∧
    (t.port .service).state = .replying [0x5A, 0x03, 0x11, 0x01, 0x00, 0xEB] := by decide

/-- Measure Now in AWAIT_SECOND (the example after R34): the class alone changes. -/
theorem test_measure_now :
    (after (.measureNow .vehicle 7 [0]) (box fun k =>
      { k with pair := ⟨.awaitSecond, some .scheduled, none, some 1204, some 900, none⟩ })).containers[0]?.map
        Container.pair = some ⟨.awaitSecond, some .demand, none, some 1204, some 900, none⟩ := by decide

/-- The worked adoption of R52: first 861 mm, second t = 7,250 µs at T_half 42. -/
theorem test_adoption :
    (after (.measurementCompletion (.cycles 81920 3500) echo853) adopting).containers[0]?.map (fun k =>
      (k.level, k.added, k.floorRef, k.levelStatus, k.mismatches)) =
      some (some ⟨853, 1757, 403, 42, 4121840, false⟩, 0, 2100, .good, 0) := by decide +kernel

/-- Heat (the worked sequence of R67): 116 after 95 within half an hour is a rise of 21 against a limit of 20. The claim
is withdrawn and the next event is a minute ahead (R32, R68, R148). -/
theorem test_heat :
    (heated.becomeHot 0).containers[0]?.map (fun k => (k.hot, k.state, k.pair.cls, k.nextDue)) =
      some (true, .serving, some .demand, 60000) ∧
    (heated.becomeHot 0).lift.last = some ⟨0, .hot, 0⟩ ∧
    (Container.heatCondition { freshContainer { boxSettings [0] with riseLimit := 10 } true 0 with
      lastTemp := some ⟨95, false, 0⟩ } 116 60000) = true := by decide

/-- Clear Heat (the example after R70): T_half 98 against a clear level of 100; and 105 is above it. -/
theorem test_clear_heat :
    let hot := fun t => after (.clearHeat .network 1 [0]) (box fun k =>
      { k with hot := true, tempStatus := .valid, lastTemp := some ⟨t, false, 0⟩ })
    (hot 98).containers[0]?.map (fun k => (k.hot, k.nextDue)) = some (false, 3600000) ∧
    ((hot 98).port .vehicle).flags.getLsbD 6 = true ∧
    (hot 105).containers[0]?.map Container.hot = some true := by decide

/-- A deposit is counted (the example after R84). -/
theorem test_deposit :
    let t := after (.lidClosing 0) depositing
    (t.inlets[0]?.map fun x => (x.state, x.window, x.lidOpen)) = some (.locked, none, false) ∧
    t.cards.entries.map Card.used = [3] ∧ t.containers[0]?.map Container.added = some 360 ∧
    t.journal.entries.map JournalEntry.body = [.deposit 5 (some 9) false] := by decide

/-- Open Inlet over a waiting query (the example after R89). -/
theorem test_open_inlet :
    let t := after (.openInlet .service 1 [0]) (flap fun x => { x with slot := some 5880112, query := some ⟨5880112, 0, 4000⟩ })
    (t.inlets[0]?.map fun x => (x.state, x.slot, x.query, x.serviceTimer)) = some (.serviceOpen, none, none, some 300000) ∧
    t.outcomes = [(0, .busy)] := by decide

/-- Put Card keeps the counts of the entry that it replaces (the example after R96). -/
theorem test_put_card :
    (after (.putCard .network 1 (cardBytes { resident with number := 318044, quota := 14 }))
      { demo with cards := ⟨[{ resident with number := 318044, quota := 10, used := 10 }], true, 0⟩ }).cards.entries =
        [{ resident with number := 318044, quota := 14, used := 10 }] := by decide

/-- The service port's temporary card (the example after R97), and past three days of the clock. -/
theorem test_temporary_card :
    let clocked : State := { carded with clock := ⟨4200000, true, 1000⟩ }
    let card := fun e => (⟨60000017, 9, .temporary, false, 0x08, 255, 0, 0, some e⟩ : Card)
    (after (.putCard .service 1 (cardBytes (card 4286400))) clocked).cards.entries = [resident, card 4286400] ∧
    (after (.putCard .service 1 (cardBytes (card 4459201))) clocked).cards.entries = [resident] := by decide

/-- The decisions at one inlet (the example after R106). -/
theorem test_decisions :
    let rows : List Card :=
      [⟨44100, 1, .resident, false, 0x04, 3, 2, 0, none⟩, ⟨44200, 1, .temporary, false, 0x04, 255, 0, 0, some 4190000⟩,
       ⟨44300, 1, .resident, false, 0x08, 255, 0, 0, none⟩, ⟨44400, 1, .service, false, 0x01, 255, 0, 0, none⟩]
    let s : State := { flap (fun x => openedInlet x ⟨.card, some 44100, some 1, false⟩ 0) with
      cards := ⟨rows, true, 0⟩, clock := ⟨4200000, true, 1000⟩ }
    [44100, 44200, 44300, 44400, 44999].map (fun n => (after (.cardRead 1 (BitVec.ofNat 40 n)) s).outcomes) =
      [[(1, .quota)], [(1, .expired)], [(1, .noRight)], [(1, .accept)], []] ∧
    (after (.cardRead 1 44999) s).inlets[1]?.map Inlet.slot = some (some 44999) := by decide

/-- Answer Card with a carried entry (the example after R112). -/
theorem test_answer_card :
    let t := after (.answerCard .network 1 ([1] ++ be 5 9001455 ++ [1] ++ cardBytes { resident with number := 9001455 }))
      { carded with inlets := (demo.updInlet 1 fun x => { x with slot := some 9001455, query := some ⟨9001455, 0, 4000⟩ }).inlets }
    t.cards.entries.map Card.number = [5, 9001455] ∧ t.outcomes = [(1, .accept)] ∧
    t.inlets[1]?.map (fun x => (x.state, x.slot)) = some (.unlocked, none) := by decide

/-- The roll at the turn of a period (the example after R116). -/
theorem test_roll :
    let s : State := { demo with
      clock := ⟨1209599, true, 1000⟩
      cards := ⟨[⟨318044, 1, .resident, false, 0x04, 255, 6, 0, none⟩,
        ⟨60000017, 1, .temporary, false, 0x04, 255, 0, 0, some 1205000⟩,
        ⟨60000031, 1, .temporary, false, 0x04, 255, 2, 0, some 1300000⟩], true, 1⟩ }
    ((after .clockCount s).cards.entries.map fun k => (k.number, k.used)) = [(318044, 0), (60000031, 0)] ∧
    (after .clockCount s).cards.period = 2 ∧
    (after (.setClock .network 1 (be 4 1100000)) s).cards = s.cards := by decide

/-- Set Clock (the example after R171). -/
theorem test_set_clock :
    let t := after (.setClock .network 1 (be 4 5000000)) { demo with clock := ⟨7200, false, 1000⟩ }
    (t.clock.count, t.clock.set, t.cards.period) = (5000000, true, 8) := by decide

/-- Release Journal (the example after R130), with three entries for the 1,024, and Read Journal below the oldest. -/
theorem test_journal :
    let e := fun n => (⟨n, 0, true, 0, .forced 3⟩ : JournalEntry)
    let s : State := { demo with journal := ⟨[e 40600, e 40601, e 40602], 40603, 2, 1, true, true⟩ }
    let t := after (.releaseJournal .network 1 (be 4 40600)) s
    t.journal = ⟨[e 40601, e 40602], 40603, 2, 1, false, false⟩ ∧
    ((after (.readJournal .service 1 []) t).port .service).journalCursor = 40603 ∧
    ((after (.rewindJournalCursor .vehicle 1 []) t).port .vehicle).journalCursor = 40601 := by decide +kernel

/-- Announce against a vehicle table (R133): the listed vehicle's fractions. -/
theorem test_announce :
    (after (.announce .vehicle 1 (be 2 12)) demo).lift.session = some ⟨12, 0x04, 0, none⟩ ∧
    (after (.announce .vehicle 1 (be 2 13)) demo).lift.session = none := by decide

/-- Claim Lift with a window at one bound inlet and the other IN_USE (the example after R139). -/
theorem test_claim :
    let s : State := { called with
      inlets := ((demo.updInlet 1 fun x => openedInlet x ⟨.card, some 5, some 9, false⟩ 0).updInlet 2 fun x =>
        { openedInlet x ⟨.card, some 5, some 9, false⟩ 0 with
          state := .inUse, windowTimer := none, lidOpen := true, lid := some ⟨.window, 0⟩ }).inlets }
    let t := after (.claimLift .vehicle 1 [1]) s
    t.containers.map Container.state = [.serving, .claimed] ∧
    t.inlets.map Inlet.state = [.locked, .locked, .inUse] ∧
    t.lift.lidWait = some 60000 ∧ t.lift.session.bind Session.claimed = some 1 := by decide

/-- Cancel Lift in RELEASED (the example after R143). -/
theorem test_cancel :
    let t := after (.cancelLift .vehicle 1 []) (lifting .released)
    t.containers[0]?.map Container.state = some .serving ∧ t.lift.releaseWait = none ∧
    t.lift.session = some session ∧ t.lift.last = some ⟨0, .cancelled, 0⟩ := by decide

/-- Acknowledge Attention (the example after R163) and Set Attention Mask (the example after R164). -/
theorem test_attention :
    let s := demo.mapPorts fun b => { b with
      flags := kindSet .restart ||| kindSet .level ||| kindSet .due
      mask := kindSet .cardQuery ||| kindSet .journal ||| kindSet .config ||| kindSet .restart }
    let t := after (.acknowledgeAttention .network 1
      (be 2 (kindSet .restart ||| kindSet .level).toNat)) s
    (t.port .network).flags = kindSet .due ∧ (t.port .vehicle).flags = (s.port .vehicle).flags ∧
    s.attentionLine .network = true ∧ t.attentionLine .network = false ∧
    (after (.setAttentionMask .vehicle 1 (be 2 (kindSet .due ||| kindSet .full ||| kindSet .lift).toNat)) t).attentionLine
      .vehicle = true := by decide

/-- Read Status puts the requesting port's discarded-frame count back to 0 (the example after R165). -/
theorem test_read_status :
    let s := demo.updPort .service fun b => { b with discarded := 3 }
    ((after (.readStatus .service 1 []) s).port .service).discarded = 0 ∧
    (after (.readStatus .network 1 []) s).port .service = s.port .service := by decide

/-- Read Cards from a cursor (the example after R167). -/
theorem test_read_cards :
    let s : State := { demo with
      cards := ⟨[318044, 502991, 9001455, 44100000, 60000017, 77210340, 91337002, 94000115, 95200008].map fun n =>
        { resident with number := n }, true, 0⟩ }
    let t := after (.readCards .service 1 []) (s.updPort .service fun b => { b with cardCursor := 502991 })
    (t.port .service).cardCursor = 94000115 ∧ (t.port .network).cardCursor = 0 := by decide

/-! ## The hypotheses of the statements are met

One theorem for each statement that has hypotheses: for each of its clauses a concrete state and operands that meet them,
at the ends of a range where the clause has one. -/

/-- A station without supply. -/
def unpowered (q : Power) : State := { demo with power := q }

/-- A sound image of one container and one inlet, by the layout of R173. -/
def imageBytes : List Byte :=
  [0x81, 0x6E, 1, 0x00, 0x56, 0x0F, 0x9C] ++
  [1, 1, 7, 1, 10, 4, 1, 0x04, 1, 0] ++
  [2, 0, 0x08, 0x34, 0x00, 0xFA, 60, 30, 0x00, 60, 0x02, 0xEE, 0x03, 0xB6, 60, 8] ++
  [0, 60, 10, 0, 60, 1, 2, 1] ++
  (table42.map fun p => be 2 p.1 ++ beSigned p.2).flatten ++
  [2] ++ be 2 0 ++ be 2 0 ++ be 2 2000 ++ be 2 3000

/-- What the image gives. -/
def imageConfig : StationConfig :=
  { demoConfig with containers := [boxSettings [0]], inlets := [flapSettings 0], vehicles := [] }

/-- A serial memory that holds the image. -/
def imageMemory : List Host.Cell := writeBytes [] 0 imageBytes

/-- A state with the image in its memory. -/
def imaged (s : State) : State := { s with store := { s.store with memory := imageMemory } }

/-- A port of a state, with its state, receiver and gap timer set. -/
def busy (s : State) (p : Port) (q : PortState) (r : Receiver) (g : Option Nat) : State :=
  s.updPort p fun b => { b with state := q, receiver := r, gap := g }

/-- Every container's seat line agrees with its record. -/
theorem seats_agree (s : State) (l : FieldLines)
    (h : (s.containers.zipIdx.all fun x => decide (x.1.seated = l.seat.getLsbD x.2)) = true) :
    ∀ (c : Nat) (k : Container), s.containers[c]? = some k → k.seated = l.seat.getLsbD c := by
  intro c k hk
  have hm := List.mem_zipIdx_iff_getElem?.mpr (show s.containers[(k, c).2]? = some (k, c).1 from hk)
  simpa using List.all_eq_true.mp h _ hm

theorem witness_StepWithoutCommand :
    demo.pending = [] ∧ (∃ c rest, demo.dueCommands = c :: rest) ∧
    ((unpowered .off).pending = [] ∧ (unpowered .off).dueCommands = [] ∧ (unpowered .off).power ≠ .running) ∧
    (State.reset.pending = [] ∧ State.reset.dueCommands = [] ∧ State.reset.power = .running) ∧
    (demo.inlets.length ≤ 16 ∧ demo.containers.length ≤ 8) :=
  ⟨rfl, ⟨_, _, rfl⟩, by decide, by decide, by decide⟩

/-- Inlet 0's lid line stands HIGH, its lid CLOSED, in an interval of 16 ms since time 0; and an accepted lid level with an
opening held, and with none. -/
theorem witness_StepWithoutCommand_lines :
    let s := { flap (fun x => { x with rejectStart := some 0 }) with now := 16, lines := ⟨0xFF, 1⟩ }
    (∃ x, s.inlets[0]? = some x ∧ s.acceptedLid 0 x false ∧ s.lidHasCome 0 true) ∧
    (∃ x, dozing.inlets[0]? = some x ∧ (waking [.lid 0 true 1]).acceptedLid 0 x true) ∧
    (∃ k, demo.containers[0]? = some k ∧ demo.acceptedSeat 0 k true ∧ (waking [.seat 0 false 1]).acceptedSeat 0 k false) ∧
    ((⟨0xFF, 1⟩ : FieldLines).lid.getLsbD 0 ≠ demo.lines.lid.getLsbD 0 ∧
      (⟨0xFE, 0⟩ : FieldLines).seat.getLsbD 0 ≠ demo.lines.seat.getLsbD 0 ∧
      (⟨0xFE, 0⟩ : FieldLines).seat.getLsbD 1 = demo.lines.seat.getLsbD 1) :=
  ⟨⟨_, rfl, .inr ⟨rfl, fun _ _ h => nomatch h⟩, _, rfl, rfl, .inr ⟨rfl, fun _ _ h => nomatch h⟩,
      fun w hw => by cases hw; exact ⟨0, rfl, by decide⟩⟩,
    ⟨_, rfl, .inl ⟨[], 1, [], rfl, fun _ _ h => nomatch h⟩⟩,
    ⟨_, rfl, .inr ⟨rfl, fun _ _ h => nomatch h⟩, .inl ⟨[], 1, [], rfl, fun _ _ h => nomatch h⟩⟩, by decide⟩

theorem witness_ExecKeepsQueue : exec .clockCount demo = .next (after .clockCount demo) := rfl

theorem witness_UnpoweredPartTakesNothing :
    ((unpowered .off).power ≠ .running ∧ (unpowered .starting).power ≠ .running) ∧
    Instr.clockCount ≠ .powerOnReset ∧ Instr.clockCount ≠ .powerLoss ∧
    ∀ l b, Instr.clockCount ≠ .powerOnResetEnd l b :=
  ⟨by decide, by decide, by decide, fun _ _ h => nomatch h⟩

theorem witness_IdleTimerRunsWhileIdle :
    (demo.judgeIdle.wake.idleTimer = some 10000 ∧ demo.wake.idleTimer = none) ∧
    demo.power = .running ∧ (∀ l b, Instr.clockCount ≠ .powerOnResetEnd l b) ∧
    exec .clockCount demo = .next (after .clockCount demo) :=
  ⟨by decide, rfl, fun _ _ h => (nomatch h), rfl⟩

/-- A block write of two bytes at 16 is under way: the bytes at 15 and 18 are outside it. -/
theorem witness_PowerOnResetAndPowerLoss :
    let s : State := { demo with store := { demo.store with writes := [⟨16, [1, 2], none⟩] } }
    (Instr.powerOnReset = .powerOnReset ∧ Power.starting = .starting) ∧
    (Instr.powerLoss = .powerLoss ∧ Power.off = .off) ∧
    (∀ w ∈ s.store.writes, 15 < w.offset ∨ w.offset + w.data.length ≤ 15) ∧
    (∀ w ∈ s.store.writes, 18 < w.offset ∨ w.offset + w.data.length ≤ 18) ∧ demo.store.writes = [] ∧
    demo.power = .running := by decide

/-- No image; and a sound one, with container 0's seat line both ways and inlet 0's lid line both ways. -/
theorem witness_PowerOnResetEnd :
    ((unpowered .starting).power = .starting ∧ judgeImage (unpowered .starting).store.memory = none) ∧
    ((imaged (unpowered .starting)).power = .starting ∧
      judgeImage (imaged (unpowered .starting)).store.memory = some imageConfig ∧
      imageConfig.containers[0]? = some (boxSettings [0]) ∧ imageConfig.inlets[0]? = some (flapSettings 0) ∧
      (flapSettings 0).activeHigh = true) ∧
    ((0xFF : BitVec 8).getLsbD 0 = true ∧ (0 : BitVec 8).getLsbD 0 = false ∧ (0 : BitVec 16).getLsbD 0 = false ∧
      (1 : BitVec 16).getLsbD 0 = true) :=
  ⟨by decide, by decide +kernel, by decide⟩

theorem witness_WarmRestartByResetLine :
    ∀ st ∈ [ServiceState.serving, .claimed, .released, .lifted, .verifying, .suspended],
      let v := (lifting st).moveLines ⟨0xFF, 0⟩
      (lifting st).attends = true ∧
      (∀ (c : Nat) (k : Container), v.containers[c]? = some k → k.seated = (FieldLines.mk 0xFF 0).seat.getLsbD c) ∧
      (∃ k, v.containers[0]? = some k ∧ k.state = st) ∧
      (∃ x, v.inlets[0]? = some x) ∧
      (((lifting .claimed).moveLines ⟨0xFF, 0⟩).inState 0 .claimed = true) ∧
      (∃ k, ((lifting .lifted).moveLines ⟨0xFF, 0⟩).containers[0]? = some k ∧ k.unmeasured = true) ∧
      (∃ k, ((lifting .serving).moveLines ⟨0xFF, 0⟩).containers[0]? = some k ∧ k.unmeasured = false) := by
  intro st _
  have h : (lifting st).moveLines ⟨0xFF, 0⟩ = lifting st := by cases st <;> rfl
  simp only [h]
  exact ⟨by cases st <;> rfl, seats_agree (lifting st) ⟨0xFF, 0⟩ (by cases st <;> rfl), ⟨_, rfl, rfl⟩, ⟨_, rfl⟩, by decide,
    ⟨_, rfl, by decide⟩, ⟨_, rfl, by decide⟩⟩

/-- A seat change of each kind at a restart: an unseat in SERVING, SUSPENDED and VERIFYING, a reseat of a LIFTED and of a
displaced container, and no change. -/
theorem witness_WarmRestartByResetLine_seats :
    (∀ st ∈ [ServiceState.serving, .suspended, .verifying],
      ∃ k, (lifting st).containers[0]? = some k ∧ k.seated = true ∧ k.state = st) ∧
    (∃ k, ((lifting .lifted).updContainer 0 fun x => { x with seated := false }).containers[0]? = some k ∧
      k.seated = false ∧ k.pair = .idle ∧ k.state = .lifted) ∧
    (∃ k, (box Container.displacedRecord).containers[0]? = some k ∧ k.seated = false ∧ k.pair = .idle ∧
      k.state ≠ .lifted ∧ k.displaced = true) :=
  ⟨fun st _ => ⟨_, rfl, rfl, rfl⟩, ⟨_, rfl, by decide⟩, ⟨_, rfl, by decide⟩⟩

/-- At the reset line two VERIFYING containers are found unseated: their emptyings end in ascending number (log entry 34),
and an unseated one of them has no lid or seat interval in progress. -/
theorem test_restart_reconciles :
    let s : State := { lifting .verifying with
      containers := (lifting .verifying).containers.map fun k =>
        { k with state := .verifying, note := some ⟨none, none, none⟩, seatHold := some 0 } }
    let t := after (.resetLineAssertion ⟨0, 0⟩) s
    t.journal.entries.map JournalEntry.place = [0, 1] ∧ t.lift.last = some ⟨1, .verifyUnseated, 0⟩ ∧
    t.containers.map Container.displaced = [true, true] ∧ t.containers.map Container.seatHold = [none, none] := by
  decide +kernel

/-- A lid line that a refused RESTART finds moved begins its reject interval, and one that has moved back abandons it
(R72); the seat line's 200 ms likewise (R7). -/
theorem test_moved_lines :
    let refused := fun (l : FieldLines) (s : State) => after (.restart .vehicle 1 [] l) { s with now := s.now + 5 }
    let t := refused ⟨0xFE, 1⟩ demo
    let u := refused ⟨0xFF, 0⟩ { t with ports := demo.ports }
    let v := refused ⟨0xFE, 1⟩ { u with ports := demo.ports }
    (t.inlets[0]?.map Inlet.rejectStart, t.containers[0]?.map Container.seatHold) = (some (some 5), some (some 5)) ∧
    (u.inlets[0]?.map Inlet.rejectStart, u.containers[0]?.map Container.seatHold) = (some none, some none) ∧
    (v.inlets[0]?.map Inlet.rejectStart, v.containers[0]?.map Container.seatHold) = (some (some 15), some (some 15)) := by
  decide +kernel

/-- Inlet 0 without a noise reject: a refused RESTART that finds its lid line moved makes a forced opening at once, and the
next one, which finds it back, the closing (R72, R86, R87). -/
theorem test_moved_lid_without_reject :
    let refused := fun (l : FieldLines) (s : State) => after (.restart .vehicle 1 [] l) { s with now := s.now + 5 }
    let t := refused ⟨0xFF, 1⟩ (flap fun x => { x with cfg := { x.cfg with width := .off } })
    let u := refused ⟨0xFF, 0⟩ { t with ports := demo.ports }
    (t.inlets[0]?.map Inlet.lid, t.inlets[0]?.map Inlet.forced) = (some (some ⟨.forced, 5⟩), some 1) ∧
    u.inlets[0]?.map Inlet.lid = some none ∧ u.journal.entries.map JournalEntry.body = [.forced 0] := by
  decide +kernel

/-- Changes that have stood out their interval are accepted before the levels that end them are taken: a lid opening after
16 ms and an unseat after 200 ms (R7, R72). -/
theorem test_stood_lines :
    let s : State := { demo with
      now := 300, lines := ⟨0xFE, 1⟩
      inlets := demo.inlets.map fun x => { x with rejectStart := some 0 }
      containers := demo.containers.map fun k => { k with seatHold := some 100 } }
    let t := s.moveLines ⟨0xFF, 0⟩
    (t.inlets[0]?.map Inlet.lid, t.containers[0]?.map Container.displaced) = (some (some ⟨.forced, 300⟩), some true) ∧
    (t.inlets[0]?.map Inlet.rejectStart, t.containers[0]?.map Container.seatHold) = (some (some 300), some (some 300)) ∧
    t.lines = ⟨0xFF, 0⟩ := by decide +kernel

theorem witness_WarmRestartByResetLine_unclaimed :
    ∀ c, demo.inState c .claimed = false ∧ demo.inState c .released = false
  | 0 => by decide
  | 1 => by decide
  | _ + 2 => ⟨rfl, rfl⟩

theorem witness_RestartRequest : demo.listening .network = true ∧ Port.network ≠ .vehicle := by decide

/-- The longest parameter run, and none. -/
theorem witness_RequestFrameRoundTrip : (List.replicate 246 (0 : Byte)).length ≤ 246 ∧ ([] : List Byte).length ≤ 246 :=
  ⟨Nat.le_of_eq List.length_replicate, by decide⟩

theorem witness_ReceiverTakesGoodFrame :
    demo.listening .service = true ∧ (List.replicate 246 (0 : Byte)).length ≤ 246 :=
  ⟨by decide, Nat.le_of_eq List.length_replicate⟩

/-- The longest parameter run and the longest payload, whose length bytes are 248. -/
theorem witness_FrameCheckSums :
    (List.replicate 246 (0 : Byte)).length ≤ 246 ∧ (List.replicate 245 (0 : Byte)).length ≤ 245 :=
  ⟨Nat.le_of_eq List.length_replicate, Nat.le_of_eq List.length_replicate⟩

/-- A byte too many and a byte too few; Answer Card between its two lengths; the wrong port; the UNCONFIGURED part; an
unknown code. -/
theorem witness_RequestsRefused :
    (requestParts (.suspendContainer .service 1 [0, 1]) = some (.service, 0x11, 1, [0, 1]) ∧
      ((0x11, [.network, .service], 1, 1, false) : Byte × List Port × Nat × Nat × Bool) ∈ printedIndex ∧
      demo.listening .service = true ∧ 1 < [(0 : Byte), 1].length) ∧
    (requestParts (.suspendContainer .service 1 []) = some (.service, 0x11, 1, []) ∧ ([] : List Byte).length < 1) ∧
    (((0x38, [.network], 7, 25, false) : Byte × List Port × Nat × Nat × Bool) ∈ printedIndex ∧
      requestParts (.answerCard .network 1 [0, 0, 0, 0, 0, 0, 0, 0]) = some (.network, 0x38, 1, [0, 0, 0, 0, 0, 0, 0, 0])) ∧
    (requestParts (.suspendContainer .vehicle 1 [0]) = some (.vehicle, 0x11, 1, [0]) ∧
      demo.listening .vehicle = true ∧ Port.vehicle ∉ [Port.network, .service]) ∧
    (State.reset.listening .service = true ∧ State.reset.store.running = none ∧ Port.service ∈ [Port.network, .service]) ∧
    (∀ r ∈ printedIndex, r.1 ≠ 0x99) :=
  ⟨by decide, by decide, by decide, by decide, by decide, by decide⟩

theorem witness_BusyPortDiscardsFrame :
    ∀ q ∈ [PortState.holding 1 1, .replying []],
      requestParts (.readStatus .network 1 []) = some (.network, 0x01, 1, []) ∧
      (busy demo .network q .hunting none).attends = true ∧
      ((busy demo .network q .hunting none).port .network).receiver = .hunting ∧
      ((busy demo .network q .hunting none).port .network).state ≠ .free := by decide

/-- A body of 2 bytes and one of 248 with wrong checks; length bytes 1 and 249; no start byte; a framing error. -/
theorem witness_BadFrameIsDiscarded :
    demo.listening .network = true ∧
    (2 ≤ [(1 : Byte), 0].length ∧ [(1 : Byte), 0].length ≤ 248 ∧
      byteSum (BitVec.ofNat 8 [(1 : Byte), 0].length :: [1, 0]) + 0 ≠ 0) ∧
    ((1 : Byte).toNat < 2 ∧ 248 < (249 : Byte).toNat) ∧
    ((⟨0xA5, true⟩ : RxByte).framingError = true ∧ (⟨0x5A, false⟩ : RxByte).val ≠ 0xA5) := by decide

/-- Each row of R155 that no whole frame meets, at a port of each state; the length byte at 2 and at 248. -/
theorem witness_BadFrameIsDiscarded_rows :
    (∀ r ∈ [Receiver.skipping, .hunting, .receiving [], .receiving [2, 1]],
      ∀ q ∈ [PortState.free, .holding 8 1, .replying []],
        (busy demo .network q r (some 20)).attends = true ∧
        ((busy demo .network q r (some 20)).port .network).receiver = r ∧
        ((busy demo .network q r (some 20)).port .network).state = q) ∧
    (∀ b ∈ [(⟨0xA5, true⟩ : RxByte), ⟨0x5A, false⟩], b.framingError = true ∨ b.val ≠ 0xA5) ∧
    (2 ≤ (2 : Byte).toNat ∧ (2 : Byte).toNat ≤ 248 ∧ (248 : Byte).toNat ≤ 248) ∧ [(1 : Byte)].length < (2 : Byte).toNat ∧
    ((1 : Byte).toNat < 2 ∧ 248 < (249 : Byte).toNat) ∧ PortState.holding 8 1 ≠ .free := by decide

/-- A wrong and a right check byte in RECEIVING, for the frame of Read Clock (code 04h, tag 7). -/
theorem witness_BadFrameIsDiscarded_check :
    let s := busy demo .network .free (.receiving [2, 4, 7]) (some 20)
    s.attends = true ∧ (s.port .network).receiver = .receiving [2, 4, 7] ∧ [(4 : Byte), 7].length = (2 : Byte).toNat ∧
    byteSum [2, 4, 7] + 0 ≠ 0 ∧ byteSum [2, 4, 7] + 0xF3 = 0 := by decide

/-- Bytes that meet a SKIPPING receiver, a run of no start byte and a start byte at a HOLDING port, and a framing error in
RECEIVING (R155). -/
theorem test_rows_of_receiver :
    let run := fun (q : PortState) (r : Receiver) (bs : List RxByte) =>
      let b := (after (.badFrame .network bs) (busy { demo with now := 5 } .network q r (some 20))).port .network
      (b.receiver, b.gap, b.discarded)
    run .free .skipping [⟨0xA5, false⟩, ⟨3, true⟩] = (.skipping, some 25, 0) ∧
    run (.holding 8 1) .hunting [⟨7, false⟩] = (.hunting, some 25, 0) ∧
    run .free (.receiving [2, 1]) [⟨0, true⟩] = (.skipping, some 25, 1) ∧
    run (.holding 8 1) .hunting [⟨0xA5, false⟩, ⟨2, false⟩] = (.skipping, some 25, 1) := by decide

theorem witness_BadFrameIsDiscarded_longest :
    (List.replicate 248 (0 : Byte)).length ≤ 248 ∧
    byteSum (BitVec.ofNat 8 (List.replicate 248 (0 : Byte)).length :: List.replicate 248 0) + 0 ≠ 0 :=
  ⟨Nat.le_of_eq List.length_replicate, by decide +kernel⟩

/-- A frame of a wrong check sum stops the idle timer and starts it afresh (R182), in one run and in two. -/
theorem test_bad_frame_restarts_idle_timer :
    let s : State := { demo.judgeIdle with now := 400 }
    let bs := fun (xs : List Byte) => xs.map fun b => (⟨b, false⟩ : RxByte)
    (after (.badFrame .network (bs [0xA5, 0x02, 0x01, 0x00, 0x00])) s).wake.idleTimer = some 10400 ∧
    (after (.badFrame .network (bs [0x02, 0x01, 0x00, 0x00])) (after (.badFrame .network (bs [0xA5])) s)).wake.idleTimer =
      some 10400 ∧
    (after (.badFrame .network (bs [0x00])) s).wake.idleTimer = some 10000 := by decide +kernel

theorem witness_GapTimerAndReplySent :
    (demo.power = .running ∧ ((busy demo .network .free (.receiving [3]) (some 20)).port .network).gap = some 20) ∧
    ((busy demo .network (.replying [1]) .hunting none).port .network).state = .replying [1] ∧
    (∀ f, (demo.port .network).state ≠ .replying f) :=
  ⟨by decide, rfl, fun _ h => nomatch h⟩

theorem witness_AttentionFlagsAndLines : 11 < 12 ∧ demo.power = .running := by decide

/-- The set's high byte at 15 and at 16. -/
theorem witness_AttentionRequests :
    demo.listening .vehicle = true ∧ demo.configured = true ∧ (15 : Byte).toNat < 16 ∧ 16 ≤ (16 : Byte).toNat := by decide

theorem witness_ReadStatus : State.reset.listening .service = true ∧ demo.listening .service = true := by decide

theorem witness_ReportsChangeNothing :
    State.reset.listening .network = true ∧ demo.listening .network = true ∧ demo.configured = true ∧
    Port.network ≠ .vehicle := by decide

/-- A container in every state of a lift, and none; a VERIFYING one; an entry of the due list; a query; a journal entry of
each kind. -/
theorem witness_RecordLayouts :
    (∃ x, demo.inlets[0]? = some x) ∧
    (∀ k ∈ demo.containers, decide (k.state = .claimed ∨ k.state = .released ∨ k.state = .lifted) = false) ∧
    (∀ st ∈ [ServiceState.claimed, .released, .lifted], ∃ k, (lifting st).containers[0]? = some k ∧
      decide (k.state = .claimed ∨ k.state = .released ∨ k.state = .lifted) = true ∧
      ∀ d (m : Container), d < 0 → (lifting st).containers[d]? = some m →
        decide (m.state = .claimed ∨ m.state = .released ∨ m.state = .lifted) = false) ∧
    (∃ k, ((lifting .verifying).containers.zipIdx.filter fun x => decide (x.1.state = .verifying))[0]? = some (k, 0)) ∧
    (∃ e, { demo with dueList := [⟨1, 0, true, 750⟩] }.dueList[0]? = some e ∧
      ∃ k, demo.containers[e.container]? = some k) ∧
    (∃ x q, ((flap fun x => { x with slot := some 9, query := some ⟨9, 0, 4000⟩ }).inlets.zipIdx.filter fun x =>
      x.1.query.isSome)[0]? = some (x, 0) ∧ x.query = some q) ∧
    (∀ body ∈ [JournalBody.deposit 5 none true, .forced 3, .emptying none none none true true],
      (⟨1, 0, true, 0, body⟩ : JournalEntry).body = body) :=
  ⟨⟨_, rfl⟩, by decide,
    fun st h => ⟨_, rfl, by
      simp only [List.mem_cons, List.not_mem_nil, or_false] at h
      rcases h with rfl | rfl | rfl <;> decide, fun d _ hd => absurd hd (Nat.not_lt_zero d)⟩,
    ⟨_, rfl⟩, ⟨_, rfl, _, rfl⟩, ⟨_, _, rfl, rfl⟩, fun _ _ => rfl⟩

theorem witness_CardEntryRoundTrip :
    (resident.Sound ∧ ∀ e, resident.expiry = some e → 0 < e ∧ e < 2 ^ 32) ∧
    ((⟨2 ^ 40 - 1, 65535, .temporary, true, 0xFF, 255, 255, 65535, some 4294967295⟩ : Card).Sound ∧
      ∀ e, some 4294967295 = some e → 0 < e ∧ e < 2 ^ 32) :=
  ⟨⟨⟨by decide, by decide, by decide, by decide, by decide, by decide⟩, fun _ h => nomatch h⟩,
    ⟨⟨by decide, by decide, by decide, by decide, by decide, by decide⟩,
      fun e h => by cases h; decide⟩⟩

/-- Judged at the last second of a week and at the first of the next. -/
theorem witness_ClockRequestsAndCounts :
    demo.listening .network = true ∧ demo.power = .running ∧
    { demo with clock := ⟨604798, true, 1000⟩ }.store.running.map StationConfig.periodDays = some 7 ∧
    min (604798 + 1) 4294967295 / (86400 * 7) ≤ 0 ∧ 0 < min (604799 + 1) 4294967295 / (86400 * 7) := by decide

/-- Offset 4,095 with one byte, 4,095 with two; another port's writer and check; a completion with and without its port. -/
theorem witness_ImageWrites :
    (demo.listening .network = true ∧ Port.network ≠ .vehicle ∧ 1 ≤ [(7 : Byte)].length ∧ [(7 : Byte)].length ≤ 244 ∧
      ((0x0F : Byte) ++ (0xFF : Byte)).toNat + [(7 : Byte)].length ≤ 4096 ∧
      4096 < ((0x0F : Byte) ++ (0xFF : Byte)).toNat + [(7 : Byte), 8].length) ∧
    (demo.store.check = none ∧ demo.store.writer = none) ∧
    (({ demo.store with check := some .network } : Store).check ≠ none ∧
      ∃ q, ({ demo.store with writer := some .service } : Store).writer = some q ∧ q ≠ Port.network) ∧
    (let s : State := { busy demo .network (.holding 7 1) .hunting none with
        store := { demo.store with writes := [⟨4095, [7], some .network⟩], writerIdle := some 60000 } };
      s.power = .running ∧ s.store.Sound ∧ s.store.writes = [⟨4095, [7], some .network⟩] ∧
      (s.port .network).state = .holding 7 1 ∧ s.store.writerIdle = some 60000) ∧
    (⟨0, [7], none⟩ : BlockWrite).port = none := by
  exact ⟨by decide, by decide, ⟨by decide, ⟨_, rfl, by decide⟩⟩, ⟨rfl, ⟨by decide, by decide⟩, by decide⟩, rfl⟩

/-- The sound image is valid; with a shape table number out of range, with a fraction of 8, or with a wrong sum it is not
(R174). Its ping interval of 60 stands, and one of 2 becomes 5. -/
theorem test_judgement :
    let summed := fun (bs : List Byte) => bs.take 5 ++ be 2 (imageSum bs) ++ bs.drop 7
    let judged := fun (bs : List Byte) => judgeImage (writeBytes [] 0 bs)
    (judged imageBytes).map StationConfig.version = some 1 ∧ judged (imageBytes.set 6 0) = none ∧
    judged (summed (imageBytes.set 18 1)) = none ∧ judged (summed (imageBytes.set 17 8)) = none ∧
    ((judged (summed (imageBytes.set 26 2))).map fun g => g.containers.map ContainerSettings.pingMinutes) =
      some [5] := by decide +kernel

/-- A check under way for the network port. -/
def checked (s : State) : State :=
  { busy s .network (.holding 8 1) .hunting none with store := { s.store with check := some .network } }

/-- A container of the lift protocol. -/
def inHand (s : State) : Prop :=
  ∃ k ∈ s.containers, k.state = .claimed ∨ k.state = .released ∨ k.state = .lifted ∨ k.state = .verifying

/-- A check under way, over no image and over a sound one, with a container in hand and with none; and the period ahead of
the stored one, not ahead under the same length, not ahead under another (R116). -/
theorem witness_ApplyConfiguration :
    (demo.listening .network = true ∧ Port.network ≠ .vehicle ∧ demo.store.writer = none ∧ demo.store.check = none) ∧
    (∃ q, q ≠ Port.network ∧ ({ demo.store with writer := some .service } : Store).writer = some q) ∧
    ((checked demo).power = .running ∧ (checked demo).store.check = some .network ∧
      ((checked demo).port .network).state = .holding 8 1 ∧ (checked demo).store.writes = [] ∧
      judgeImage (checked demo).store.memory = none) ∧
    ((imaged (checked (lifting .verifying))).store.check = some .network ∧
      judgeImage (imaged (checked (lifting .verifying))).store.memory ≠ none ∧
      inHand (imaged (checked (lifting .verifying)))) ∧
    (judgeImage (imaged (checked demo)).store.memory = some imageConfig ∧ ¬ inHand (imaged (checked demo)) ∧
      (demo.cards.period < 604800 / (86400 * imageConfig.periodDays) ∧
        604799 / (86400 * imageConfig.periodDays) ≤ demo.cards.period) ∧
      (imaged (checked demo)).store.running.map StationConfig.periodDays = some imageConfig.periodDays ∧
      some { demoConfig with periodDays := 1 }.periodDays ≠ some imageConfig.periodDays) :=
  ⟨by decide, ⟨.service, by decide⟩, by decide,
    ⟨by decide, by decide +kernel, by unfold inHand; decide⟩,
    ⟨by decide +kernel, by unfold inHand; decide, by decide⟩⟩

theorem witness_ContainerRequests :
    (demo.listening .network = true ∧ demo.configured = true ∧ Port.network ≠ .vehicle ∧
      demo.containers[(2 : Byte).toNat]? = none) ∧
    (∃ k, demo.containers[(1 : Byte).toNat]? = some k ∧ k.state = .serving ∧ k.state ≠ .suspended ∧ k.hot = false) ∧
    (∃ k, (lifting .suspended).containers[(0 : Byte).toNat]? = some k ∧ k.state ≠ .serving ∧ k.state = .suspended) ∧
    (∃ k l, (box fun x => { x with
        hot := true, tempStatus := .valid, lastTemp := some ⟨100, false, 0⟩ }).containers[(0 : Byte).toNat]? = some k ∧
      k.hot = true ∧ k.lastTemp = some l ∧ k.tempStatus = .valid ∧ l.tHalf ≤ 2 * ((k.cfg.heatLimit : Int) - 10)) ∧
    (∃ k l, (box fun x => { x with
        hot := true, tempStatus := .valid, lastTemp := some ⟨101, false, 0⟩ }).containers[(0 : Byte).toNat]? = some k ∧
      k.hot = true ∧ k.lastTemp = some l ∧ 2 * ((k.cfg.heatLimit : Int) - 10) < l.tHalf) :=
  ⟨by decide, ⟨_, rfl, by decide⟩, ⟨_, rfl, by decide⟩, ⟨_, _, rfl, rfl, rfl, by decide⟩, ⟨_, _, rfl, rfl, rfl, by decide⟩⟩

theorem witness_PairRequestsAndTimers :
    (demo.listening .vehicle = true ∧ demo.configured = true ∧ demo.containers[(2 : Byte).toNat]? = none) ∧
    (∃ k, (lifting .lifted).containers[(0 : Byte).toNat]? = some k ∧ (k.state = .lifted ∨ k.displaced = true)) ∧
    (∃ k, demo.containers[(0 : Byte).toNat]? = some k ∧ k.state ≠ .lifted ∧ k.displaced = false) ∧
    (demo.attends = true ∧ ∃ k, demo.containers[(1 : Fin 8).val]? = some k) ∧
    (∃ k, (box fun x => { x with pair := ⟨.awaitSecond, some .demand, none, some 853, some 2000, none⟩ }).containers[
      (0 : Fin 8).val]? = some k ∧ k.pair.spacing = some 2000) :=
  ⟨by decide, ⟨_, rfl, by decide⟩, ⟨_, rfl, by decide⟩, ⟨by decide, _, rfl⟩, ⟨_, rfl, rfl⟩⟩

/-- The same check while a write runs that a restart freed of its port (log entry 6). -/
theorem witness_ApplyConfiguration_writes :
    let s := { imaged (checked demo) with
      store := { (imaged (checked demo)).store with writes := [⟨4000, [1, 2], none⟩] } }
    s.power = .running ∧ s.store.check = some .network ∧ (s.port .network).state = .holding 8 1 ∧ s.store.writes ≠ [] ∧
      ¬ inHand s ∧ (∃ w ∈ s.store.writes, w.offset ≤ 4000 ∧ 4000 < w.offset + w.data.length) :=
  ⟨rfl, rfl, rfl, by decide, by unfold inHand; decide, _, .head _, by decide⟩

theorem witness_ArbiterChoice :
    (measuring false (firstPair .demand)).run ≠ none ∧
    (∀ k ∈ demo.containers, k.pair.stage ≠ .firstQueued ∧ k.pair.stage ≠ .secondQueued) ∧
    ((box fun x => { x with pair := requestedPair .demand 0 }).run = none ∧
      ∃ k ∈ (box fun x => { x with pair := requestedPair .demand 0 }).containers,
        k.pair.stage = .firstQueued ∨ k.pair.stage = .secondQueued) ∧
    (∀ cls ∈ [PairClass.scheduled, .demand, .verify], (firstPair cls).cls = some cls) := by decide

/-- Conversions: faulted at 128 and 65,535 cycles, at a gate time past 100 ms and by the overrun; valid at 129 and 65,534
and at 100 ms. -/
theorem witness_conversions :
    demo.conversionGives .overrun none ∧ demo.conversionGives (.cycles 81920 128) none ∧
    demo.conversionGives (.cycles 81920 65535) none ∧ demo.conversionGives (.cycles 100001 3500) none ∧
    demo.conversionGives (.cycles 100000 129) (some (temperature table42 (thermistorRatio 129))) ∧
    demo.conversionGives (.cycles 81920 65534) (some (temperature table42 (thermistorRatio 65534))) ∧
    demo.conversionGives (.cycles 81920 3500) (some (42, false)) :=
  ⟨.inl ⟨rfl, .inl rfl⟩, .inl ⟨rfl, .inr ⟨81920, 128, rfl, by decide⟩⟩,
    .inl ⟨rfl, .inr ⟨81920, 65535, rfl, by decide⟩⟩, .inl ⟨rfl, .inr ⟨100001, 3500, rfl, by decide⟩⟩,
    .inr ⟨100000, 129, demoConfig, rfl, by decide, by decide, by decide, rfl, rfl⟩,
    .inr ⟨81920, 65534, demoConfig, rfl, by decide, by decide, by decide, rfl, rfl⟩,
    .inr ⟨81920, 3500, demoConfig, rfl, by decide, by decide, by decide, rfl, by decide⟩⟩

/-- A container with no last temperature is not heated by 21 °C, nor by a faulted conversion. -/
theorem not_heated (k : Container) (h : k.cfg.heatLimit = 60) (hl : k.lastTemp = none) (now : Nat) :
    ¬ k.heats (some (42, false)) now ∧ ¬ k.heats none now := by
  refine ⟨?_, fun ⟨_, _, _, h2, _⟩ => nomatch h2⟩
  rintro ⟨-, t, c, h2, h3 | ⟨l, h3, -⟩⟩
  · cases h2; rw [h] at h3; revert h3; decide
  · rw [hl] at h3; cases h3

/-- Nothing measured; a detached run; a first reading; a miss, at a miss count of 3. -/
theorem witness_MeasurementFirstAndMiss :
    (demo.power = .running ∧ demo.run = none) ∧
    (∃ r, { demo with run := some { Run.started 0 false with detached := true } }.run = some r ∧ r.detached = true) ∧
    (let s := measuring false (firstPair .demand)
     s.run = some (.started 0 false) ∧ s.conversionGives (.cycles 81920 3500) (some (42, false)) ∧
     ∃ k r, s.containers[0]? = some k ∧ ¬ k.heats (some (42, false)) s.now ∧
      s.completionReading k (some (42, false)) echo853 = some r) ∧
    (let s := (measuring true (secondPair .demand none)).updContainer 0 fun x => { x with misses := 3 }
     s.run = some (.started 0 true) ∧ s.conversionGives .overrun none ∧
     ∃ k, s.containers[0]? = some k ∧ ¬ k.heats none s.now ∧ s.completionReading k none silence = none ∧
      k.pair.cls ≠ some .verify) :=
  ⟨by decide, ⟨_, rfl, rfl⟩,
    ⟨rfl, witness_conversions.2.2.2.2.2.2, _, _, rfl, (not_heated _ rfl rfl _).1, rfl⟩,
    ⟨rfl, witness_conversions.1, _, rfl, (not_heated _ rfl rfl _).2, by decide, by decide⟩⟩

/-- What the measuring stations have in common, at 21 °C and at a faulted conversion. -/
theorem witness_measuring (b : Bool) (p : Pair) :
    (measuring b p).power = .running ∧ (measuring b p).run = some (.started 0 b) ∧
    (measuring b p).conversionGives (.cycles 81920 3500) (some (42, false)) ∧ (measuring b p).conversionGives .overrun none ∧
    ∃ k, (measuring b p).containers[0]? = some k ∧ k.pair = p ∧ ¬ k.heats (some (42, false)) 0 ∧ ¬ k.heats none 0 :=
  ⟨rfl, rfl, witness_conversions.2.2.2.2.2.2, witness_conversions.1, _, rfl, rfl, not_heated _ rfl rfl _⟩

/-- An echo from near the floor: t = 12,000 µs, d = 2,064, H = 36. -/
def echo36 : EchoSignal := ⟨false, [12000]⟩

/-- The cases of a second measurement at 21 °C: agreeing (853 mm twice), and mismatched (a first reading of 700 mm); of a
VERIFY pair: empty, with residue, failed on attempts 2 and 3 by a miss and by a mismatch. -/
theorem witness_MeasurementSecondAndVerify :
    let agree := fun (k : Container) (r : Reading) =>
      (k.pair.first.getD 0 : Int) - r.height ≤ k.cfg.confirmBand ∧ (r.height : Int) - k.pair.first.getD 0 ≤ k.cfg.confirmBand
    (demo.power = .running ∧ demo.conversionGives (.cycles 81920 3500) (some (42, false))) ∧
    (let s := measuring true (secondPair .demand none)
     s.run = some (.started 0 true) ∧ ∃ k r, s.containers[0]? = some k ∧ ¬ k.heats (some (42, false)) s.now ∧
      s.completionReading k (some (42, false)) echo853 = some r ∧ k.pair.cls ≠ some .verify ∧ agree k r) ∧
    (let s := measuring true ⟨.secondRunning, some .demand, none, some 700, none, none⟩
     ∃ k r, s.containers[0]? = some k ∧ ¬ k.heats (some (42, false)) s.now ∧
      s.completionReading k (some (42, false)) echo853 = some r ∧ k.pair.cls ≠ some .verify ∧ ¬ agree k r) ∧
    (let s := measuring true ⟨.secondRunning, some .verify, none, some 30, none, some 1⟩
     ∃ k r, s.containers[0]? = some k ∧ s.completionReading k (some (42, false)) echo36 = some r ∧
      k.pair.cls = some .verify ∧ agree k r ∧ r.near = false ∧ (k.cfg.floor : Int) - r.distance ≤ k.cfg.floorBand) ∧
    (let s := measuring true (secondPair .verify (some 1))
     ∃ k r, s.containers[0]? = some k ∧ s.completionReading k (some (42, false)) echo853 = some r ∧
      k.pair.cls = some .verify ∧ agree k r ∧
      (r.near = true ∨ k.cfg.floorBand < (k.cfg.floor : Int) - r.distance)) ∧
    (let s := measuring true (secondPair .verify (some 2))
     ∃ k, s.containers[0]? = some k ∧ k.pair.cls = some .verify ∧ k.pair.attempt = some 2 ∧
      s.completionReading k (some (42, false)) silence = none ∧ 2 < 3) ∧
    (let s := measuring true ⟨.secondRunning, some .verify, none, some 700, none, some 3⟩
     ∃ k r, s.containers[0]? = some k ∧ k.pair.cls = some .verify ∧ k.pair.attempt = some 3 ∧
      s.completionReading k (some (42, false)) echo853 = some r ∧ ¬ agree k r ∧ 3 ≤ 3) := by
  refine ⟨⟨rfl, witness_conversions.2.2.2.2.2.2⟩, ⟨rfl, _, _, rfl, (not_heated _ rfl rfl _).1, rfl, by decide, by decide +kernel⟩,
    ⟨_, _, rfl, (not_heated _ rfl rfl _).1, rfl, by decide, by decide +kernel⟩, ⟨_, _, rfl, rfl, by decide +kernel⟩,
    ⟨_, _, rfl, rfl, by decide +kernel⟩, ⟨_, rfl, by decide⟩, ⟨_, _, rfl, rfl, rfl, rfl, by decide +kernel⟩⟩

/-- A measurement of container 0 under a heat limit of 21 °C. -/
def heating (second : Bool) (p : Pair) : State :=
  (measuring second p).updContainer 0 fun x => { x with cfg := { x.cfg with heatLimit := 21 } }

/-- A claimed and an unclaimed container; a conversion at twice the heat limit, 42 against a limit of 21 °C, in a first, a
second and a VERIFY measurement, with a reading and with a miss. -/
theorem witness_BecomingHot :
    (∃ k, demo.containers[0]? = some k ∧ k.state ≠ .claimed ∧ k.state ≠ .released) ∧
    (∃ k, (lifting .claimed).containers[0]? = some k ∧ k.state = .claimed) ∧
    (∀ x ∈ [(false, firstPair .scheduled), (true, secondPair .demand none), (true, secondPair .verify (some 2))],
      let s := heating x.1 x.2
      s.power = .running ∧ s.run = some (.started 0 x.1) ∧ (Run.started 0 x.1).detached = false ∧
      s.conversionGives (.cycles 81920 3500) (some (42, false)) ∧
      ∃ k r, s.containers[0]? = some k ∧ k.pair = x.2 ∧ k.heats (some (42, false)) s.now ∧
        s.completionReading k (some (42, false)) echo853 = some r ∧
        s.completionReading k (some (42, false)) silence = none) := by
  refine ⟨⟨_, rfl, by decide⟩, ⟨_, rfl, rfl⟩, fun x hx => ?_⟩
  simp only [List.mem_cons, List.not_mem_nil, or_false] at hx
  rcases hx with rfl | rfl | rfl <;>
    exact ⟨rfl, rfl, rfl, witness_conversions.2.2.2.2.2.2, _, _, rfl, rfl, ⟨rfl, 42, false, rfl, .inl (by decide)⟩,
      rfl, by decide⟩

/-- The rise condition of R67 at its half hour: 21 half degrees against 20. -/
theorem witness_BecomingHot_rise :
    ({ freshContainer { boxSettings [0] with riseLimit := 10 } true 0 with
      lastTemp := some ⟨22, false, 0⟩ } : Container).heats (some (42, false)) 1800000 :=
  ⟨rfl, 42, false, rfl, .inr ⟨⟨22, false, 0⟩, rfl, by decide, by decide⟩⟩

/-- Each part of the arithmetic at the ends of its ranges. -/
theorem witness_FillArithmetic :
    0 < 129 ∧ table42.Pairwise (fun x y => y.1 < x.1 ∧ x.2 < y.2) ∧
    (table42[0]? = some (7936, -40) ∧ table42.getLast? = some (170, 160) ∧ 7936 ≤ 7936 ∧ 170 ≤ 170) ∧
    (table42[1]? = some (4740, -20) ∧ 171 ≤ 305 ∧ 170 < 171 ∧ 7935 ≤ 7936 ∧ 4740 < 7935) ∧
    ((-80 : Int) ≤ -80 ∧ (160 : Int) ≤ 160 ∧ (0 : Int) ≤ 0 ∧ (-1 : Int) < 0) ∧
    (250 ≤ 2100 ∧ 249 < 250 ∧ 250 ≤ 250 ∧ 2100 ≤ 2100 ∧ 2100 < 2101 ∧ 2250 ≤ 2100 + 150 ∧ 2100 + 150 < 2251) ∧
    ([(0, 0), (2000, 3000)] : List (Nat × Nat)).Pairwise (fun x y => x.1 < y.1 ∧ x.2 < y.2) ∧
    ([(0, 0), (2000, 3000)] : List (Nat × Nat))[1]? = some (2000, 3000) ∧ (0 ≤ 0 ∧ 1999 < 2000 ∧ 2000 ≤ 2000) ∧ 0 < 3000 ∧
    (echo853.crossings.Pairwise (· < ·) ∧ 250 * 20000 / 3798 ≤ 1316 ∧ 30000 ≤ 30000 ∧
      (∀ t ∈ silence.crossings, t < 250 * 20000 / 3798 ∨ 30000 < t)) := by decide

/-- The manual's echo at a container with its shape table, read with a temperature and with the substitute; a miss; and an
echo from BEYOND. -/
theorem witness_FillArithmetic_reading :
    demo.store.running = some demoConfig ∧
    ∃ k, demo.containers[0]? = some k ∧ demoConfig.shapes[k.cfg.shape]? = some [(0, 0), (2000, 3000)] ∧
      ([(0, 0), (2000, 3000)] : List (Nat × Nat)).getLast? = some (2000, 3000) ∧
      echoCapture k.cfg.blanking echo853 = some (7250, false) ∧ echoCapture k.cfg.blanking silence = none ∧
      fillHeight (distance 7250 (speedOfSound 42)) k.cfg.blanking k.floorRef false = some (853, false) ∧
      fillHeight (distance 30000 (speedOfSound 42)) k.cfg.blanking k.floorRef false = none :=
  ⟨rfl, _, rfl, rfl, rfl, by decide, by decide, by decide, by decide⟩

/-- Below, at and above the limits: 750 and 650 of 1,000 per-mille for due, of a capacity of 3,000 L. -/
theorem witness_ThresholdEvaluation :
    (∃ k, demo.containers[0]? = some k ∧ k.level = none) ∧
    (∀ v ∈ [2249, 2250, 1950, 1949],
      let s := box fun x => { x with level := some ⟨0, v, 0, 0, 0, false⟩ }
      (∃ k l, s.containers[0]? = some k ∧ k.level = some l ∧ min (l.volume + k.added) (s.capacity k) = v) ∧
      ¬ ∃ e ∈ s.dueList, e.container = 0) ∧
    (∃ e ∈ { demo with dueList := [⟨0, 0, true, 750⟩] }.dueList, e.container = 0) ∧
    (750 ≤ 1950 * 1000 / 3000 + 100 ∧ 1949 * 1000 / 3000 + 100 < 750 ∧ 2249 * 1000 / 3000 < 750 ∧
      750 ≤ 2250 * 1000 / 3000) := by
  refine ⟨⟨_, rfl, rfl⟩, ?_, by decide, by decide⟩
  intro v hv
  simp only [List.mem_cons, List.not_mem_nil, or_false] at hv
  rcases hv with rfl | rfl | rfl | rfl <;> exact ⟨⟨_, _, rfl, rfl, by decide⟩, by decide⟩

theorem witness_EmptyingEnds :
    ∃ k n, (lifting .verifying).containers[0]? = some k ∧ k.note = some n := ⟨_, _, rfl, rfl⟩

theorem witness_Unseat :
    ∀ st ∈ [ServiceState.serving, .claimed, .released, .verifying, .suspended],
      (lifting st).attends = true ∧ (lifting st).wake.held = [] ∧
      (∃ k, (lifting st).containers[(0 : Fin 8).val]? = some k ∧ k.seated = true ∧ k.state = st) ∧
      ∃ k, (box fun x => { x with seated := false }).containers[(0 : Fin 8).val]? = some k ∧ k.seated = false := by
  intro st _
  cases st <;> exact ⟨rfl, rfl, ⟨_, rfl, rfl, rfl⟩, ⟨_, rfl, rfl⟩⟩

theorem witness_Reseat :
    (demo.attends = true ∧ demo.wake.held = [] ∧ ∃ k, demo.containers[(0 : Fin 8).val]? = some k ∧ k.seated = true) ∧
    (let s := (lifting .lifted).updContainer 0 fun x => { x with seated := false }
     s.attends = true ∧ s.wake.held = [] ∧
     ∃ k, s.containers[(0 : Fin 8).val]? = some k ∧ k.seated = false ∧ k.pair = .idle ∧ k.state = .lifted) ∧
    (let s := box Container.displacedRecord
     s.attends = true ∧ s.wake.held = [] ∧
     ∃ k, s.containers[(0 : Fin 8).val]? = some k ∧ k.seated = false ∧ k.pair = .idle ∧ k.state ≠ .lifted ∧
      k.displaced = true) :=
  ⟨⟨rfl, rfl, _, rfl, rfl⟩, ⟨rfl, rfl, _, rfl, by decide⟩, ⟨rfl, rfl, _, rfl, by decide⟩⟩

/-- A waiting read at inlet 0. -/
def queried : State := flap fun x => { x with slot := some 9, query := some ⟨9, 0, 4000⟩ }

/-- Every branch of a read at inlet 0. -/
theorem witness_CardRead :
    (demo.attends = true ∧ demo.inlets[(15 : Fin 16).val]? = none) ∧
    (∃ x, (flap fun x => { x with cfg := { x.cfg with reader := false } }).inlets[(0 : Fin 16).val]? = some x ∧
      x.cfg.reader = false) ∧
    (∃ x w, (flap fun x => openedInlet x ⟨.card, some 5, some 9, false⟩ 0).inlets[(0 : Fin 16).val]? = some x ∧
      x.cfg.reader = true ∧ (5 : BitVec 40) ≠ 0 ∧ x.state = .unlocked ∧ x.window = some w ∧
      w.card = some (5 : BitVec 40).toNat ∧ w.card ≠ some (6 : BitVec 40).toNat) ∧
    (∃ x, (flap fun x => { x with state := .inUse }).inlets[(0 : Fin 16).val]? = some x ∧ x.state = .inUse) ∧
    (∃ x, (flap fun x => { x with state := .serviceOpen }).inlets[(0 : Fin 16).val]? = some x ∧ x.state = .serviceOpen) ∧
    (∃ x, queried.inlets[(0 : Fin 16).val]? = some x ∧ x.state = .locked ∧ x.slot ≠ none) ∧
    (∃ x k, carded.inlets[(0 : Fin 16).val]? = some x ∧ x.state = .locked ∧ x.slot = none ∧ x.query = none ∧
      carded.containers[x.cfg.container]? = some k ∧
      carded.cards.entries.find? (fun y => decide (y.number = (5 : BitVec 40).toNat)) = some resident ∧
      refusedFor x k resident carded.clock.count (windowsFor 5 carded.inlets) = none ∧
      refusedFor { x with stuck := true } k resident 0 0 = some .fault ∧
      refusedFor x { k with displaced := true } resident 0 0 = some .fault ∧
      refusedFor x { k with state := .suspended } resident 0 0 = some .suspended ∧
      refusedFor x { k with hot := true } resident 0 0 = some .hot ∧
      refusedFor x { k with state := .claimed } resident 0 0 = some .emptying ∧
      refusedFor x k { resident with blocked := true } 0 0 = some .blocked ∧
      refusedFor x k { resident with kind := .temporary, expiry := some 7 } 7 0 = some .expired ∧
      refusedFor x k { resident with kind := .temporary, expiry := some 7 } 6 0 = none ∧
      refusedFor x k { resident with rights := 0 } 0 0 = some .noRight ∧
      refusedFor x { k with full := true } resident 0 0 = some .full ∧
      refusedFor x k resident 0 2 = some .quota ∧ refusedFor x k resident 0 1 = none) ∧
    (∀ loaded open' full, ∃ x k g,
      let s : State := { box (fun k => { k with full := full }) with
        cards := ⟨[], loaded, 0⟩
        store := { demo.store with running := some { demoConfig with queryEnabled := open', fallbackOpen := if open' then 4 else 0 } } }
      s.inlets[(0 : Fin 16).val]? = some x ∧ s.containers[x.cfg.container]? = some k ∧ s.store.running = some g ∧
      s.cards.entries.find? (fun y => decide (y.number = (5 : BitVec 40).toNat)) = none ∧ x.stuck = false ∧
      k.displaced = false ∧ k.state = .serving ∧ k.hot = false ∧ s.cards.loaded = loaded ∧ g.queryEnabled = open' ∧
      g.fallbackOpen.getLsbD k.cfg.fraction = open' ∧ k.full = full) := by
  refine ⟨by decide, ⟨_, rfl, rfl⟩, ⟨_, _, rfl, rfl, by decide, rfl, rfl, by decide⟩, ⟨_, rfl, rfl⟩, ⟨_, rfl, rfl⟩,
    ⟨_, rfl, by decide⟩, ⟨_, _, rfl, rfl, rfl, rfl, rfl, by decide⟩, ?_⟩
  intro loaded open' full
  exact ⟨_, _, _, rfl, rfl, rfl, rfl, rfl, rfl, rfl, rfl, rfl, rfl, by show BitVec.getLsbD (if open' then 4 else 0) 2 = open'; cases open' <;> decide, rfl⟩

/-- The refusals of a read of an unlisted card: STUCK, displaced, SUSPENDED, hot, in a lift. -/
theorem witness_CardRead_unlisted :
    (∃ x, (flap fun x => { x with stuck := true }).inlets[(0 : Fin 16).val]? = some x ∧ x.stuck = true) ∧
    (∃ k, (box fun k => { k with displaced := true }).containers[0]? = some k ∧ k.displaced = true) ∧
    (∃ k, (lifting .suspended).containers[0]? = some k ∧ k.displaced = false ∧ k.state = .suspended) ∧
    (∃ k, (box fun k => { k with hot := true }).containers[0]? = some k ∧ k.displaced = false ∧
      k.state ≠ .suspended ∧ k.hot = true) ∧
    (∃ k, (lifting .claimed).containers[0]? = some k ∧ k.displaced = false ∧ k.state ≠ .suspended ∧ k.hot = false ∧
      k.state ≠ .serving) ∧ demo.cards.entries.find? (fun y => decide (y.number = 5)) = none :=
  ⟨⟨_, rfl, rfl⟩, ⟨_, rfl, rfl⟩, ⟨_, rfl, by decide⟩, ⟨_, rfl, by decide⟩, ⟨_, rfl, by decide⟩, rfl⟩

theorem witness_InletTimers :
    demo.power = .running ∧ demo.wake.state = .awake ∧
    (∃ x, (flap fun x => openedInlet x ⟨.card, some 5, some 9, false⟩ 0).inlets[(0 : Fin 16).val]? = some x ∧
      x.windowTimer = some 10000 ∧ x.state = .unlocked) ∧
    (∃ x q, queried.inlets[(0 : Fin 16).val]? = some x ∧ x.query = some q) ∧
    (∀ b, ∃ x, (flap fun x => { x with state := .serviceOpen, serviceTimer := some 300000, lidOpen := b }).inlets[
      (0 : Fin 16).val]? = some x ∧ x.serviceTimer = some 300000 ∧ x.state = .serviceOpen ∧ x.lidOpen = b) ∧
    (∃ x, (flap fun x => { x with lidOpen := true, lid := some ⟨.forced, 0⟩, limitTimer := some 60000 }).inlets[
      (0 : Fin 16).val]? = some x ∧ x.limitTimer = some 60000) :=
  ⟨rfl, rfl, ⟨_, rfl, rfl, rfl⟩, ⟨_, _, rfl, rfl⟩, fun _ => ⟨_, rfl, rfl, rfl, rfl⟩, ⟨_, rfl, rfl⟩⟩

/-- An opening in every inlet state and in a lift; a closing by every cause, in a lift, and with the service time run out. -/
theorem witness_LidEvents :
    (demo.attends = true ∧ demo.wake.held = []) ∧
    (∀ st, ∃ x, (flap fun x => { x with state := st }).inlets[(0 : Fin 16).val]? = some x ∧ x.lidOpen = false ∧
      demo.inState x.cfg.container .lifted = false ∧ x.state = st) ∧
    (lifting .lifted).inState 0 .lifted = true ∧
    (∀ cause b, ∃ x l k w, (flap fun x => { x with
        state := .serviceOpen, lidOpen := true, lid := some ⟨cause, 0⟩, runOut := b
        window := some ⟨.card, some 5, some 9, false⟩ }).inlets[(0 : Fin 16).val]? = some x ∧ x.lidOpen = true ∧
      demo.inState x.cfg.container .lifted = false ∧ x.lid = some l ∧ demo.containers[x.cfg.container]? = some k ∧
      l.cause = cause ∧ x.state = .serviceOpen ∧ x.runOut = b ∧ x.window = some w ∧ w.card = some 5) ∧
    (∀ st, ∃ x l k, ({ lifting .claimed with inlets := (flap fun x => { x with
        state := st, lidOpen := true, lid := some ⟨.service, 0⟩ }).inlets } : State).inlets[(0 : Fin 16).val]? = some x ∧
      x.lidOpen = true ∧ x.lid = some l ∧ l.cause = .service ∧ x.state = st ∧
      (lifting .claimed).containers[x.cfg.container]? = some k ∧
      (lifting .claimed).inState x.cfg.container .lifted = false) :=
  ⟨⟨rfl, rfl⟩, fun _ => ⟨_, rfl, rfl, rfl, rfl⟩, by decide,
    fun _ _ => ⟨_, _, _, _, rfl, rfl, rfl, rfl, rfl, rfl, rfl, rfl, rfl, rfl⟩,
    fun _ => ⟨_, _, _, rfl, rfl, rfl, rfl, rfl, rfl, rfl⟩⟩

/-- A lid opened in a service opening closes after a card has unlocked the inlet: the cycle is counted, and the window
stands (R73, R90). -/
theorem test_service_lid_closes_in_window :
    let w : WindowRecord := ⟨.card, some 5, some 9, false⟩
    let t := after (.lidClosing 0) (flap fun x => { x with
      state := .unlocked, lidOpen := true, lid := some ⟨.service, 0⟩, window := some w, windowTimer := some 9000 })
    t.inlets[0]?.map (fun x => (x.state, x.window, x.windowTimer, x.cycles)) =
      some (.unlocked, some w, some 9000, 1) := by decide +kernel

theorem witness_OpenInlet :
    (demo.listening .service = true ∧ demo.configured = true ∧ Port.service ≠ .vehicle ∧
      demo.inlets[(3 : Byte).toNat]? = none) ∧
    (∀ st, ∃ x k, (lifting st).inlets[(0 : Byte).toNat]? = some x ∧ (lifting st).containers[x.cfg.container]? = some k ∧
      k.state = st) ∧
    (∀ st b, ∃ x k, (flap fun x => { x with state := st, lidOpen := b }).inlets[(0 : Byte).toNat]? = some x ∧
      demo.containers[x.cfg.container]? = some k ∧ k.state = .serving ∧ x.state = st ∧ x.lidOpen = b) :=
  ⟨by decide, fun _ => ⟨_, _, rfl, rfl, rfl⟩, fun _ _ => ⟨_, _, rfl, rfl, rfl, rfl, rfl⟩⟩

/-- A SET clock. -/
def timed : State := { carded with clock := ⟨1000, true, 1000⟩ }

/-- A temporary card, with an expiry. -/
def visitor (n e : Nat) : Card := ⟨n, 9, .temporary, false, 0x08, 255, 0, 0, some e⟩

/-- A table without a place. -/
def crowded : State := { timed with cards := ⟨List.replicate 3000 resident, true, 0⟩ }

/-- Put Card refused and taken, from both ports, with expiries at the limit of 259,200 s and past it; the other requests with
card number 0, a listed and an unlisted one. -/
theorem witness_CardTableRequests :
    (timed.listening .service = true ∧ timed.configured = true ∧ Port.service ≠ .vehicle ∧
      (cardBytes (visitor 7 260200)).length = 18) ∧
    demo.clock.set = false ∧
    (timed.clock.set = true ∧ field (cardBytes resident) 7 1 ≠ 1) ∧
    (field (cardBytes (visitor 7 260201)) 7 1 = 1 ∧ timed.clock.count + 259200 < field (cardBytes (visitor 7 260201)) 14 4 ∧
      ¬ timed.clock.count + 259200 < field (cardBytes (visitor 7 260200)) 14 4) ∧
    (∃ e, timed.cards.entries.find? (fun e => decide (e.number = field (cardBytes (visitor 5 7)) 0 5)) = some e ∧
      e.kind ≠ .temporary) ∧
    timed.cards.entries.find? (fun e => decide (e.number = field (cardBytes (visitor 7 7)) 0 5)) = none ∧
    (field (cardBytes { resident with number := 0 }) 0 5 = 0 ∧ field (cardBytes { resident with household := 0 }) 5 2 = 0 ∧
      2 < field (be 5 1 ++ be 2 1 ++ [3]) 7 1 ∧ 1 < field (be 5 1 ++ be 2 1 ++ [0, 2]) 8 1 ∧
      field (cardBytes { resident with expiry := some 1 }) 14 4 ≠ 0 ∧
      field (cardBytes { resident with kind := .temporary }) 14 4 = 0) ∧
    (carriedCard (cardBytes resident) = some { resident with used := 0, overflow := 0 } ∧
      timed.cards.entries.length < 3000 ∧ timed.cards.entries.Pairwise (fun a b => a.number < b.number)) ∧
    (field (be 5 0) 0 5 = 0 ∧ field (be 5 5) 0 5 ≠ 0 ∧ (∃ e ∈ timed.cards.entries, e.number = field (be 5 5) 0 5) ∧
      (∀ e ∈ timed.cards.entries, e.number ≠ field (be 5 6) 0 5)) :=
  ⟨by decide, by decide, by decide, by decide, ⟨_, rfl, by decide⟩, by decide, by decide, by decide, by decide⟩

theorem witness_CardTableRequests_full :
    3000 ≤ crowded.cards.entries.length ∧
    crowded.cards.entries.find? (fun e => decide (e.number = field (cardBytes (visitor 7 7)) 0 5)) = none := by
  constructor
  · exact Nat.le_of_eq List.length_replicate.symm
  · refine List.find?_eq_none.mpr fun e he => ?_
    rw [show e = resident from List.eq_of_mem_replicate he]
    decide

/-- A waiting query for card 9 at inlet 0, over the table of a resident 5. -/
def asked : State := { carded with inlets := queried.inlets }

/-- The operands of an answer: inlet, card, verdict, entry. -/
def answer (i n v : Nat) (entry : List Byte) : List Byte := be 1 i ++ be 5 n ++ be 1 v ++ entry

/-- The refusals, the too late answers, the denial and the allowance of each reason. -/
theorem witness_AnswerCard :
    (asked.listening .network = true ∧ asked.configured = true ∧ (answer 0 9 0 []).length = 7 ∧
      (answer 0 9 1 (cardBytes { resident with number := 9 })).length = 25) ∧
    (asked.inlets.length ≤ field (answer 3 9 0 []) 0 1 ∧ field (answer 0 0 0 []) 1 5 = 0 ∧ 1 < field (answer 0 9 2 []) 6 1) ∧
    ¬ (asked.inlets.length ≤ field (answer 2 9 1 []) 0 1 ∨ field (answer 2 9 1 []) 1 5 = 0 ∨ 1 < field (answer 2 9 1 []) 6 1) ∧
    (field (answer 0 9 1 (cardBytes resident)) 7 5 ≠ 9 ∧ carriedCard ((answer 0 9 1 (cardBytes { resident with number := 9, household := 0 })).drop 7) = none) ∧
    (carriedCard ((answer 0 9 1 (cardBytes { resident with number := 9 })).drop 7) = some { resident with number := 9 } ∧
      field (answer 0 9 1 (cardBytes { resident with number := 9 })) 7 5 = 9 ∧ asked.cards.entries.length < 3000) ∧
    (¬ ∃ e ∈ asked.cards.entries, e.number = 9) ∧
    (∃ x q k, asked.inlets[0]? = some x ∧ x.query = some q ∧ q.card = 9 ∧ asked.containers[x.cfg.container]? = some k ∧
      x.stuck = false ∧ k.displaced = false ∧ k.state = .serving ∧ k.hot = false ∧ k.full = false) ∧
    (asked.cards.put { resident with number := 9 }).entries.find? (fun y => decide (y.number = 9)) =
      some { resident with number := 9 } ∧
    (∃ x, asked.inlets[1]? = some x ∧ x.query = none) :=
  ⟨by decide, by decide, by decide, by decide, by decide, by decide, ⟨_, _, _, rfl, rfl, rfl, rfl, by decide⟩, by decide,
    ⟨_, rfl, rfl⟩⟩

theorem witness_CursorRequests : carded.listening .service = true ∧ carded.configured = true := by decide

/-- A journal below and at each of its limits, by its length alone. -/
def filled (n : Nat) : State :=
  { demo with journal := { demo.journal with entries := List.replicate n ⟨1, 0, true, 0, .forced 3⟩, nextSeq := n + 1 } }

theorem witness_JournalPlaces :
    ((filled 1007).journal.entries.length < 1008 ∧ 1008 ≤ (filled 1008).journal.entries.length ∧
      (filled 1023).journal.entries.length < 1024 ∧ 1024 ≤ (filled 1024).journal.entries.length) ∧
    (demo.listening .network = true ∧ demo.configured = true ∧
      ((0 : Byte) ++ (0 : Byte) ++ (0 : Byte) ++ (0 : Byte)).toNat < 1 - 0) ∧
    (let s : State := { demo with journal := ⟨[⟨40600, 0, true, 0, .forced 3⟩], 40601, 0, 0, false, false⟩ }
     let oldest := s.journal.nextSeq - s.journal.entries.length
     ((0 : Byte) ++ (0 : Byte) ++ (0x9E : Byte) ++ (0x97 : Byte)).toNat < oldest ∧
     oldest ≤ ((0 : Byte) ++ (0 : Byte) ++ (0x9E : Byte) ++ (0x98 : Byte)).toNat ∧
     ((0 : Byte) ++ (0 : Byte) ++ (0x9E : Byte) ++ (0x98 : Byte)).toNat < s.journal.nextSeq ∧
     s.journal.nextSeq ≤ ((0 : Byte) ++ (0 : Byte) ++ (0x9E : Byte) ++ (0x99 : Byte)).toNat) := by
  refine ⟨?_, by decide, by decide⟩
  simp only [filled, List.length_replicate]
  decide

/-- Every session answer; a change of the carrier line both ways; its loss with and without a claim to withdraw. -/
theorem witness_SessionsAndCarrier :
    (demo.listening .vehicle = true ∧ demo.configured = true ∧ demo.store.running = some demoConfig) ∧
    (((0 : Byte) ++ (0 : Byte)).toNat = 0 ∧ ((0 : Byte) ++ (12 : Byte)).toNat ≠ 0) ∧
    (called.lift.session = some session ∧ session.vehicle = ((0 : Byte) ++ (12 : Byte)).toNat ∧
      session.vehicle ≠ ((0 : Byte) ++ (13 : Byte)).toNat ∧ session.claimed = none) ∧
    (demo.lift.session = none ∧ demoConfig.vehicles ≠ [] ∧
      (∀ v ∈ demoConfig.vehicles, v.id ≠ ((0 : Byte) ++ (13 : Byte)).toNat)) ∧
    (∃ v, demoConfig.vehicles.find? (fun v => decide (v.id = ((0 : Byte) ++ (12 : Byte)).toNat)) = some v ∧
      v.fractions = 0x04) ∧
    { demoConfig with vehicles := [] }.vehicles = [] ∧
    (∀ st, ∃ x k, (lifting st).lift.session = some x ∧ x.claimed = some 0 ∧ (lifting st).containers[0]? = some k ∧
      k.state = st) ∧
    (demo.attends = true ∧ demo.lift.carrier = false ∧ called.attends = true ∧ called.lift.carrier = true) ∧
    (∀ st, let s : State := { lifting st with lift := { (lifting st).lift with carrierLoss := some 3000 } }
      s.power = .running ∧ s.lift.carrierLoss = some 3000 ∧ s.inState 0 .claimed = decide (st = .claimed) ∧
      s.inState 0 .released = decide (st = .released)) :=
  ⟨by decide, by decide, by decide, by decide, ⟨_, rfl, rfl⟩, rfl, fun _ => ⟨_, _, rfl, rfl, rfl, rfl⟩, by decide,
    fun _ => ⟨rfl, rfl, rfl, rfl⟩⟩

/-- Every answer to Claim Lift and Cancel Lift, the release condition both ways, and both waits. -/
theorem witness_LiftRequestsAndWaits :
    (demo.listening .vehicle = true ∧ demo.configured = true ∧ demo.lift.session = none) ∧
    ((lifting .claimed).lift.session = some { session with claimed := some 0 } ∧
      ({ session with claimed := some 0 } : Session).claimed ≠ none) ∧
    (called.lift.session = some session ∧
      ¬ (session.claimed ≠ none ∨
        ∃ k ∈ called.containers, k.state = .claimed ∨ k.state = .released ∨ k.state = .lifted) ∧
      called.containers[(2 : Byte).toNat]? = none) ∧
    (∃ k, called.containers[(1 : Byte).toNat]? = some k ∧ session.fractions.getLsbD k.cfg.fraction = true ∧
      (0 : FractionSet).getLsbD k.cfg.fraction = false ∧ k.hot = false ∧ { k with hot := true }.hot = true ∧
      k.state = .serving ∧ k.displaced = false ∧ { k with displaced := true }.displaced = true) ∧
    (∀ st, ∃ k, (lifting st).containers[0]? = some k ∧ k.state = st) ∧
    (∀ y ∈ (lifting .claimed).inlets, y.cfg.container = 0 → y.state = .locked ∧ y.lidOpen = false) ∧
    (∃ y ∈ (flap fun x => { x with lidOpen := true }).inlets, y.cfg.container = 0 ∧ (y.state ≠ .locked ∨ y.lidOpen = true)) ∧
    ((∃ k ∈ (lifting .verifying).containers, k.state = .lifted ∨ k.state = .verifying) ∧
      (∀ k ∈ called.containers, k.state ≠ .lifted ∧ k.state ≠ .verifying)) ∧
    ((lifting .claimed).power = .running ∧ (lifting .claimed).lift.lidWait = some 60000 ∧
      (lifting .released).lift.releaseWait = some 180000) :=
  ⟨by decide, by decide, by decide, ⟨_, rfl, by decide⟩, fun _ => ⟨_, rfl, rfl⟩, by decide, by decide, by decide, by decide⟩

/-- Container 0 is the only one in its state. -/
theorem witness_LiftRequestsAndWaits_alone (st : ServiceState) (h : st = .claimed ∨ st = .released) :
    ∀ (d : Nat) (m : Container), (lifting st).containers[d]? = some m → m.state = st → d = 0 := by
  intro d m hm hs
  match d, hm with
  | 0, _ => rfl
  | 1, hm => cases hm; rcases h with rfl | rfl <;> cases hs
  | _ + 2, hm => cases hm

/-- Slots at inlets 0 and 2, one of which passes the test, and one slot that is empty. -/
theorem witness_LiftRequestsAndWaits_outcomes :
    let xs := ((flap fun x => { x with slot := some 9 }).updInlet 2 fun x => { x with slot := some 7 }).inlets
    let test := fun x : Inlet => decide (x.cfg.container = 1)
    (∃ x, xs[2]? = some x ∧ x.slot ≠ none ∧ test x = true) ∧ (∃ x, xs[0]? = some x ∧ test x = false) ∧
    (∃ x, xs[1]? = some x ∧ x.slot = none) ∧ slotOutcomes test .emptying 0 xs = [(2, .emptying)] ∧
    slotOutcomes (fun _ => true) .emptying 0 xs = [(0, .emptying), (2, .emptying)] :=
  ⟨⟨_, rfl, by decide⟩, ⟨_, rfl, by decide⟩, ⟨_, rfl, rfl⟩, by decide, by decide⟩

theorem witness_DozeAndWakeTimer :
    (demo.judgeIdle.attends = true ∧ demo.judgeIdle.wake.idleTimer = some 10000) ∧
    (dozing.power = .running ∧ dozing.wake.state = .doze ∧ dozing.wake.wakeTimer = some 3400000) ∧
    (∃ k, (dozing.updContainer 1 fun x => { x with nextDue := 3400000 }).containers[1]? = some k ∧ k.nextDue ≤ 3400000) ∧
    (∃ x, (dozing.updInlet 2 fun x => { x with limitTimer := some 3400000 }).inlets[2]? = some x ∧
      x.limitTimer = some 3400000) :=
  ⟨by decide, by decide, ⟨_, rfl, by decide⟩, ⟨_, rfl, rfl⟩⟩

/-- A settling part that holds nothing. -/
theorem witness_ArrivalsAreHeld :
    (dozing.power = .running ∧ dozing.wake.state ≠ .awake ∧ (∀ h, h ∉ dozing.wake.held)) ∧
    ((waking [.receive .service]).wake.state ≠ .awake ∧
      HeldCause.receive .service ∈ (waking [.receive .service]).wake.held ∧
      (waking [.receive .service]).wake.state = .waking) ∧
    (requestParts (.restart .service 1 [] ⟨0, 0⟩) = some (.service, 0x06, 1, []) ∧ ([⟨0, true⟩] : List RxByte) ≠ [] ∧
      (waking [.restart]).wake.state = .waking ∧ HeldCause.restart ∈ (waking [.restart]).wake.held) ∧
    (∃ x, dozing.inlets[(0 : Fin 16).val]? = some x ∧ x.cfg.reader = true ∧ x.lidOpen = false) ∧
    (∃ x, ({ dozing with inlets := (flap fun x => { x with lidOpen := true, limitTimer := some 60000 }).inlets } : State).inlets[
      (0 : Fin 16).val]? = some x ∧ x.lidOpen = true ∧ x.limitTimer = some 60000) ∧
    dozing.lift.carrier ≠ true ∧
    (∃ k, dozing.containers[(0 : Fin 8).val]? = some k ∧ k.seated = true) ∧
    (∃ k, ({ dozing with containers := (box fun k => { k with seated := false }).containers } : State).containers[
      (0 : Fin 8).val]? = some k ∧ k.seated = false) :=
  ⟨⟨rfl, by decide, fun _ h => nomatch h⟩, by decide, by decide, ⟨_, rfl, rfl, rfl⟩, ⟨_, rfl, rfl, rfl⟩, by decide, ⟨_, rfl, rfl⟩,
    ⟨_, rfl, rfl⟩⟩

theorem witness_WakeSettlingEnd :
    (waking [.read 0 5, .receive .service]).power = .running ∧
    (waking [.read 0 5, .receive .service]).wake.state = .waking ∧
    (waking [.read 0 5, .receive .service]).wake.settleEnd = some 2 := by decide

/-- Taking a held cause: a due moment come and not come, a limit timer come, not come and stopped, a lid event in each inlet
state and by each cause, in a lift and outside one. -/
theorem witness_WakeSettlingEnd_causes :
    (demo.attends = true ∧ ∃ k, demo.containers[(0 : Fin 8).val]? = some k ∧ k.nextDue ≤ demo.now) ∧
    (∃ k, (box fun k => { k with nextDue := 1 }).containers[(0 : Fin 8).val]? = some k ∧ demo.now < k.nextDue) ∧
    (∀ n ∈ [0, 1], ∃ x, (flap fun x => { x with lidOpen := true, limitTimer := some n }).inlets[(0 : Fin 16).val]? =
      some x ∧ x.limitTimer = some n) ∧
    (∃ x, demo.inlets[(0 : Fin 16).val]? = some x ∧ ∀ t, x.limitTimer = some t → demo.now < t) ∧
    (∀ st, ∃ x, (flap fun x => { x with state := st }).inlets[0]? = some x ∧ x.lidOpen = false ∧ x.state = st ∧
      demo.inState x.cfg.container .lifted = false) ∧
    (lifting .lifted).inState 0 .lifted = true ∧
    (∀ st cause b, ∃ x l k w, (flap fun x => { x with
        state := st, lidOpen := true, lid := some ⟨cause, 0⟩, runOut := b
        window := some ⟨.card, some 5, some 9, false⟩ }).inlets[0]? = some x ∧ x.lidOpen = true ∧
      demo.inState x.cfg.container .lifted = false ∧ x.lid = some l ∧ demo.containers[x.cfg.container]? = some k ∧
      l.cause = cause ∧ x.state = st ∧ x.runOut = b ∧ x.window = some w ∧ w.card = some 5) :=
  ⟨⟨rfl, _, rfl, by decide⟩, ⟨_, rfl, by decide⟩, fun _ _ => ⟨_, rfl, rfl⟩, ⟨_, rfl, fun _ h => nomatch h⟩,
    fun _ => ⟨_, rfl, rfl, rfl, rfl⟩, by decide,
    fun _ _ _ => ⟨_, _, _, _, rfl, rfl, rfl, rfl, rfl, rfl, rfl, rfl, rfl, rfl⟩⟩

/-! ## A sound state that is not the reset state, and a step from it -/

/-- One entry in the journal; a read of it under way. -/
def journaled : State :=
  { demo with journal := ⟨[⟨1, 0, true, 0, .forced 3⟩], 2, 0, 0, false, false⟩, pending := [.readJournal .network 1 []] }

theorem witness_StepKeepsJournalSound : journaled.JournalSound ∧ ∃ t, step journaled = .next t :=
  ⟨⟨⟨by decide, by decide, by decide, by decide, by decide, by decide, by decide, by decide⟩, fun p => by cases p <;> decide⟩,
    _, rfl⟩

theorem witness_StepKeepsCardsSound :
    carded.cards.Sound ∧ ∃ t, step { carded with pending := [.putCard .network 1 (cardBytes resident)] } = .next t :=
  ⟨⟨by decide, by decide, fun k hk => by
      obtain rfl : k = resident := by simpa [carded] using hk
      exact ⟨by decide, by decide, by decide, by decide, by decide, by decide⟩⟩, _, rfl⟩

theorem witness_StepKeepsStoreAndClockSound :
    let s : State := { demo with
      store := { demo.store with memory := [(3, 7)], writes := [⟨4095, [1], none⟩] }, pending := [.writeCompletion] }
    s.store.Sound ∧ s.clock.Sound ∧ ∃ t, step s = .next t :=
  ⟨⟨by decide, by decide⟩, by unfold Clock.Sound; decide, _, rfl⟩

/-- A container on the due list, about to be emptied. -/
theorem witness_StepKeepsDueListSound :
    let s : State := { demo with dueList := [⟨1, 0, true, 750⟩], pending := [.clockCount] }
    s.DueListSound ∧ ∃ t, step s = .next t :=
  ⟨⟨by decide, by decide, by decide⟩, _, rfl⟩

/-- A session, container 1 waiting for its lift. -/
def liftable : State :=
  { called with
    containers := called.containers.modify 1 fun k => { k with state := .claimed }
    lift := { called.lift with session := some { session with claimed := some 1 }, lidWait := some 60000 }
    pending := [.cancelLift .vehicle 1 []] }

theorem witness_StepKeepsLiftSound : liftable.LiftSound ∧ ∃ t, step liftable = .next t := by
  refine ⟨⟨?_, ?_, ?_, fun _ h => (nomatch h), ?_, ?_, ?_, ?_, ?_⟩, _, rfl⟩
  · intro k hk
    have h : k = freshContainer (boxSettings [0]) true 0 ∨
        k = { freshContainer (boxSettings [1, 2]) true 0 with state := .claimed } := by
      simpa [liftable, called, demo] using hk
    rcases h with rfl | rfl <;>
      exact ⟨by decide, by decide, by decide,
        ⟨by decide, by decide, by decide, by decide, by decide, fun n hn => nomatch hn⟩, by decide, by decide, by decide⟩
  · intro c d k m hc hd hk hm
    match c, d, hc, hd with
    | 0, _, hc, _ => cases hc; cases hk
    | _, 0, _, hd => cases hd; cases hm
    | 1, 1, _, _ => rfl
    | _ + 2, _, hc, _ => cases hc
    | _, _ + 2, _, hd => cases hd
  · intro c k b hc
    match c, hc with
    | 0, hc => cases hc; cases b <;> decide
    | 1, hc => cases hc; cases b <;> decide
    | _ + 2, hc => cases hc
  · intro x c hx hc
    cases hx; cases hc; decide
  · intro c k hc hk
    match c, hc with
    | 0, hc => cases hc; rcases hk with hk | hk <;> cases hk
    | 1, _ => rfl
    | _ + 2, hc => cases hc
  · exact ⟨fun _ => ⟨1, by decide⟩, fun _ => by decide⟩
  · refine ⟨fun h => (nomatch h), ?_⟩
    rintro ⟨c, hc⟩
    match c, hc with
    | 0, hc => cases hc
    | 1, hc => cases hc
    | _ + 2, hc => cases hc
  · decide

/-- An open lid in use, and its closing. -/
def flapping : State := { depositing with pending := [.lidClosing 0] }

theorem witness_StepKeepsInletsSound : flapping.InletsSound ∧ ∃ t, step flapping = .next t := by
  have h : ∀ x ∈ flapping.inlets, x =
      { openedInlet (freshInlet (flapSettings 0) false 0) ⟨.card, some 5, some 9, false⟩ 0 with
        state := .inUse, windowTimer := none, lidOpen := true, lid := some ⟨.window, 0⟩, limitTimer := some 60000 } ∨
      x = freshInlet (flapSettings 1) false 0 := by
    intro x hx
    simpa [flapping, depositing, flap, demo, State.updInlet, List.modify] using hx
  refine ⟨⟨by decide, ?_, by decide⟩, _, rfl⟩
  intro x hx
  rcases h x hx with rfl | rfl <;>
    exact ⟨by decide, by decide, by decide, by decide, by decide, by decide, by decide, by decide, fun h => (nomatch h),
      by decide, by decide, by decide, by decide⟩

theorem witness_StepKeepsPortsSound :
    let s : State := { busy demo .service (.holding 1 1) .skipping (some 20) with pending := [.gapTimerExpiry .service] }
    s.PortsSound ∧ ∃ t, step s = .next t :=
  ⟨fun p => by cases p <;> exact ⟨fun _ h => (nomatch h), by decide, by decide⟩, _, rfl⟩

theorem witness_StepKeepsWakeSound :
    let s : State := { dozing with pending := [.receiveActivityInDoze .network] }
    s.WakeSound ∧ ∃ t, step s = .next t :=
  ⟨⟨by decide, by decide, by decide, by decide, by decide⟩, _, rfl⟩

end Sys2Proof.Tests
end

section
/-! PROOFS. A step and the queue: a step takes the front command, every command has a next state, and no command touches
the commands that wait behind it. -/

namespace Sys2Proof.Machine

/-! ## One step -/

theorem step_cons (c : Instr) (rest : List Instr) (s : State) :
    step { s with pending := c :: rest } = exec c { s with pending := rest } := rfl

theorem step_due {s : State} {c : Instr} {rest : List Instr} (hq : s.pending = []) (hd : s.dueCommands = c :: rest) :
    step s = exec c s := by
  simp [step, hq, hd]

theorem step_idle {s : State} (hq : s.pending = []) (hd : s.dueCommands = []) : step s = .next s.tick := by
  simp [step, hq, hd]

/-- Settles O1: a step reads the queue's head before anything else. -/
theorem stepTakesFrontCommand : Obligations.StepTakesFrontCommand := step_cons

/-! ## Every command answers -/

theorem whenRunning_answers (s : State) (f : State → State) : ∃ t, whenRunning s f = .next t := by
  unfold whenRunning
  split
  · exact ⟨_, rfl⟩
  · exact ⟨_, rfl⟩

/-- Settles O4: the supply's three commands answer by themselves, every other one as an effect of the running part. -/
theorem execAlwaysAnswers : Obligations.ExecAlwaysAnswers := by
  intro c s
  by_cases hc : Supply c
  · cases c with
    | powerOnReset => exact ⟨_, rfl⟩
    | powerLoss => exact ⟨_, rfl⟩
    | powerOnResetEnd l b =>
      by_cases hp : s.power = .starting
      · exact ⟨_, if_pos hp⟩
      · exact ⟨_, if_neg hp⟩
    | _ => exact hc.elim
  · obtain ⟨f, hf⟩ := exec_whenRunning hc
    obtain ⟨t, ht⟩ := whenRunning_answers s f
    exact ⟨t, (hf s).trans ht⟩

/-! ## No command touches the queue -/

/-- An effect on the state that leaves the waiting commands as they stand. -/
def KeepsQueue (f : State → State) : Prop := ∀ s, (f s).pending = s.pending

theorem whenRunning_pending {f : State → State} {s t : State} (h : whenRunning s f = .next t) (hf : KeepsQueue f) :
    t.pending = s.pending := by
  rcases whenRunning_cases s t f h with ⟨_, rfl⟩ | ⟨_, rfl⟩
  · rfl
  · simpa using hf s

theorem SameOutside.pending_eq {s t : State} (h : SameOutside s t) : t.pending = s.pending := by
  obtain ⟨_, _, _, _, hq⟩ := h
  exact hq

/-- The arrival of any request of the index, at any port, in any receiver state. -/
theorem arrive_keepsQueue {r : Request} (hr : r ∈ requestIndex) (p : Port) (tag : Byte) (ps : List Byte) :
    KeepsQueue (r.arrive p tag ps) := fun s => (arrive_same hr p tag ps s).pending_eq

theorem receiveRun_keepsQueue (p : Port) (bs : List RxByte) : KeepsQueue fun s => s.receiveRun p bs :=
  fun s => (receiveRun_same s p bs).pending_eq

theorem unpowered_pending (s : State) (q : Power) : (s.unpowered q).pending = s.pending := rfl

theorem powerOnEnd_pending (s : State) (l : FieldLines) (b : Bool) : (s.powerOnEnd l b).pending = s.pending := by
  unfold State.powerOnEnd
  dsimp only
  split
  · rfl
  · simp

theorem endCheck_pending (s : State) (p : Port) (image : Option StationConfig) :
    (s.endCheck p image).pending = s.pending := by
  unfold State.endCheck
  dsimp only
  split
  · simp
  · split <;> simp

/-- Settles O3: by the kind of the command. A request arrives at a port, and `arrive_keepsQueue` serves them all; every
other command's effect is built of operations whose frame lemma lists the queue. -/
theorem execKeepsQueue : Obligations.ExecKeepsQueue := by
  intro c s t h
  unfold exec at h
  cases c with
  -- the supply
  | powerOnReset | powerLoss =>
    cases h
    exact unpowered_pending s _
  | powerOnResetEnd l b =>
    simp only [execPowerOnResetEnd] at h
    split at h <;> cases h
    · simpa using powerOnEnd_pending s l b
    · rfl
  -- requests
  | readStatus p tag ps | acknowledgeAttention p tag ps | setAttentionMask p tag ps | readClock p tag ps
  | setClock p tag ps | writeImageBlock p tag ps | applyConfiguration p tag ps | readContainer p tag ps
  | suspendContainer p tag ps | resumeContainer p tag ps | measureNow p tag ps | readDueList p tag ps
  | clearHeat p tag ps | readInlet p tag ps | openInlet p tag ps | putCard p tag ps | removeCard p tag ps
  | blockCard p tag ps | clearCardTable p tag ps | markTableLoaded p tag ps | readCards p tag ps
  | rewindCardCursor p tag ps | readQueries p tag ps | answerCard p tag ps | readJournal p tag ps
  | rewindJournalCursor p tag ps | releaseJournal p tag ps | announce p tag ps | endSession p tag ps
  | claimLift p tag ps | cancelLift p tag ps | readLift p tag ps =>
    exact whenRunning_pending h (arrive_keepsQueue (by simp [requestIndex]) p tag ps)
  | restart p tag ps l =>
    refine whenRunning_pending h fun s => ?_
    simpa using arrive_keepsQueue (r := reqRestart) (by simp [requestIndex]) p tag ps (s.moveLines l)
  -- bytes that are no request of the index
  | badFrame p bs => exact whenRunning_pending h (receiveRun_keepsQueue p bs)
  | unknownRequestCode p code tag ps =>
    refine whenRunning_pending h fun s => ?_
    split
    · simpa using (takeFrame_same (s.startGap p) p code tag ps).pending_eq
    · exact receiveRun_keepsQueue p _ s
  -- one operation
  | replySent | lidOpening | lidClosing | unseat | reseat | measurementCompletion | clockCount | writeCompletion =>
    exact whenRunning_pending h fun s => by simp
  -- an operation under a condition: a timer that runs, a record that is there, the part awake
  | gapTimerExpiry | queryWaitExpiry | windowExpiry | serviceTimerExpiry | spacingExpiry | lidWaitExpiry
  | releaseWaitExpiry | carrierLoss | writerIdleExpiry | idleTimerExpiry | wakeTimerExpiry | wakeSettlingEnd
  | resetLineAssertion | receiveActivityInDoze =>
    refine whenRunning_pending h fun s => ?_
    split <;> simp
  | lidOpenLimitExpiry | dueEvent | cardRead | carrierChange =>
    refine whenRunning_pending h fun s => ?_
    repeat' split
    all_goals simp
  | applyCheckCompletion l =>
    refine whenRunning_pending h fun s => ?_
    split
    · rfl
    · simpa using endCheck_pending { s.moveLines l with drawn := _ } _ _

end Sys2Proof.Machine
end

section
/-! PROOFS. The debouncers of the field lines (R7, R72): the accepted levels, the changes that have stood out their interval,
what a look at the lines and a move of the lines do to each record, and that acceptance leaves the pins as they show. -/

namespace Sys2Proof.Machine

/-! ## The accepted levels -/

/-- The lid level that a held cause brings to inlet i, if it is one of its lid events. -/
def HeldCause.lidOf (i : Nat) : HeldCause → Option Bool
  | .lid j o _ => if j = i then some o else none
  | _ => none

/-- The seat level that a held cause brings to container c, if it is one of its seat changes. -/
def HeldCause.seatOf (c : Nat) : HeldCause → Option Bool
  | .seat j o _ => if j = c then some o else none
  | _ => none

theorem lidOf_eq_some_iff (i : Nat) (h : HeldCause) (b : Bool) : h.lidOf i = some b ↔ ∃ t, h = .lid i b t := by
  cases h <;> simp [HeldCause.lidOf]

theorem seatOf_eq_some_iff (c : Nat) (h : HeldCause) (b : Bool) : h.seatOf c = some b ↔ ∃ t, h = .seat c b t := by
  cases h <;> simp [HeldCause.seatOf]

/-- The last level among held causes, or b where none brings one. -/
def lastLevel (f : HeldCause → Option Bool) (hs : List HeldCause) (b : Bool) : Bool := (hs.reverse.findSome? f).getD b

theorem lastLevel_eq_foldl (f : HeldCause → Option Bool) (hs : List HeldCause) (b : Bool) :
    lastLevel f hs b = hs.foldl (fun o h => (f h).getD o) b := by
  induction hs using List.reverseRecOn with
  | nil => rfl
  | append_singleton hs h ih =>
    rw [List.foldl_append, ← ih]
    cases hf : f h <;> simp [lastLevel, hf]

/-- Where `f` picks out the causes that `mk` makes, the last level is that of the last such cause, if there is one. -/
theorem lastLevel_eq_iff {f : HeldCause → Option Bool} {mk : Bool → Nat → HeldCause}
    (hf : ∀ h b, f h = some b ↔ ∃ t, h = mk b t) (hs : List HeldCause) (o b : Bool) :
    lastLevel f hs o = b ↔
      (∃ before t later, hs = before ++ mk b t :: later ∧ ∀ c u, mk c u ∉ later) ∨ o = b ∧ ∀ c u, mk c u ∉ hs := by
  have hnone : ∀ l : List HeldCause, (∀ h ∈ l, f h = none) ↔ ∀ c u, mk c u ∉ l := by
    simp only [Option.eq_none_iff_forall_ne_some, ne_eq, hf]
    exact fun l => ⟨fun h c u hm => h _ hm c ⟨u, rfl⟩, fun h _ hm c ⟨u, he⟩ => h c u (he ▸ hm)⟩
  have hlast : hs.reverse.findSome? f = some b ↔
      ∃ before t later, hs = before ++ mk b t :: later ∧ ∀ c u, mk c u ∉ later := by
    simp only [List.findSome?_eq_some_iff, hf, ← hnone]
    constructor
    · rintro ⟨later, _, before, hs', ⟨t, rfl⟩, hlater⟩
      exact ⟨before.reverse, t, later.reverse, by simpa using congrArg List.reverse hs', by simpa using hlater⟩
    · rintro ⟨before, t, later, rfl, hlater⟩
      exact ⟨later.reverse, _, before.reverse, by simp, ⟨t, rfl⟩, by simpa using hlater⟩
  rw [lastLevel, Option.getD_eq_iff, hlast, ← hnone]
  simp [and_comm]

theorem debouncedLid_eq (s : State) (i : Nat) (x : Inlet) :
    s.debouncedLid i x = lastLevel (HeldCause.lidOf i) s.wake.held x.lidOpen := by
  rw [lastLevel_eq_foldl, State.debouncedLid]
  congr 1
  funext o h
  cases h with
  | lid j b t => by_cases hj : j = i <;> simp [HeldCause.lidOf, hj]
  | _ => rfl

theorem debouncedSeat_eq (s : State) (c : Nat) (k : Container) :
    s.debouncedSeat c k = lastLevel (HeldCause.seatOf c) s.wake.held k.seated := by
  rw [lastLevel_eq_foldl, State.debouncedSeat]
  congr 1
  funext o h
  cases h with
  | seat j b t => by_cases hj : j = c <;> simp [HeldCause.seatOf, hj]
  | _ => rfl

/-- The accepted lid level of the statements is the one the debouncer computes. -/
theorem acceptedLid_iff (s : State) (i : Nat) (x : Inlet) (b : Bool) : s.acceptedLid i x b ↔ s.debouncedLid i x = b := by
  rw [debouncedLid_eq, lastLevel_eq_iff (lidOf_eq_some_iff i)]
  rfl

theorem acceptedSeat_iff (s : State) (c : Nat) (k : Container) (b : Bool) :
    s.acceptedSeat c k b ↔ s.debouncedSeat c k = b := by
  rw [debouncedSeat_eq, lastLevel_eq_iff (seatOf_eq_some_iff c)]
  rfl

/-! ## A look at the lines (R7, R72) -/

theorem watchInlets_get (s : State) (n : Nat) (xs : List Inlet) (i : Nat) :
    (watchInlets s n xs)[i]? = (xs[i]?).map fun x =>
      { x with rejectStart := watch (s.lidDiffers (n + i) x) x.rejectStart s.now } := by
  induction xs generalizing n i with
  | nil => simp [watchInlets]
  | cons x xs ih =>
    cases i with
    | zero => simp [watchInlets]
    | succ i => simp [watchInlets, ih, Nat.add_assoc, Nat.add_comm 1 i]

theorem watchContainers_get (s : State) (n : Nat) (ks : List Container) (c : Nat) :
    (watchContainers s n ks)[c]? = (ks[c]?).map fun k =>
      { k with seatHold := watch (s.seatDiffers (n + c) k) k.seatHold s.now } := by
  induction ks generalizing n c with
  | nil => simp [watchContainers]
  | cons k ks ih =>
    cases c with
    | zero => simp [watchContainers]
    | succ c => simp [watchContainers, ih, Nat.add_assoc, Nat.add_comm 1 c]

/-- A look changes the interval of an inlet record alone. -/
theorem watchInlets_clear (s : State) (n : Nat) (xs : List Inlet) :
    (watchInlets s n xs).map (fun x => { x with rejectStart := none }) =
      xs.map fun x => { x with rejectStart := none } := by
  apply List.ext_getElem?
  intro i
  simp [watchInlets_get, Function.comp_def]

/-- A look changes the interval of a container record alone. -/
theorem watchContainers_clear (s : State) (n : Nat) (ks : List Container) :
    (watchContainers s n ks).map (fun k => { k with seatHold := none }) =
      ks.map fun k => { k with seatHold := none } := by
  apply List.ext_getElem?
  intro c
  simp [watchContainers_get, Function.comp_def]

theorem watch_of_bne (b c : Bool) (start : Option Nat) (now : Nat) :
    watch (b != c) start now = if b = c then none else some (start.getD now) := by
  cases b <;> cases c <;> rfl

theorem tick_running {s : State} (hp : s.power = .running) :
    s.tick = { s with
      now := s.now + 1, inlets := watchInlets s 0 s.inlets, containers := watchContainers s 0 s.containers } :=
  if_pos hp

theorem tick_not_running {s : State} (hp : s.power ≠ .running) : s.tick = s := if_neg hp

/-- What a millisecond does to the record of an inlet with a given accepted level. -/
theorem watchInlets_accepted {s : State} {i : Nat} {x : Inlet} {b : Bool} (hx : s.inlets[i]? = some x)
    (ha : s.acceptedLid i x b) : (watchInlets s 0 s.inlets)[i]? = some { x with
      rejectStart := if (s.lines.lid.getLsbD i == x.cfg.activeHigh) = b then none
        else some (x.rejectStart.getD s.now) } := by
  rw [acceptedLid_iff] at ha
  simp [watchInlets_get, hx, State.lidDiffers, State.lidOff, ha, watch_of_bne, lidLevel]

/-- What a millisecond does to the record of a container with a given accepted level. -/
theorem watchContainers_accepted {s : State} {c : Nat} {k : Container} {b : Bool} (hk : s.containers[c]? = some k)
    (ha : s.acceptedSeat c k b) : (watchContainers s 0 s.containers)[c]? = some { k with
      seatHold := if s.lines.seat.getLsbD c = b then none else some (k.seatHold.getD s.now) } := by
  rw [acceptedSeat_iff] at ha
  simp [watchContainers_get, hk, State.seatDiffers, State.seatOff, ha, watch_of_bne, seatLevel]

/-! ## A move of the lines (R7, R72) -/

theorem withLines_inlet_unmoved {s : State} {l : FieldLines} {i : Nat} {x : Inlet} (hx : s.inlets[i]? = some x)
    (hl : l.lid.getLsbD i = s.lines.lid.getLsbD i) : (s.withLines l).inlets[i]? = some x := by
  simp [withLines_inlet, hx, hl, atChange]

theorem withLines_inlet_moved {s : State} {l : FieldLines} {i : Nat} {x : Inlet} {b : Bool}
    (hx : s.inlets[i]? = some x) (hl : l.lid.getLsbD i ≠ s.lines.lid.getLsbD i) (ha : s.acceptedLid i x b) :
    (s.withLines l).inlets[i]? = some { x with
      rejectStart := if (l.lid.getLsbD i == x.cfg.activeHigh) = b then none else some s.now } := by
  rw [acceptedLid_iff] at ha
  simp [withLines_inlet, hx, hl, atChange, State.lidOff, ha, lidLevel]

theorem withLines_container_unmoved {s : State} {l : FieldLines} {c : Nat} {k : Container}
    (hk : s.containers[c]? = some k) (hl : l.seat.getLsbD c = s.lines.seat.getLsbD c) :
    (s.withLines l).containers[c]? = some k := by
  simp [withLines_container, hk, hl, atChange]

theorem withLines_container_moved {s : State} {l : FieldLines} {c : Nat} {k : Container} {b : Bool}
    (hk : s.containers[c]? = some k) (hl : l.seat.getLsbD c ≠ s.lines.seat.getLsbD c) (ha : s.acceptedSeat c k b) :
    (s.withLines l).containers[c]? = some { k with
      seatHold := if l.seat.getLsbD c = b then none else some s.now } := by
  rw [acceptedSeat_iff] at ha
  simp [withLines_container, hk, hl, atChange, State.seatOff, ha, seatLevel]

/-! ## Changes that have stood out their interval (R7, R72) -/

theorem ranOut_iff {now width : Nat} (h : width ≠ 0) (start : Option Nat) :
    ranOut now width start = true ↔ ∃ t, start = some t ∧ t + width ≤ now := by
  simp [ranOut, h, Option.any_eq_true]

theorem ranOut_rejectMs (now : Nat) (w : RejectWidth) (start : Option Nat) :
    ranOut now (rejectMs w) start = true ↔
      ∀ v, rejectInterval w = some v → ∃ t, start = some t ∧ t + v ≤ now := by
  cases w with
  | off => simp [ranOut, rejectMs, rejectInterval]
  | ms4 | ms16 | ms64 => simp [rejectMs, rejectInterval, ranOut_iff]

theorem mem_stoodLid {s : State} {n : Nat} {x : Inlet} {e : Nat × Bool} :
    e ∈ s.stoodLid n x ↔ e = (n, lidLevel s.lines n x.cfg) ∧ s.debouncedLid n x = !lidLevel s.lines n x.cfg ∧
      ranOut s.now (rejectMs x.cfg.width) x.rejectStart = true := by
  simp [State.stoodLid, State.lidDiffers, State.lidOff, Bool.eq_not, ne_comm, and_comm]

theorem mem_stoodSeat {s : State} {n : Nat} {k : Container} {e : Nat × Bool} :
    e ∈ s.stoodSeat n k ↔ e = (n, seatLevel s.lines n) ∧ s.debouncedSeat n k = !seatLevel s.lines n ∧
      ranOut s.now 200 k.seatHold = true := by
  simp [State.stoodSeat, State.seatDiffers, State.seatOff, Bool.eq_not, ne_comm, and_comm]

theorem stoodLid_number {s : State} {n i : Nat} {x : Inlet} {b : Bool} (h : (i, b) ∈ s.stoodLid n x) : i = n := by
  obtain ⟨he, _⟩ := mem_stoodLid.mp h
  exact congrArg Prod.fst he

theorem stoodSeat_number {s : State} {n c : Nat} {k : Container} {b : Bool} (h : (c, b) ∈ s.stoodSeat n k) : c = n := by
  obtain ⟨he, _⟩ := mem_stoodSeat.mp h
  exact congrArg Prod.fst he

theorem lidHasCome_iff (s : State) (i : Nat) (b : Bool) :
    s.lidHasCome i b ↔ ∃ x, s.inlets[i]? = some x ∧ (i, b) ∈ s.stoodLid i x := by
  simp only [State.lidHasCome, acceptedLid_iff, ← ranOut_rejectMs, mem_stoodLid, Prod.mk.injEq, true_and, lidLevel]
  constructor
  · rintro ⟨x, hx, rfl, h⟩
    exact ⟨x, hx, rfl, h⟩
  · rintro ⟨x, hx, rfl, h⟩
    exact ⟨x, hx, rfl, h⟩

theorem seatHasCome_iff (s : State) (c : Nat) (b : Bool) :
    s.seatHasCome c b ↔ ∃ k, s.containers[c]? = some k ∧ (c, b) ∈ s.stoodSeat c k := by
  simp only [State.seatHasCome, acceptedSeat_iff, ← ranOut_iff (show 200 ≠ 0 by decide), mem_stoodSeat, Prod.mk.injEq,
    true_and, seatLevel]
  constructor
  · rintro ⟨k, hk, rfl, h⟩
    exact ⟨k, hk, rfl, h⟩
  · rintro ⟨k, hk, rfl, h⟩
    exact ⟨k, hk, rfl, h⟩

end Sys2Proof.Machine
end

section
/-! PROOFS. The events that have come (R1, R7, R31, R72): which they are, each against its own condition, and the order in
which idle steps take them (log entry 2). -/

namespace Sys2Proof.Machine

/-! ## Lists in the order of their places -/

/-- The list's places ascend, and lie from lo up to, but not including, hi. -/
def Placed {α : Type} (place : α → Nat) (lo hi : Nat) (l : List α) : Prop :=
  lo ≤ hi ∧ l.Pairwise (fun a b => place a < place b) ∧ ∀ a ∈ l, lo ≤ place a ∧ place a < hi

theorem Placed.pairwise {α : Type} {place : α → Nat} {lo hi : Nat} {l : List α} (h : Placed place lo hi l) :
    l.Pairwise fun a b => place a < place b := by
  obtain ⟨_, hp, _⟩ := h
  exact hp

theorem placed_nil {α : Type} (place : α → Nat) {lo hi : Nat} (h : lo ≤ hi) : Placed place lo hi [] := by
  simp [Placed, h]

theorem placed_singleton {α : Type} {place : α → Nat} {lo hi : Nat} {a : α} (h : lo ≤ place a) (h' : place a < hi) :
    Placed place lo hi [a] := by
  simp [Placed, h, h']
  omega

theorem Placed.append {α : Type} {place : α → Nat} {lo mid hi : Nat} {l m : List α} (hl : Placed place lo mid l)
    (hm : Placed place mid hi m) : Placed place lo hi (l ++ m) := by
  obtain ⟨hlo, hlp, hlb⟩ := hl
  obtain ⟨hhi, hmp, hmb⟩ := hm
  refine ⟨by omega, List.pairwise_append.mpr ⟨hlp, hmp, fun a ha b hb => ?_⟩, fun a ha => ?_⟩
  · have := hlb a ha
    have := hmb b hb
    omega
  · rcases List.mem_append.mp ha with ha | ha
    · have := hlb a ha
      omega
    · have := hmb a ha
      omega

theorem Placed.widen {α : Type} {place : α → Nat} {lo hi lo' hi' : Nat} {l : List α} (h : Placed place lo hi l)
    (hlo : lo' ≤ lo) (hhi : hi ≤ hi') : Placed place lo' hi' l := by
  obtain ⟨hle, hp, hb⟩ := h
  refine ⟨by omega, hp, fun a ha => ?_⟩
  have := hb a ha
  omega

/-- Records that each give what lies in their own stretch of w places give, one after another, an ascending list. -/
theorem placed_eachOf {α β : Type} {place : β → Nat} {f : Nat → α → List β} {lo w m : Nat}
    (hf : ∀ n x, n < m → Placed place (lo + w * n) (lo + w * (n + 1)) (f n x)) {n : Nat} {xs : List α}
    (hn : n + xs.length ≤ m) : Placed place (lo + w * n) (lo + w * m) (eachOf f n xs) := by
  induction xs generalizing n with
  | nil => exact placed_nil place (Nat.add_le_add_left (Nat.mul_le_mul_left w hn) lo)
  | cons x xs ih =>
    rw [List.length_cons] at hn
    exact (hf n x (by omega)).append (ih (by omega))

theorem placed_records {α β : Type} {place : β → Nat} {f : Nat → α → List β} {lo hi w m : Nat} {xs : List α}
    (hhi : lo + w * m = hi) (hf : ∀ n x, n < m → Placed place (lo + w * n) (lo + w * (n + 1)) (f n x))
    (hm : xs.length ≤ m) : Placed place lo hi (eachOf f 0 xs) := by
  subst hhi
  simpa using placed_eachOf hf (n := 0) (xs := xs) (by omega)

/-! ## The lines' events -/

theorem mem_eachOf_stoodLid (s : State) (i : Nat) (b : Bool) :
    (i, b) ∈ eachOf s.stoodLid 0 s.inlets ↔ s.lidHasCome i b := by
  simp only [mem_eachOf, lidHasCome_iff, Nat.zero_add]
  constructor
  · rintro ⟨j, x, hx, h⟩
    obtain rfl := stoodLid_number h
    exact ⟨x, hx, h⟩
  · rintro ⟨x, hx, h⟩
    exact ⟨i, x, hx, h⟩

theorem mem_eachOf_stoodSeat (s : State) (c : Nat) (b : Bool) :
    (c, b) ∈ eachOf s.stoodSeat 0 s.containers ↔ s.seatHasCome c b := by
  simp only [mem_eachOf, seatHasCome_iff, Nat.zero_add]
  constructor
  · rintro ⟨j, k, hk, h⟩
    obtain rfl := stoodSeat_number h
    exact ⟨k, hk, h⟩
  · rintro ⟨k, hk, h⟩
    exact ⟨c, k, hk, h⟩

theorem stoodLid_cases (s : State) (n : Nat) (x : Inlet) : s.stoodLid n x = [] ∨ ∃ b, s.stoodLid n x = [(n, b)] := by
  unfold State.stoodLid
  split
  · exact .inr ⟨_, rfl⟩
  · exact .inl rfl

theorem stoodSeat_cases (s : State) (n : Nat) (k : Container) :
    s.stoodSeat n k = [] ∨ ∃ b, s.stoodSeat n k = [(n, b)] := by
  unfold State.stoodSeat
  split
  · exact .inr ⟨_, rfl⟩
  · exact .inl rfl

theorem stoodLids_placed (s : State) : Placed Prod.fst 0 s.inlets.length (eachOf s.stoodLid 0 s.inlets) := by
  refine placed_records (w := 1) (by omega) (fun n x _ => ?_) le_rfl
  rcases stoodLid_cases s n x with h | ⟨b, h⟩ <;> rw [h]
  · exact placed_nil _ (by omega)
  · exact placed_singleton (by omega) (by omega)

theorem stoodSeats_placed (s : State) : Placed Prod.fst 0 s.containers.length (eachOf s.stoodSeat 0 s.containers) := by
  refine placed_records (w := 1) (by omega) (fun n k _ => ?_) le_rfl
  rcases stoodSeat_cases s n k with h | ⟨b, h⟩ <;> rw [h]
  · exact placed_nil _ (by omega)
  · exact placed_singleton (by omega) (by omega)

/-! ## The places of the commands that have come -/

/-- A command that may have come stands at its place alone. -/
theorem placed_when {b : Bool} {c : Instr} {p : Nat} (h : eventPlace c = p) :
    Placed eventPlace p (p + 1) (when b c) := by
  unfold when
  split
  · exact placed_singleton (by omega) (by omega)
  · exact placed_nil _ (by omega)

theorem lidCommands_placed (s : State) {n : Nat} (hn : n < 16) (x : Inlet) :
    Placed eventPlace (1 + 1 * n) (1 + 1 * (n + 1)) (lidCommands s n x) := by
  unfold lidCommands
  rcases stoodLid_cases s n x with h | ⟨b, h⟩ <;> rw [h]
  · exact placed_nil _ (by omega)
  · have hp : ∀ b, eventPlace (if b = true then .lidOpening (Fin.ofNat 16 n) else .lidClosing (Fin.ofNat 16 n)) =
        1 + n := by
      intro b
      cases b <;> simp [eventPlace, hn]
    exact placed_singleton (by rw [hp]; omega) (by rw [hp]; omega)

theorem seatCommands_placed (s : State) {n : Nat} (hn : n < 8) (k : Container) :
    Placed eventPlace (17 + 1 * n) (17 + 1 * (n + 1)) (seatCommands s n k) := by
  unfold seatCommands
  rcases stoodSeat_cases s n k with h | ⟨b, h⟩ <;> rw [h]
  · exact placed_nil _ (by omega)
  · have hp : ∀ b, eventPlace (if b = true then .reseat (Fin.ofNat 8 n) else .unseat (Fin.ofNat 8 n)) = 17 + n := by
      intro b
      cases b <;> simp [eventPlace, hn]
    exact placed_singleton (by rw [hp]; omega) (by rw [hp]; omega)

theorem inletCommands_placed (s : State) {n : Nat} (hn : n < 16) (x : Inlet) :
    Placed eventPlace (28 + 4 * n) (28 + 4 * (n + 1)) (inletCommands s n x) := by
  have hv : (Fin.ofNat 16 n).val = n := Nat.mod_eq_of_lt hn
  exact (((placed_when (by simp only [eventPlace, hv])).append
    (placed_when (by simp only [eventPlace, hv]; omega))).append
    (placed_when (by simp only [eventPlace, hv]; omega))).append
    (placed_when (by simp only [eventPlace, hv]; omega))

theorem containerCommands_placed (s : State) {n : Nat} (hn : n < 8) (k : Container) :
    Placed eventPlace (92 + 2 * n) (92 + 2 * (n + 1)) (containerCommands s n k) := by
  have hv : (Fin.ofNat 8 n).val = n := Nat.mod_eq_of_lt hn
  exact (placed_when (by simp only [eventPlace, hv])).append (placed_when (by simp only [eventPlace, hv]; omega))

theorem awakeCommands_placed {s : State} (hi : s.inlets.length ≤ 16) (hc : s.containers.length ≤ 8) :
    Placed eventPlace 25 113 (awakeCommands s) := by
  have inlets : Placed eventPlace 28 92 (eachOf (inletCommands s) 0 s.inlets) :=
    placed_records rfl (fun n x hn => inletCommands_placed s hn x) hi
  have containers : Placed eventPlace 92 108 (eachOf (containerCommands s) 0 s.containers) :=
    placed_records rfl (fun n k hn => containerCommands_placed s hn k) hc
  have gaps : Placed eventPlace 25 28 (gapCommands s .network ++ gapCommands s .vehicle ++ gapCommands s .service) :=
    .append (.append (placed_when (by rfl)) (placed_when (by rfl))) (placed_when (by rfl))
  exact (gaps.append inlets).append containers |>.append (placed_when (by rfl)) |>.append (placed_when (by rfl))
    |>.append (placed_when (by rfl)) |>.append (placed_when (by rfl)) |>.append (placed_when (by rfl))

theorem dozeCommands_placed (s : State) : Placed eventPlace 113 115 (dozeCommands s) :=
  .append (placed_when (by rfl)) (placed_when (by rfl))

/-- The events that have come stand in the order of log entry 2, each at a place of its own. -/
theorem dueCommands_placed {s : State} (hi : s.inlets.length ≤ 16) (hc : s.containers.length ≤ 8) :
    Placed eventPlace 0 115 s.dueCommands := by
  have lids : Placed eventPlace 1 17 (eachOf (lidCommands s) 0 s.inlets) :=
    placed_records rfl (fun n x hn => lidCommands_placed s hn x) hi
  have seats : Placed eventPlace 17 25 (eachOf (seatCommands s) 0 s.containers) :=
    placed_records rfl (fun n k hn => seatCommands_placed s hn k) hc
  have others : Placed eventPlace 25 115 (if s.wake.state = .awake then awakeCommands s else dozeCommands s) := by
    split
    · exact (awakeCommands_placed hi hc).widen (by omega) (by omega)
    · exact (dozeCommands_placed s).widen (by omega) (by omega)
  unfold State.dueCommands
  split
  · exact (placed_when (by rfl)).append lids |>.append seats |>.append others
  · exact placed_nil _ (by omega)

/-! ## Which commands have come -/

theorem mem_when {b : Bool} {c e : Instr} : e ∈ when b c ↔ b = true ∧ e = c := by
  cases b <;> simp [when]

theorem come_iff (s : State) (t : Option Nat) : come s.now t = true ↔ s.timerHasCome t := by
  simp [come, State.timerHasCome, Option.any_eq_true]

/-- What the records of a list give, each by its number in the range m. -/
theorem mem_eachOf_fin {α β : Type} {f : Nat → α → List β} {xs : List α} {m : Nat} (h : xs.length ≤ m) {b : β} :
    b ∈ eachOf f 0 xs ↔ ∃ i : Fin m, ∃ x, xs[i.val]? = some x ∧ b ∈ f i.val x := by
  simp only [mem_eachOf, Nat.zero_add]
  constructor
  · rintro ⟨i, x, hx, hb⟩
    obtain ⟨hi, _⟩ := List.getElem?_eq_some_iff.mp hx
    exact ⟨⟨i, by omega⟩, x, hx, hb⟩
  · rintro ⟨i, x, hx, hb⟩
    exact ⟨i, x, hx, hb⟩

theorem mem_lidCommands {s : State} (h : s.inlets.length ≤ 16) {e : Instr} :
    e ∈ eachOf (lidCommands s) 0 s.inlets ↔
      ∃ i : Fin 16, (e = .lidOpening i ∧ s.lidHasCome i true) ∨ (e = .lidClosing i ∧ s.lidHasCome i false) := by
  simp only [mem_eachOf_fin h, lidHasCome_iff, lidCommands, List.mem_map]
  refine exists_congr fun i => ?_
  constructor
  · rintro ⟨x, hx, ⟨j, b⟩, hb, rfl⟩
    obtain rfl := stoodLid_number hb
    cases b
    · exact .inr ⟨by simp, x, hx, hb⟩
    · exact .inl ⟨by simp, x, hx, hb⟩
  · rintro (⟨rfl, x, hx, hb⟩ | ⟨rfl, x, hx, hb⟩)
    · exact ⟨x, hx, _, hb, by simp⟩
    · exact ⟨x, hx, _, hb, by simp⟩

theorem mem_seatCommands {s : State} (h : s.containers.length ≤ 8) {e : Instr} :
    e ∈ eachOf (seatCommands s) 0 s.containers ↔
      ∃ c : Fin 8, (e = .reseat c ∧ s.seatHasCome c true) ∨ (e = .unseat c ∧ s.seatHasCome c false) := by
  simp only [mem_eachOf_fin h, seatHasCome_iff, seatCommands, List.mem_map]
  refine exists_congr fun c => ?_
  constructor
  · rintro ⟨k, hk, ⟨j, b⟩, hb, rfl⟩
    obtain rfl := stoodSeat_number hb
    cases b
    · exact .inr ⟨by simp, k, hk, hb⟩
    · exact .inl ⟨by simp, k, hk, hb⟩
  · rintro (⟨rfl, k, hk, hb⟩ | ⟨rfl, k, hk, hb⟩)
    · exact ⟨k, hk, _, hb, by simp⟩
    · exact ⟨k, hk, _, hb, by simp⟩

theorem mem_inletCommands {s : State} {i : Fin 16} {x : Inlet} {e : Instr} :
    e ∈ inletCommands s i.val x ↔
      s.timerHasCome (x.query.map CardQuery.waitEnd) ∧ e = .queryWaitExpiry i ∨
      s.timerHasCome x.windowTimer ∧ e = .windowExpiry i ∨
      s.timerHasCome x.serviceTimer ∧ e = .serviceTimerExpiry i ∨
      s.timerHasCome x.limitTimer ∧ e = .lidOpenLimitExpiry i := by
  simp [inletCommands, mem_when, come_iff]

theorem mem_containerCommands {s : State} {c : Fin 8} {k : Container} {e : Instr} :
    e ∈ containerCommands s c.val k ↔
      s.timerHasCome k.pair.spacing ∧ e = .spacingExpiry c ∨ k.nextDue ≤ s.now ∧ e = .dueEvent c := by
  simp [containerCommands, mem_when, come_iff]

theorem mem_gapCommands {s : State} {p : Port} {e : Instr} :
    e ∈ gapCommands s p ↔ s.timerHasCome (s.port p).gap ∧ e = .gapTimerExpiry p := by
  simp [gapCommands, mem_when, come_iff]

theorem mem_dozeCommands {s : State} {e : Instr} :
    e ∈ dozeCommands s ↔
      s.timerHasCome s.wake.wakeTimer ∧ e = .wakeTimerExpiry ∨
      s.timerHasCome s.wake.settleEnd ∧ e = .wakeSettlingEnd s.lines [] := by
  simp [dozeCommands, mem_when, come_iff]

theorem mem_awakeCommands {s : State} (hi : s.inlets.length ≤ 16) (hc : s.containers.length ≤ 8) {e : Instr} :
    e ∈ awakeCommands s ↔
      (∃ p, s.timerHasCome (s.port p).gap ∧ e = .gapTimerExpiry p) ∨
      (∃ i : Fin 16, ∃ x, s.inlets[i.val]? = some x ∧ e ∈ inletCommands s i x) ∨
      (∃ c : Fin 8, ∃ k, s.containers[c.val]? = some k ∧ e ∈ containerCommands s c k) ∨
      s.timerHasCome s.lift.lidWait ∧ e = .lidWaitExpiry ∨
      s.timerHasCome s.lift.releaseWait ∧ e = .releaseWaitExpiry ∨
      s.timerHasCome s.lift.carrierLoss ∧ e = .carrierLoss ∨
      s.timerHasCome s.store.writerIdle ∧ e = .writerIdleExpiry ∨
      s.timerHasCome s.wake.idleTimer ∧ e = .idleTimerExpiry := by
  have ports : (∃ p, s.timerHasCome (s.port p).gap ∧ e = .gapTimerExpiry p) ↔
      e ∈ gapCommands s .network ∨ e ∈ gapCommands s .vehicle ∨ e ∈ gapCommands s .service := by
    simp only [mem_gapCommands]
    constructor
    · rintro ⟨p, h⟩
      cases p with
      | network => exact .inl h
      | vehicle => exact .inr (.inl h)
      | service => exact .inr (.inr h)
    · rintro (h | h | h)
      · exact ⟨_, h⟩
      · exact ⟨_, h⟩
      · exact ⟨_, h⟩
  simp only [awakeCommands, List.mem_append, mem_eachOf_fin hi, mem_eachOf_fin hc, ports, mem_when, come_iff, or_assoc]

theorem mem_dueCommands {s : State} {e : Instr} :
    e ∈ s.dueCommands ↔ s.power = .running ∧
      (s.clock.next ≤ s.now ∧ e = .clockCount ∨
       e ∈ eachOf (lidCommands s) 0 s.inlets ∨ e ∈ eachOf (seatCommands s) 0 s.containers ∨
       s.wake.state = .awake ∧ e ∈ awakeCommands s ∨ s.wake.state ≠ .awake ∧ e ∈ dozeCommands s) := by
  unfold State.dueCommands
  by_cases hp : s.power = .running
  · by_cases hw : s.wake.state = .awake
    · simp [hp, hw, mem_when]
    · simp [hp, hw, mem_when]
  · simp [hp]

end Sys2Proof.Machine
end

section
/-! PROOFS. A step with no command waiting: which events have come and what a millisecond does (log entry 2), and what a move
of the field lines does (R7, R72; log entry 24). -/

namespace Sys2Proof.Machine

/-! ## The events of the statements are the commands of an idle step -/

theorem hasCome_of_mem_awakeCommands {s : State} (hi : s.inlets.length ≤ 16) (hc : s.containers.length ≤ 8) {e : Instr}
    (hp : s.power = .running) (hw : s.wake.state = .awake) (he : e ∈ awakeCommands s) : s.hasCome e := by
  refine ⟨hp, ?_⟩
  rcases (mem_awakeCommands hi hc).mp he with ⟨p, h, rfl⟩ | ⟨i, x, hx, hm⟩ | ⟨c, k, hk, hm⟩ | hm
  · exact ⟨hw, h⟩
  · rcases mem_inletCommands.mp hm with ⟨h, rfl⟩ | ⟨h, rfl⟩ | ⟨h, rfl⟩ | ⟨h, rfl⟩
    · obtain ⟨_, hwait, hm⟩ := h
      obtain ⟨q, hq, rfl⟩ := Option.map_eq_some_iff.mp hwait
      exact ⟨hw, x, q, hx, hq, hm⟩
    · exact ⟨hw, x, hx, h⟩
    · exact ⟨hw, x, hx, h⟩
    · exact ⟨hw, x, hx, h⟩
  · rcases mem_containerCommands.mp hm with ⟨h, rfl⟩ | ⟨h, rfl⟩
    · exact ⟨hw, k, hk, h⟩
    · exact ⟨hw, k, hk, h⟩
  · rcases hm with ⟨h, rfl⟩ | ⟨h, rfl⟩ | ⟨h, rfl⟩ | ⟨h, rfl⟩ | ⟨h, rfl⟩ <;> exact ⟨hw, h⟩

theorem hasCome_of_mem {s : State} (hi : s.inlets.length ≤ 16) (hc : s.containers.length ≤ 8) {e : Instr}
    (he : e ∈ s.dueCommands) : s.hasCome e := by
  obtain ⟨hp, ⟨h, rfl⟩ | hm | hm | ⟨hw, hm⟩ | ⟨hw, hm⟩⟩ := mem_dueCommands.mp he
  · exact ⟨hp, h⟩
  · obtain ⟨i, ⟨rfl, h⟩ | ⟨rfl, h⟩⟩ := (mem_lidCommands hi).mp hm
    · exact ⟨hp, h⟩
    · exact ⟨hp, h⟩
  · obtain ⟨c, ⟨rfl, h⟩ | ⟨rfl, h⟩⟩ := (mem_seatCommands hc).mp hm
    · exact ⟨hp, h⟩
    · exact ⟨hp, h⟩
  · exact hasCome_of_mem_awakeCommands hi hc hp hw hm
  · rcases mem_dozeCommands.mp hm with ⟨h, rfl⟩ | ⟨h, rfl⟩
    · exact ⟨hp, hw, h⟩
    · exact ⟨hp, hw, rfl, rfl, h⟩

theorem mem_of_hasCome {s : State} (hi : s.inlets.length ≤ 16) (hc : s.containers.length ≤ 8) {e : Instr}
    (h : s.hasCome e) : e ∈ s.dueCommands := by
  obtain ⟨hp, h⟩ := h
  refine mem_dueCommands.mpr ⟨hp, ?_⟩
  rw [mem_lidCommands hi, mem_seatCommands hc, mem_awakeCommands hi hc]
  simp only [mem_inletCommands, mem_containerCommands, mem_dozeCommands]
  cases e with
  | clockCount | lidOpening | lidClosing | reseat | unseat | gapTimerExpiry | windowExpiry | serviceTimerExpiry
  | lidOpenLimitExpiry | spacingExpiry | dueEvent | lidWaitExpiry | releaseWaitExpiry | carrierLoss | writerIdleExpiry
  | idleTimerExpiry | wakeTimerExpiry => simpa using h
  | queryWaitExpiry => simpa [State.timerHasCome] using h
  | wakeSettlingEnd l order =>
    obtain ⟨hw, rfl, rfl, h⟩ := h
    simp [hw, h]
  | _ => exact h.elim

/-! ## What an acceptance leaves of the lines and the settings -/

theorem getLsbD_ofNat_two_pow (w i j : Nat) :
    (BitVec.ofNat w (2 ^ i)).getLsbD j = (decide (j < w) && decide (i = j)) := by
  rw [BitVec.getLsbD_ofNat, Nat.testBit_two_pow]

/-- To put the bit that stands there changes nothing, past the word's end neither. -/
theorem putBit_getLsbD {w : Nat} (v : BitVec w) (i : Nat) : putBit v i (v.getLsbD i) = v := by
  apply BitVec.eq_of_getLsbD_eq
  intro j hj
  cases hb : v.getLsbD i with
  | true =>
    simp only [putBit, if_true, BitVec.getLsbD_or, getLsbD_ofNat_two_pow]
    by_cases hij : i = j
    · simp [← hij, hb]
    · simp [hij]
  | false =>
    simp only [putBit, Bool.false_eq_true, if_false, BitVec.getLsbD_and, BitVec.getLsbD_not, getLsbD_ofNat_two_pow]
    by_cases hij : i = j
    · simp [← hij, hb]
    · simp [hij, hj]

/-- The level b is what inlet i's raw line shows against its active level, or there is no such inlet. -/
def State.showsLid (s : State) (i : Nat) (b : Bool) : Prop :=
  ∀ cfg, (s.inlets.map Inlet.cfg)[i]? = some cfg → lidLevel s.lines i cfg = b

/-- An accepted level that the line shows leaves the pins as they stand. -/
theorem acceptLid_lines {s : State} {i : Nat} {b : Bool} (h : s.showsLid i b) : (s.acceptLid i b).lines = s.lines := by
  unfold State.acceptLid
  split
  · rfl
  · next x hx =>
    have hb : (b == x.cfg.activeHigh) = s.lines.lid.getLsbD i := by
      rw [← h x.cfg (by simp [hx]), lidLevel]
      cases s.lines.lid.getLsbD i <;> cases x.cfg.activeHigh <;> rfl
    dsimp only
    split
    · rfl
    · split
      · split <;> simp [hb, putBit_getLsbD]
      · simp [hb, putBit_getLsbD]

theorem acceptSeat_lines {s : State} {c : Nat} {b : Bool} (h : seatLevel s.lines c = b) :
    (s.acceptSeat c b).lines = s.lines := by
  subst h
  unfold State.acceptSeat
  dsimp only
  repeat' split
  all_goals simp [seatLevel, putBit_getLsbD]

theorem updInlet_cfgs (s : State) (i : Nat) {f : Inlet → Inlet} (hf : ∀ x, (f x).cfg = x.cfg) :
    (s.updInlet i f).inlets.map Inlet.cfg = s.inlets.map Inlet.cfg := by
  apply List.ext_getElem?
  intro j
  simp only [List.getElem?_map, updInlet_get, Option.map_map]
  congr 1
  funext x
  by_cases hij : i = j <;> simp [hij, hf]

theorem takeOpening_cfg (x : Inlet) (lifted : Bool) (t : Nat) : (x.takeOpening lifted t).cfg = x.cfg := by
  unfold Inlet.takeOpening
  repeat' split
  all_goals rfl

theorem takeClosing_cfg (x : Inlet) (lifted : Bool) : (x.takeClosing lifted).cfg = x.cfg := by
  unfold Inlet.takeClosing Inlet.endService
  dsimp only
  repeat' split
  all_goals rfl

theorem takeLidOpening_cfgs (s : State) (i t : Nat) :
    (s.takeLidOpening i t).inlets.map Inlet.cfg = s.inlets.map Inlet.cfg := by
  unfold State.takeLidOpening
  repeat' split
  · rfl
  · rfl
  · simpa using updInlet_cfgs s i fun x => takeOpening_cfg x _ t

theorem takeLidClosing_cfgs (s : State) (i t : Nat) :
    (s.takeLidClosing i t).inlets.map Inlet.cfg = s.inlets.map Inlet.cfg := by
  unfold State.takeLidClosing
  dsimp only
  repeat' split
  · rfl
  · simpa using updInlet_cfgs s i fun x => takeClosing_cfg x _
  · simpa using updInlet_cfgs s i fun x => takeClosing_cfg x _
  · rfl

/-- The debouncer's acceptance changes no inlet's settings. -/
theorem acceptLid_cfgs (s : State) (i : Nat) (b : Bool) :
    (s.acceptLid i b).inlets.map Inlet.cfg = s.inlets.map Inlet.cfg := by
  have start := updInlet_cfgs s i (f := fun y => { y with rejectStart := none }) fun _ => rfl
  unfold State.acceptLid
  dsimp only
  repeat' split
  · rfl
  · rfl
  · simpa [takeLidOpening_cfgs] using start
  · simpa [takeLidClosing_cfgs] using start
  · simpa using start

theorem acceptLids_lines {es : List (Nat × Bool)} {s : State} (h : ∀ i b, (i, b) ∈ es → s.showsLid i b) :
    (es.foldl (fun v e => v.acceptLid e.1 e.2) s).lines = s.lines := by
  induction es generalizing s with
  | nil => rfl
  | cons e es ih =>
    have hl : (s.acceptLid e.1 e.2).lines = s.lines := acceptLid_lines (h e.1 e.2 (by simp))
    rw [List.foldl_cons, ih, hl]
    intro i b hm
    rw [State.showsLid, acceptLid_cfgs, hl]
    exact h i b (by simp [hm])

theorem acceptSeats_lines {es : List (Nat × Bool)} {s : State} (h : ∀ c b, (c, b) ∈ es → seatLevel s.lines c = b) :
    (es.foldl (fun v e => v.acceptSeat e.1 e.2) s).lines = s.lines := by
  induction es generalizing s with
  | nil => rfl
  | cons e es ih =>
    have hl : (s.acceptSeat e.1 e.2).lines = s.lines := acceptSeat_lines (h e.1 e.2 (by simp))
    rw [List.foldl_cons, ih, hl]
    intro c b hm
    rw [hl]
    exact h c b (by simp [hm])

theorem showsLid_of_hasCome {s : State} {i : Nat} {b : Bool} (h : s.lidHasCome i b) : s.showsLid i b := by
  obtain ⟨x, hx, hb, _⟩ := h
  intro cfg hcfg
  obtain rfl : x.cfg = cfg := by simpa [hx] using hcfg
  exact hb

theorem seatLevel_of_hasCome {s : State} {c : Nat} {b : Bool} (h : s.seatHasCome c b) : seatLevel s.lines c = b := by
  obtain ⟨_, _, hb, _⟩ := h
  exact hb

/-- What is accepted is what the lines show, so that the pins stand as they stood. -/
theorem acceptStood_lines (s : State) : s.acceptStood.lines = s.lines := by
  have lids : ((eachOf s.stoodLid 0 s.inlets).foldl (fun v e => v.acceptLid e.1 e.2) s).lines = s.lines :=
    acceptLids_lines fun i b hm => showsLid_of_hasCome ((mem_eachOf_stoodLid s i b).mp hm)
  rw [State.acceptStood, acceptSeats_lines, lids]
  intro c b hm
  rw [lids]
  exact seatLevel_of_hasCome ((mem_eachOf_stoodSeat s c b).mp hm)

theorem moveLines_lines (s : State) (l : FieldLines) : (s.moveLines l).lines = l := by
  simp [State.moveLines, acceptStood_lines]

/-! ## A step with no command waiting -/

/-- A millisecond that passes while no event has come. -/
theorem step_millisecond {s : State} (hq : s.pending = []) (hd : s.dueCommands = []) (hp : s.power = .running) :
    step s = .next { s with
      now := s.now + 1, inlets := watchInlets s 0 s.inlets, containers := watchContainers s 0 s.containers } := by
  rw [step_idle hq hd, tick_running hp]

theorem exec_lidOpening (i : Fin 16) (s : State) :
    exec (.lidOpening i) s = whenRunning s fun v => v.acceptLid i true := rfl

theorem exec_lidClosing (i : Fin 16) (s : State) :
    exec (.lidClosing i) s = whenRunning s fun v => v.acceptLid i false := rfl

theorem exec_reseat (c : Fin 8) (s : State) : exec (.reseat c) s = whenRunning s fun v => v.acceptSeat c true := rfl

theorem exec_unseat (c : Fin 8) (s : State) : exec (.unseat c) s = whenRunning s fun v => v.acceptSeat c false := rfl

/-- Settles O2, clause by clause: the idle step, the events that have come, a move of the lines, what is accepted with it,
and the four commands of the debouncers. -/
theorem stepWithoutCommand : Obligations.StepWithoutCommand := by
  refine ⟨fun s hq => ⟨fun c rest hd => step_due hq hd, fun hd hp => ?_, fun hd hp => ?_⟩,
    fun s hi hc => ⟨fun e => ?_, ?_⟩, fun s l => ?_, fun s l => ⟨rfl, moveLines_lines s l, ?_⟩, fun s hp => ⟨fun i => ⟨?_, ?_⟩, fun c => ⟨?_, ?_⟩⟩⟩
  · rw [step_idle hq hd, tick_not_running hp]
  · exact ⟨_, _, step_millisecond hq hd hp, watchInlets_clear s 0 _, watchContainers_clear s 0 _,
      fun _ _ _ => watchInlets_accepted, fun _ _ _ => watchContainers_accepted⟩
  · exact ⟨hasCome_of_mem hi hc, mem_of_hasCome hi hc⟩
  · exact (dueCommands_placed hi hc).pairwise
  · obtain ⟨hcs, his⟩ := withLines_lengths s l
    exact ⟨_, _, rfl, his, hcs,
      fun i x hx => ⟨withLines_inlet_unmoved hx, fun hl b => withLines_inlet_moved hx hl⟩,
      fun c k hk => ⟨withLines_container_unmoved hk, fun hl b => withLines_container_moved hk hl⟩⟩
  · exact ⟨_, _, mem_eachOf_stoodLid s, (stoodLids_placed s).pairwise, mem_eachOf_stoodSeat s,
      (stoodSeats_placed s).pairwise, rfl⟩
  · rw [exec_lidOpening, whenRunning_running hp]
  · rw [exec_lidClosing, whenRunning_running hp]
  · rw [exec_reseat, whenRunning_running hp]
  · rw [exec_unseat, whenRunning_running hp]

end Sys2Proof.Machine
end

section
/-! PROOFS. What the shared operations do to the records, in equations: seat changes, the end of a claim, heat, and the
threshold unit, each as one change of the state (R8 to R13, R32, R58 to R63, R68). -/

namespace Sys2Proof.Machine

/-! ## One record written -/

theorem updContainer_eq_set {s : State} {c : Nat} {k : Container} (f : Container → Container)
    (hk : s.containers[c]? = some k) : s.updContainer c f = { s with containers := s.containers.set c (f k) } := by
  rw [State.updContainer, modify_eq_set f hk]

theorem set_get {α : Type} {l : List α} {c : Nat} {k : α} (m : α) (hk : l[c]? = some k) : (l.set c m)[c]? = some m := by
  simp [(List.getElem?_eq_some_iff.mp hk).1]

theorem endWindow_eq (x : Inlet) : x.endWindow =
    if x.state = .unlocked then { x with state := .locked, window := none, windowTimer := none } else x := rfl

theorem endWindows_eq (s : State) (c : Nat) : s.endWindows c = { s with inlets := windowsEnded c s.inlets } := by
  have h : (fun x : Inlet => if x.cfg.container = c then x.endWindow else x) = fun x =>
      if x.cfg.container = c ∧ x.state = .unlocked then { x with state := .locked, window := none, windowTimer := none }
      else x := by
    funext x
    rw [endWindow_eq, ← ite_and]
  rw [State.endWindows, State.mapBoundInlets, h, windowsEnded]

theorem detachPair_eq {s : State} {c : Nat} {k : Container} (hk : s.containers[c]? = some k) :
    s.detachPair c = { s with
      run := detachedRun c s.run, containers := s.containers.set c { k with pair := .idle } } := by
  rw [State.detachPair, updContainer_eq_set _ hk]
  rfl

theorem endClaim_eq {s : State} {c : Nat} {k : Container} (e : LiftEnding) (hk : s.containers[c]? = some k) :
    s.endClaim c e = { s with
      containers := s.containers.set c { k with state := .serving }
      lift := s.lift.claimEnded c e s.clock.count }.raise .lift := by
  rw [State.endClaim, updContainer_eq_set _ hk]
  rfl

/-! ## Unseat and reseat -/

theorem displace_eq {s : State} {c : Nat} {k : Container} (hk : s.containers[c]? = some k) :
    s.displace c = { s with
      run := detachedRun c s.run
      containers := s.containers.set c { k with seated := false, displaced := true, pair := .idle }
      inlets := windowsEnded c s.inlets }.raise .seat := by
  rw [State.displace, updContainer_eq_set _ hk, detachPair_eq (set_get _ hk), endWindows_eq, List.set_set]

theorem takeLift_eq {s : State} {c : Nat} {k : Container} (hk : s.containers[c]? = some k) :
    s.takeLift c k = { s with
      run := detachedRun c s.run
      containers := s.containers.set c { k with
        seated := false, state := .lifted, pair := .idle, note := some ⟨k.estimatePerMille (s.capacity k), none, none⟩ }
      lift := { s.lift with releaseWait := none } }.raise .lift := by
  rw [State.takeLift, updContainer_eq_set _ hk]
  dsimp only
  rw [detachPair_eq (set_get _ hk), List.set_set]

/-- An unseat of a RELEASED container is a lift (R8). -/
theorem takeUnseat_released {s : State} {c : Nat} {k : Container} (hk : s.containers[c]? = some k)
    (hs : k.state = .released) : s.takeUnseat c = s.takeLift c k := by
  simp [State.takeUnseat, hk, hs]

theorem takeUnseat_displaces {s : State} {c : Nat} {k : Container} (hk : s.containers[c]? = some k)
    (hs : k.state = .serving ∨ k.state = .suspended) : s.takeUnseat c = s.displace c := by
  rcases hs with hs | hs <;> simp [State.takeUnseat, hk, hs]

/-- An unseat in CLAIMED ends the claim too (R9). -/
theorem takeUnseat_claimed {s : State} {c : Nat} {k : Container} (hk : s.containers[c]? = some k)
    (hs : k.state = .claimed) :
    s.takeUnseat c = ({ s with
      run := detachedRun c s.run
      containers := s.containers.set c { k with seated := false, displaced := true, pair := .idle, state := .serving }
      inlets := windowsEnded c s.inlets
      lift := s.lift.claimEnded c .displaced s.clock.count }.raise .seat).raise .lift := by
  have h : s.takeUnseat c = (s.displace c).endClaim c .displaced := by simp [State.takeUnseat, hk, hs]
  rw [h, displace_eq hk, endClaim_eq (k := { k with seated := false, displaced := true, pair := .idle }) _ (set_get _ hk)]
  simp only [State.raise_frame, List.set_set]
  rfl

/-- The end of an emptying unverified is its end after the assumed-empty level has been written (R57, R147). -/
theorem endUnverified_eq {s : State} {c : Nat} {k : Container} (e : LiftEnding) (hk : s.containers[c]? = some k) :
    s.endUnverified c e = { s with
      containers := s.containers.set c { k with
        level := some (assumedEmptyLevel k s.clock.count), added := 0 } }.finishEmptying c none false e := by
  have h : k.assumeEmpty s.clock.count = { k with level := some (assumedEmptyLevel k s.clock.count), added := 0 } := by
    simp only [Container.assumeEmpty, assumedEmptyLevel]
    cases k.lastTemp <;> rfl
  rw [State.endUnverified, updContainer_eq_set _ hk, h]

/-- A container that leaves its platform while VERIFYING, as the end of its emptying finds it: displaced, assumed empty
(R9, R57, R147). -/
def Container.emptiedAway (k : Container) (clock : Nat) : Container :=
  { k with
    seated := false, displaced := true, pair := .idle, level := some (assumedEmptyLevel k clock), added := 0 }

/-- An unseat in VERIFYING ends the emptying unverified (R9, R147). -/
theorem takeUnseat_verifying {s : State} {c : Nat} {k : Container} (hk : s.containers[c]? = some k)
    (hs : k.state = .verifying) :
    s.takeUnseat c = ({ s with
      run := detachedRun c s.run
      containers := s.containers.set c (k.emptiedAway s.clock.count)
      inlets := windowsEnded c s.inlets }.raise .seat).finishEmptying c none false .verifyUnseated := by
  have h : s.takeUnseat c = (s.displace c).endUnverified c .verifyUnseated := by simp [State.takeUnseat, hk, hs]
  rw [h, displace_eq hk,
    endUnverified_eq (k := { k with seated := false, displaced := true, pair := .idle }) _ (set_get _ hk)]
  simp only [State.raise_frame, List.set_set]
  rfl

theorem takeUnseat_lifted {s : State} {c : Nat} {k : Container} (hk : s.containers[c]? = some k)
    (hs : k.state = .lifted) :
    s.takeUnseat c = { s with containers := s.containers.set c { k with seated := false } } := by
  have h : s.takeUnseat c = s.updContainer c fun x => { x with seated := false } := by simp [State.takeUnseat, hk, hs]
  rw [h, updContainer_eq_set _ hk]

theorem request_idle (cls : PairClass) (now : Nat) : Pair.idle.request cls now = requestedPair cls now := by
  cases cls <;> rfl

theorem requestPair_eq {s : State} {c : Nat} {k : Container} (cls : PairClass) (hk : s.containers[c]? = some k) :
    s.requestPair c cls = { s with containers := s.containers.set c { k with pair := k.pair.request cls s.now } } :=
  updContainer_eq_set _ hk

theorem reseatLifted_eq {s : State} {c : Nat} {k : Container} (hk : s.containers[c]? = some k) :
    s.reseatLifted c = { s with
      containers := s.containers.set c { k with
        seated := true, state := .verifying, pair := k.pair.request .verify s.now
        note := some ⟨k.note.bind EmptyingNote.before, s.lift.session.map Session.vehicle, some s.lift.session.isSome⟩ }
      lift := s.lift.clearClaim }.raise .lift := by
  rw [State.reseatLifted, updContainer_eq_set _ hk]
  dsimp only
  rw [requestPair_eq _ (set_get _ hk), List.set_set]
  rfl

theorem reseatDisplaced_eq {s : State} {c : Nat} {k : Container} (hk : s.containers[c]? = some k) :
    s.reseatDisplaced c = { s with
      containers := s.containers.set c { k with
        seated := true, displaced := false, pair := k.pair.request .demand s.now } }.raise .seat := by
  rw [State.reseatDisplaced, updContainer_eq_set _ hk, requestPair_eq _ (set_get _ hk), List.set_set]

/-- A reseat, by what the container was (R10, R11). -/
theorem takeReseat_eq {s : State} {c : Nat} {k : Container} (hk : s.containers[c]? = some k) :
    s.takeReseat c =
      if k.state = .lifted then s.reseatLifted c
      else if k.displaced then s.reseatDisplaced c
      else { s with containers := s.containers.set c { k with seated := true } } := by
  simp only [State.takeReseat, hk]
  rw [updContainer_eq_set _ hk]

/-- A seat change, by the kept seat state (R7). -/
theorem takeSeat_eq {s : State} {c : Nat} {k : Container} (b : Bool) (hk : s.containers[c]? = some k) :
    s.takeSeat c b = if k.seated = b then s else if b then s.takeReseat c else s.takeUnseat c := by
  simp only [State.takeSeat, hk]

theorem takeSeat_none {s : State} {c : Nat} (b : Bool) (hk : s.containers[c]? = none) : s.takeSeat c b = s := by
  simp only [State.takeSeat, hk]

/-! ## Heat -/

theorem raiseTo_demand (p : Pair) :
    p.raiseTo .demand = if p.cls = some .demand ∨ p.cls = some .verify then p else { p with cls := some .demand } := by
  unfold Pair.raiseTo pairRank
  rcases h : p.cls with _ | cls
  · simp [classRank]
  · cases cls <;> simp [classRank]

/-- What becoming hot does to a record (R32, R68). -/
theorem becomeHot_record (k : Container) (now : Nat) :
    k.becomeHot now = { k with
      hot := true, nextDue := now + 60000
      pair :=
        if k.pair.stage = .none ∨ k.pair.cls = some .demand ∨ k.pair.cls = some .verify then k.pair
        else { k.pair with cls := some .demand } } := by
  simp only [Container.becomeHot, raiseTo_demand, seconds, ite_or]

/-- Becoming hot outside a claim (R13, R32, R68). -/
theorem becomeHot_unclaimed {s : State} {c : Nat} {k : Container} (hk : s.containers[c]? = some k)
    (hc : k.state ≠ .claimed) (hr : k.state ≠ .released) :
    s.becomeHot c = { s with
      containers := s.containers.set c (k.becomeHot s.now), inlets := windowsEnded c s.inlets }.raise .heat := by
  have h : ¬ (s.inState c .claimed = true ∨ s.inState c .released = true) := by simp [State.inState, hk, hc, hr]
  simp only [State.becomeHot, if_neg h]
  rw [updContainer_eq_set _ hk, endWindows_eq]
  rfl

/-- Becoming hot in CLAIMED or RELEASED ends the claim with HOT (R148). -/
theorem becomeHot_claimed {s : State} {c : Nat} {k : Container} (hk : s.containers[c]? = some k)
    (hs : k.state = .claimed ∨ k.state = .released) :
    s.becomeHot c = ({ s with
      containers := s.containers.set c { k.becomeHot s.now with state := .serving }, inlets := windowsEnded c s.inlets
      lift := s.lift.claimEnded c .hot s.clock.count }.raise .heat).raise .lift := by
  have h : s.inState c .claimed = true ∨ s.inState c .released = true := by simpa [State.inState, hk] using hs
  simp only [State.becomeHot, if_pos h]
  rw [updContainer_eq_set _ hk, endWindows_eq, endClaim_eq (k := k.becomeHot s.now) _ (set_get _ hk)]
  simp only [State.raise_frame, List.set_set]
  rfl

/-! ## The threshold unit -/

/-- The judgement of full, and the clean-up, write a full flag and nothing else of a record. -/
theorem judgeFull_containers (s : State) (c : Nat) (k : Container) (pe : Nat) :
    (s.judgeFull c k pe).containers = s.containers ∨
      ∃ b, (s.judgeFull c k pe).containers = s.containers.modify c fun x => { x with full := b } := by
  unfold State.judgeFull
  split <;> split
  · exact .inr ⟨false, rfl⟩
  · exact .inl rfl
  · exact .inr ⟨true, rfl⟩
  · exact .inl rfl

theorem evaluate_containers (s : State) (c : Nat) :
    (s.evaluate c).containers = s.containers ∨
      ∃ b, (s.evaluate c).containers = s.containers.modify c fun x => { x with full := b } := by
  unfold State.evaluate
  split
  · exact .inl rfl
  · split
    · exact .inl rfl
    · next k hk _ pe hpe => simpa using judgeFull_containers (s.judgeDue c k pe) c k pe

/-- A record written back as it stands changes nothing. -/
theorem set_self {α : Type} {l : List α} {c : Nat} {k : α} (hk : l[c]? = some k) : l.set c k = l := by
  obtain ⟨h, rfl⟩ := List.getElem?_eq_some_iff.mp hk
  exact List.set_getElem_self h

theorem evaluate_record {s : State} {c : Nat} {k : Container} (hk : s.containers[c]? = some k) :
    ∃ b, (s.evaluate c).containers = s.containers.set c { k with full := b } := by
  rcases evaluate_containers s c with h | ⟨b, h⟩
  · exact ⟨k.full, by rw [h, set_self hk]⟩
  · exact ⟨b, by rw [h, modify_eq_set _ hk]⟩

theorem cleanUp_record {s : State} {c : Nat} {k : Container} (hk : s.containers[c]? = some k) :
    (s.cleanUp c).containers = s.containers.set c { k with full := false } := by
  have hd : (if s.isDue c then s.leaveDueList c else s).containers = s.containers := by split <;> simp
  unfold State.cleanUp
  dsimp only
  rw [hd, hk]
  dsimp only
  split
  · simp [State.setFull, State.updContainer, hd, modify_eq_set _ hk]
  · next hf =>
    rw [Bool.not_eq_true] at hf
    rw [hd, ← hf, set_self hk]

/-- Steps 2 to 7 of the end of an emptying leave the note absent and the container SERVING with some full flag (R146). -/
theorem finishEmptying_record {s : State} {c : Nat} {k : Container} (after : Option Nat) (v : Bool) (e : LiftEnding)
    (hk : s.containers[c]? = some k) :
    ∃ b, (s.finishEmptying c after v e).containers =
      s.containers.set c { k with note := none, state := .serving, full := b } := by
  have h1 : ((s.journalRecord c (emptyingRecord k.note after v)).updContainer c
      fun x => { x with note := none }).containers = s.containers.set c { k with note := none } := by
    simp [State.updContainer, modify_eq_set _ hk]
  have h2 := cleanUp_record (by rw [h1]; exact set_get _ hk)
  rw [h1, List.set_set] at h2
  have h3 := congrArg State.containers (updContainer_eq_set (fun x => { x with state := .serving })
    (by rw [h2]; exact set_get _ hk))
  dsimp only at h3
  rw [h2, List.set_set] at h3
  obtain ⟨b, h4⟩ := evaluate_record (by rw [h3]; exact set_get _ hk)
  rw [h3, List.set_set] at h4
  exact ⟨b, by simpa [State.finishEmptying, hk] using h4⟩

theorem finishEmptying_lift {s : State} {c : Nat} {k : Container} (after : Option Nat) (v : Bool) (e : LiftEnding)
    (hk : s.containers[c]? = some k) :
    (s.finishEmptying c after v e).lift = { s.lift with last := some ⟨c, e, s.clock.count⟩ } := by
  simp [State.finishEmptying, hk, State.setLastLift]

end Sys2Proof.Machine
end

section
/-! PROOFS. What every step keeps, for a property of the containers, the inlets, the front end and the emptying controller: a
step is built of few operations on these four blocks, so that a property which each of them keeps is kept by every step. -/

namespace Sys2Proof.Machine

/-- The four blocks stand in t as they stand in s. -/
structure SameBlocks (s t : State) : Prop where
  containers : t.containers = s.containers
  inlets : t.inlets = s.inlets
  run : t.run = s.run
  lift : t.lift = s.lift

/-- Each operation that touches one of the four blocks keeps P, under what a step knows where it comes to it. -/
structure Kept (P : State → Prop) : Prop where
  congr {s t : State} : P s → SameBlocks s t → P t
  unpowered (s : State) (q : Power) : P (s.unpowered q)
  powerOnEnd (s : State) (l : FieldLines) (b : Bool) : P (s.powerOnEnd l b)
  tick {s : State} : P s → P s.tick
  withLines {s : State} (l : FieldLines) : P s → P (s.withLines l)
  lidHold {s : State} (i : Nat) : P s → P (s.updInlet i fun y => { y with rejectStart := none })
  seatHold {s : State} (c : Nat) : P s → P (s.updContainer c fun y => { y with seatHold := none })
  lidOpening {s : State} (i t : Nat) : P s → P (s.takeLidOpening i t)
  lidClosing {s : State} (i t : Nat) : P s → P (s.takeLidClosing i t)
  seat {s : State} (c : Nat) (b : Bool) : P s → P (s.takeSeat c b)
  arbitrate {s : State} : P s → P s.arbitrate
  dueEvent {s : State} (c : Nat) : P s → P (s.takeDueEvent c)
  read {s : State} (i n : Nat) : P s → P (s.takeRead i n)
  noAnswer {s : State} (i : Nat) : P s → P (s.refuseRead i .noAnswer)
  windowEnd {s : State} (i : Nat) : P s → P (s.updInlet i Inlet.endWindow)
  limit {s : State} {i t : Nat} {x : Inlet} : s.inlets[i]? = some x → x.limitTimer = some t → P s → P (s.takeLimit i)
  serviceEnd {s : State} {i t : Nat} {x : Inlet} : s.inlets[i]? = some x → x.serviceTimer = some t → P s →
    P (s.updInlet i Inlet.serviceExpires)
  completion {s : State} (conv : Conversion) (echo : EchoSignal) : P s → P (s.takeCompletion conv echo)
  spacing {s : State} {c t : Nat} {k : Container} (now : Nat) : s.containers[c]? = some k → k.pair.spacing = some t →
    P s → P (s.updContainer c fun x => { x with pair := x.pair.spacingExpires now })
  lidWait {s : State} {t : Nat} : s.lift.lidWait = some t → P s → P (s.endWait .claimed .lidTimeout)
  releaseWait {s : State} {t : Nat} : s.lift.releaseWait = some t → P s → P (s.endWait .released .releaseTimeout)
  carrier {s : State} (b : Bool) : P s → P (s.takeCarrier b)
  carrierLoss {s : State} : P s → P s.loseCarrier
  warmRestart {s : State} : P s → P s.warmRestart
  configRestart {s : State} {m : List Host.Cell} {g : StationConfig} : judgeImage m = some g → s.inHand = false → P s →
    P (s.configRestart g)
  suspend {s : State} (p : Port) (ps : List Byte) : P s → P (bodySuspendContainer p ps s).1
  resume {s : State} (p : Port) (ps : List Byte) : P s → P (bodyResumeContainer p ps s).1
  measureNow {s : State} (p : Port) (ps : List Byte) : P s → P (bodyMeasureNow p ps s).1
  clearHeat {s : State} (p : Port) (ps : List Byte) : P s → P (bodyClearHeat p ps s).1
  openInlet {s : State} (p : Port) (ps : List Byte) : P s → P (bodyOpenInlet p ps s).1
  answerCard {s : State} (p : Port) (ps : List Byte) : P s → P (bodyAnswerCard p ps s).1
  announce {s : State} (p : Port) (ps : List Byte) : P s → P (bodyAnnounce p ps s).1
  endSession {s : State} (p : Port) (ps : List Byte) : P s → P (bodyEndSession p ps s).1
  claimLift {s : State} (p : Port) (ps : List Byte) : P s → P (bodyClaimLift p ps s).1
  cancelLift {s : State} (p : Port) (ps : List Byte) : P s → P (bodyCancelLift p ps s).1

namespace Kept

variable {P : State → Prop} (K : Kept P)
include K

/-! ## Requests and received bytes -/

theorem updPort {s : State} (p : Port) (f : PortBlock → PortBlock) (h : P s) : P (s.updPort p f) :=
  K.congr h ⟨rfl, rfl, rfl, rfl⟩

theorem judgeIdle {s : State} (h : P s) : P s.judgeIdle := K.congr h ⟨rfl, rfl, rfl, rfl⟩

theorem advanceTo {s : State} (t : Nat) (h : P s) : P (s.advanceTo t) := K.congr h ⟨rfl, rfl, rfl, rfl⟩

theorem hold {s : State} (c : HeldCause) (h : P s) : P (s.hold c) :=
  K.congr h ⟨by simp, by simp, by simp, by simp⟩

/-- A request of the index keeps P: eleven touch the four blocks, the others leave them. -/
theorem body (p : Port) (ps : List Byte) : ∀ r ∈ requestIndex, ∀ s, P s → P (r.body p ps s).1 := by
  simp only [requestIndex, List.forall_mem_cons, List.not_mem_nil, false_implies, implies_true, and_true]
  refine ⟨?_, ?_, ?_, ?_, ?_, fun _ => K.warmRestart, ?_, ?_, ?_, fun _ => K.suspend p ps,
    fun _ => K.resume p ps, fun _ => K.measureNow p ps, ?_, fun _ => K.clearHeat p ps, ?_, fun _ => K.openInlet p ps,
    ?_, ?_, ?_, ?_, ?_, ?_, ?_, ?_, fun _ => K.answerCard p ps, ?_, ?_, ?_, fun _ => K.announce p ps,
    fun _ => K.endSession p ps, fun _ => K.claimLift p ps, fun _ => K.cancelLift p ps, ?_⟩
  all_goals exact fun s h => K.congr h ⟨by simp, by simp, by simp, by simp⟩

theorem answerRequest (p : Port) (code tag : Byte) {r : State × Answer} (h : P r.1) :
    P (answerRequest p code tag r) := by
  unfold Machine.answerRequest
  split
  · exact K.updPort p _ h
  · exact h

theorem take {r : Request} (hr : r ∈ requestIndex) (p : Port) (tag : Byte) (ps : List Byte) {s : State} (h : P s) :
    P (r.take p tag ps s) := by
  unfold Request.take
  split
  · exact K.updPort p _ (K.updPort p _ h)
  · exact K.answerRequest p _ _ (K.body p ps r hr _ (K.updPort p _ h))

theorem takeFrame (p : Port) (code tag : Byte) (ps : List Byte) {s : State} (h : P s) :
    P (s.takeFrame p code tag ps) := by
  unfold State.takeFrame
  split
  · exact K.take (requestOf_mem ‹_›) p tag ps h
  · exact K.updPort p _ (K.updPort p _ h)

theorem receiveByte (p : Port) (b : RxByte) {s : State} (h : P s) : P (s.receiveByte p b) := by
  have hg : P (s.startGap p) := K.updPort p _ h
  rcases receiveByte_cases s p b with e | ⟨r, e⟩ | ⟨r, e⟩ | ⟨code, tag, ps, e⟩ <;> rw [e]
  · exact hg
  · exact K.updPort p _ hg
  · exact K.updPort p _ hg
  · exact K.takeFrame p code tag ps (K.updPort p _ hg)

theorem receiveEvents (p : Port) (bs : List RxByte) {s : State} (h : P s) : P (s.receiveEvents p bs) := by
  unfold State.receiveEvents
  induction bs generalizing s with
  | nil => exact h
  | cons b bs ih => exact ih (K.judgeIdle (K.receiveByte p b h))

theorem receiveRun (p : Port) (bs : List RxByte) {s : State} (h : P s) : P (s.receiveRun p bs) := by
  unfold State.receiveRun
  split
  · exact h
  · split
    · exact K.receiveEvents p bs h
    · exact K.hold _ h

theorem arrive {r : Request} (hr : r ∈ requestIndex) (p : Port) (tag : Byte) (ps : List Byte) {s : State} (h : P s) :
    P (r.arrive p tag ps s) := by
  unfold Request.arrive
  split
  · exact K.take hr p tag ps (K.updPort p _ h)
  · exact K.receiveRun p _ h

theorem answerHeld (p : Port) (held : PortState) (st : Status) {s : State} (h : P s) : P (s.answerHeld p held st) :=
  K.congr h ⟨by simp, by simp, by simp, by simp⟩

/-! ## The field lines -/

theorem acceptLid (i : Nat) (b : Bool) {s : State} (h : P s) : P (s.acceptLid i b) := by
  unfold State.acceptLid
  dsimp only
  have put : ∀ l : FieldLines,
      P { s.updInlet i fun y => { y with rejectStart := none } with lines := l } :=
    fun l => K.congr (K.lidHold i h) ⟨rfl, rfl, rfl, rfl⟩
  repeat' split
  · exact h
  · exact h
  · exact K.lidOpening i _ (put _)
  · exact K.lidClosing i _ (put _)
  · exact K.hold _ (put _)

theorem acceptSeat (c : Nat) (b : Bool) {s : State} (h : P s) : P (s.acceptSeat c b) := by
  unfold State.acceptSeat
  dsimp only
  have put : ∀ l : FieldLines,
      P { s.updContainer c fun y => { y with seatHold := none } with lines := l } :=
    fun l => K.congr (K.seatHold c h) ⟨rfl, rfl, rfl, rfl⟩
  repeat' split
  · exact h
  · exact h
  · exact K.arbitrate (K.seat c b (put _))
  · exact K.hold _ (put _)

theorem acceptStood {s : State} (h : P s) : P s.acceptStood := by
  have lids : ∀ (es : List (Nat × Bool)) (v : State), P v → P (es.foldl (fun v e => v.acceptLid e.1 e.2) v) := by
    intro es
    induction es with
    | nil => exact fun _ hv => hv
    | cons e es ih => exact fun v hv => ih _ (K.acceptLid e.1 e.2 hv)
  have seats : ∀ (es : List (Nat × Bool)) (v : State), P v → P (es.foldl (fun v e => v.acceptSeat e.1 e.2) v) := by
    intro es
    induction es with
    | nil => exact fun _ hv => hv
    | cons e es ih => exact fun v hv => ih _ (K.acceptSeat e.1 e.2 hv)
  exact seats _ _ (lids _ _ h)

theorem moveLines (l : FieldLines) {s : State} (h : P s) : P (s.moveLines l) :=
  K.acceptStood (K.withLines l (K.acceptStood h))

/-! ## The wake controller -/

theorem takeHeldLimit (i : Nat) {s : State} (h : P s) : P (s.takeHeldLimit i) := by
  unfold State.takeHeldLimit
  split
  · next x hx =>
    split
    · next ht =>
      obtain ⟨t, ht, _⟩ := Option.any_eq_true _ _ |>.mp ht
      exact K.limit hx ht h
    · exact h
  · exact h

theorem takeHeldDue (c : Nat) {s : State} (h : P s) : P (s.takeHeldDue c) := by
  unfold State.takeHeldDue
  repeat' split
  · exact K.dueEvent c h
  · exact h
  · exact h

theorem takeCause (hc : HeldCause) {s : State} (h : P s) : P (s.takeCause hc) := by
  unfold State.takeCause
  split
  · exact K.read _ _ h
  · exact K.lidOpening _ _ h
  · exact K.lidClosing _ _ h
  · exact K.seat _ _ h
  · exact K.carrier _ h
  · exact K.warmRestart h
  · exact K.updPort _ _ h
  · exact K.takeHeldDue _ h
  · exact K.takeHeldLimit _ h

theorem takeCauses (n : Nat) (o : List Nat) (hs : List HeldCause) {s : State} (h : P s) : P (takeCauses n o hs s) := by
  induction n generalizing o hs s with
  | zero => exact h
  | succ n ih =>
    unfold Machine.takeCauses
    split
    · exact h
    · exact ih _ _ (K.takeCause _ h)

theorem awaken (o : List Nat) {s : State} (h : P s) : P (s.awaken o) :=
  K.arbitrate (K.takeCauses _ _ _ (K.congr h ⟨rfl, rfl, rfl, rfl⟩))

/-! ## The configuration store -/

theorem endCheck (p : Port) {m : List Host.Cell} {s : State} (h : P s) : P (s.endCheck p (judgeImage m)) := by
  unfold State.endCheck
  dsimp only
  split
  · exact K.answerHeld _ _ _ (K.congr h ⟨rfl, rfl, rfl, rfl⟩)
  · next g hg =>
    split
    · exact K.answerHeld _ _ _ (K.congr h ⟨rfl, rfl, rfl, rfl⟩)
    · next hh =>
      exact K.answerHeld _ _ _ (K.configRestart hg (by simpa using hh) (K.congr h ⟨rfl, rfl, rfl, rfl⟩))

/-! ## Commands and steps -/

theorem whenRunning {f : State → State} {s t : State} (h : P s) (ht : whenRunning s f = .next t) (hf : P (f s)) : P t := by
  rcases whenRunning_cases s t f ht with ⟨_, rfl⟩ | ⟨_, rfl⟩
  · exact h
  · exact K.judgeIdle hf

/-- Every command keeps P: by the kind of the command. -/
theorem exec {c : Instr} {s t : State} (h : P s) (ht : exec c s = .next t) : P t := by
  unfold Machine.exec at ht
  cases c with
  -- the supply
  | powerOnReset | powerLoss =>
    cases ht
    exact K.unpowered s _
  | powerOnResetEnd l b =>
    simp only [execPowerOnResetEnd] at ht
    split at ht <;> cases ht
    · exact K.judgeIdle (K.powerOnEnd s l b)
    · exact h
  | resetLineAssertion l =>
    refine K.whenRunning h ht ?_
    split
    · exact K.warmRestart (K.moveLines l h)
    · exact K.hold _ (K.moveLines l h)
  -- requests
  | readStatus p tag ps | acknowledgeAttention p tag ps | setAttentionMask p tag ps | readClock p tag ps
  | setClock p tag ps | writeImageBlock p tag ps | applyConfiguration p tag ps | readContainer p tag ps
  | suspendContainer p tag ps | resumeContainer p tag ps | measureNow p tag ps | readDueList p tag ps
  | clearHeat p tag ps | readInlet p tag ps | openInlet p tag ps | putCard p tag ps | removeCard p tag ps
  | blockCard p tag ps | clearCardTable p tag ps | markTableLoaded p tag ps | readCards p tag ps
  | rewindCardCursor p tag ps | readQueries p tag ps | answerCard p tag ps | readJournal p tag ps
  | rewindJournalCursor p tag ps | releaseJournal p tag ps | announce p tag ps | endSession p tag ps
  | claimLift p tag ps | cancelLift p tag ps | readLift p tag ps =>
    exact K.whenRunning h ht (K.arrive (by simp [requestIndex]) p tag ps h)
  | restart p tag ps l => exact K.whenRunning h ht (K.arrive (by simp [requestIndex]) p tag ps (K.moveLines l h))
  -- bytes that are no request of the index, and the ports' own events
  | badFrame p bs => exact K.whenRunning h ht (K.receiveRun p bs h)
  | unknownRequestCode p code tag ps =>
    refine K.whenRunning h ht ?_
    split
    · exact K.takeFrame p code tag ps (K.updPort p _ h)
    · exact K.receiveRun p _ h
  | replySent p => exact K.whenRunning h ht (K.updPort p _ h)
  | gapTimerExpiry | writeCompletion | clockCount | writerIdleExpiry | idleTimerExpiry | wakeTimerExpiry
  | receiveActivityInDoze =>
    refine K.whenRunning h ht (K.congr h ?_)
    repeat' split
    all_goals exact ⟨by simp, by simp, by simp, by simp⟩
  -- inlets
  | cardRead i n =>
    refine K.whenRunning h ht ?_
    repeat' split
    · exact K.read _ _ h
    · exact K.hold _ h
    · exact h
    · exact h
  | queryWaitExpiry i =>
    refine K.whenRunning h ht ?_
    split
    · exact K.noAnswer i (K.advanceTo _ h)
    · exact h
  | windowExpiry i =>
    refine K.whenRunning h ht ?_
    split
    · exact K.windowEnd i (K.advanceTo _ h)
    · exact h
  | lidOpening i => exact K.whenRunning h ht (K.acceptLid i true h)
  | lidClosing i => exact K.whenRunning h ht (K.acceptLid i false h)
  | lidOpenLimitExpiry i =>
    refine K.whenRunning h ht ?_
    split
    · next t ht =>
      obtain ⟨x, hx, hl⟩ := Option.bind_eq_some_iff.mp ht
      dsimp only
      repeat' split
      · exact K.limit (s := s.advanceTo t) hx hl (K.advanceTo _ h)
      · exact K.advanceTo _ h
      · exact K.hold _ (K.advanceTo _ h)
    · exact h
  | serviceTimerExpiry i =>
    refine K.whenRunning h ht ?_
    split
    · next t ht =>
      obtain ⟨x, hx, hl⟩ := Option.bind_eq_some_iff.mp ht
      exact K.serviceEnd (s := s.advanceTo t) hx hl (K.advanceTo _ h)
    · exact h
  -- containers and the measurement channel
  | unseat c => exact K.whenRunning h ht (K.acceptSeat c false h)
  | reseat c => exact K.whenRunning h ht (K.acceptSeat c true h)
  | dueEvent c =>
    refine K.whenRunning h ht ?_
    split
    · dsimp only
      repeat' split
      · exact K.arbitrate (K.dueEvent c (K.advanceTo _ h))
      · exact K.advanceTo _ h
      · exact K.hold _ (K.advanceTo _ h)
    · exact h
  | measurementCompletion conv echo => exact K.whenRunning h ht (K.completion conv echo h)
  | spacingExpiry c =>
    refine K.whenRunning h ht ?_
    split
    · next t ht =>
      obtain ⟨k, hk, hp⟩ := Option.bind_eq_some_iff.mp ht
      exact K.arbitrate (K.spacing (s := s.advanceTo t) _ hk hp (K.advanceTo _ h))
    · exact h
  -- the emptying controller
  | lidWaitExpiry =>
    refine K.whenRunning h ht ?_
    split
    · next t ht => exact K.lidWait (s := s.advanceTo t) ht (K.advanceTo _ h)
    · exact h
  | releaseWaitExpiry =>
    refine K.whenRunning h ht ?_
    split
    · next t ht => exact K.releaseWait (s := s.advanceTo t) ht (K.advanceTo _ h)
    · exact h
  | carrierChange b =>
    refine K.whenRunning h ht ?_
    repeat' split
    · exact K.carrier b h
    · exact h
    · exact K.hold _ h
  | carrierLoss =>
    refine K.whenRunning h ht ?_
    split
    · exact K.carrierLoss (K.advanceTo _ h)
    · exact h
  -- the configuration store and the wake controller
  | applyCheckCompletion l =>
    refine K.whenRunning h ht ?_
    split
    · exact h
    · exact K.endCheck _ (K.congr (K.moveLines l h) ⟨rfl, rfl, rfl, rfl⟩)
  | wakeSettlingEnd l o =>
    refine K.whenRunning h ht ?_
    split
    · exact K.awaken o (K.moveLines l (K.advanceTo _ h))
    · exact h

/-- Every step keeps P: a command, an event that has come, or a millisecond that passes. -/
theorem step {s t : State} (h : P s) (ht : step s = .next t) : P t := by
  unfold Machine.step at ht
  split at ht
  · next c rest _ => exact K.exec (s := { s with pending := rest }) (K.congr h ⟨rfl, rfl, rfl, rfl⟩) ht
  · split at ht
    · exact K.exec h ht
    · cases ht
      exact K.tick h

end Kept
end Sys2Proof.Machine
end

section
/-! PROOFS. The lift invariant in three parts: each record by itself, the front end against the stages, and the emptying
controller against the one container that the lift protocol holds (R6, R9, R12, R19, R24, R35, R132, R138). -/

namespace Sys2Proof.Machine

/-! ## The parts -/

/-- A measurement runs for a container exactly while the front end holds an attached run of it, no conversion of which has
ended (R19, R24, R35). -/
structure State.FrontSound (s : State) : Prop where
  front : ∀ (c : Nat) (k : Container) (b : Bool), s.containers[c]? = some k →
    (k.pair.stage.runs = some b ↔ s.run = some (.started c b))
  converting : ∀ r, s.run = some r → r.gate = none ∧ r.result = none

/-- The lift protocol holds the container that o names, in the state that o names, and no other; a state outside the
protocol names none (R138). -/
def State.Holds (s : State) (o : Option (Nat × ServiceState)) : Prop :=
  ∀ c st, ServiceState.inLift st = true → (s.inState c st = true ↔ o = some (c, st))

/-- The session's claimed container (R132). -/
def LiftController.claimOf (l : LiftController) : Option Nat := l.session.bind Session.claimed

/-- The session's claim and the two waits are as the container held by the protocol asks (R132, R139 to R142, R144). -/
structure LiftController.Fits (l : LiftController) (o : Option (Nat × ServiceState)) : Prop where
  claim : ∀ c, l.claimOf = some c → o = some (c, .claimed) ∨ o = some (c, .released) ∨ o = some (c, .lifted)
  claimed : ∀ c, o = some (c, .claimed) → l.claimOf = some c
  released : ∀ c, o = some (c, .released) → l.claimOf = some c
  lidWait : l.lidWait.isSome = true ↔ ∃ c, o = some (c, .claimed)
  releaseWait : l.releaseWait.isSome = true ↔ ∃ c, o = some (c, .released)

/-- The carrier-loss timer runs only in a session, while the carrier is absent (R135). -/
def LiftController.LossFits (l : LiftController) : Prop :=
  l.carrierLoss.isSome = true ↔ l.session.isSome = true ∧ l.carrier = false

/-- The records and the emptying controller fit together, whatever the front end does. -/
structure State.ClaimSound (s : State) : Prop where
  records : ∀ (c : Nat) (k : Container), s.containers[c]? = some k → k.Sound
  protocol : ∃ o, s.Holds o ∧ s.lift.Fits o
  loss : s.lift.LossFits

/-- Where at most one container is in the protocol, some o names it. -/
theorem exists_holds {s : State} (one : ∀ (c d : Nat) (k m : Container), s.containers[c]? = some k →
    s.containers[d]? = some m → k.state.inLift = true → m.state.inLift = true → c = d) : ∃ o, s.Holds o := by
  by_cases h : ∃ (c : Nat) (k : Container), s.containers[c]? = some k ∧ k.state.inLift = true
  · obtain ⟨c, k, hk, hl⟩ := h
    refine ⟨some (c, k.state), fun d st hst => ?_⟩
    rw [inState_eq]
    constructor
    · rintro ⟨m, hm, rfl⟩
      obtain rfl := one c d k m hk hm hl hst
      rw [hk] at hm
      cases hm
      rfl
    · rintro ⟨⟩
      exact ⟨k, hk, rfl⟩
  · refine ⟨none, fun d st hst => ?_⟩
    rw [inState_eq]
    constructor
    · rintro ⟨m, hm, rfl⟩
      exact (h ⟨d, m, hm, hst⟩).elim
    · rintro ⟨⟩

/-- A container that the protocol holds is the one that o names. -/
theorem State.Holds.eq_of_inLift {s : State} {o : Option (Nat × ServiceState)} (h : s.Holds o) {c : Nat} {k : Container}
    (hk : s.containers[c]? = some k) (hl : k.state.inLift = true) : o = some (c, k.state) :=
  (h c k.state hl).mp ((inState_eq s c k.state).mpr ⟨k, hk, rfl⟩)

theorem claimOf_eq_some_iff (l : LiftController) (c : Nat) :
    l.claimOf = some c ↔ ∃ x, l.session = some x ∧ x.claimed = some c := Option.bind_eq_some_iff

theorem liftSound_iff (s : State) : s.LiftSound ↔ s.ClaimSound ∧ s.FrontSound := by
  constructor
  · intro h
    obtain ⟨o, ho⟩ := exists_holds h.one
    refine ⟨⟨fun c k hk => h.records k (List.mem_of_getElem? hk), ⟨o, ho, ?_⟩, h.carrierLoss⟩, h.front, h.converting⟩
    have held : ∀ c st, st = .claimed ∨ st = .released → s.inState c st = true → s.lift.claimOf = some c := by
      intro c st hst hc
      obtain ⟨k, hk, rfl⟩ := (inState_eq s c st).mp hc
      exact h.held c k hk hst
    refine ⟨fun c hc => ?_, fun c hc => held c _ (.inl rfl) ((ho c .claimed rfl).mpr hc),
      fun c hc => held c _ (.inr rfl) ((ho c .released rfl).mpr hc), ?_, ?_⟩
    · obtain ⟨x, hx, hxc⟩ := (claimOf_eq_some_iff _ c).mp hc
      simpa only [ho c .claimed rfl, ho c .released rfl, ho c .lifted rfl] using h.claim x c hx hxc
    · simpa only [ho _ .claimed rfl] using h.lidWait
    · simpa only [ho _ .released rfl] using h.releaseWait
  · rintro ⟨⟨records, ⟨o, ho, hf⟩, loss⟩, front, converting⟩
    refine ⟨fun k hk => ?_, fun c d k m hk hm hkl hml => ?_, front, converting, fun x c hx hc => ?_, fun c k hk hs => ?_,
      ?_, ?_, loss⟩
    · obtain ⟨c, hc⟩ := List.mem_iff_getElem?.mp hk
      exact records c k hc
    · have e := (ho.eq_of_inLift hk hkl).symm.trans (ho.eq_of_inLift hm hml)
      exact congrArg Prod.fst (Option.some.inj e)
    · simpa only [ho c .claimed rfl, ho c .released rfl, ho c .lifted rfl] using
        hf.claim c ((claimOf_eq_some_iff _ c).mpr ⟨x, hx, hc⟩)
    · rcases hs with hs | hs
      · exact hf.claimed c (by rw [ho.eq_of_inLift hk (by rw [hs]; rfl), hs])
      · exact hf.released c (by rw [ho.eq_of_inLift hk (by rw [hs]; rfl), hs])
    · simpa only [ho _ .claimed rfl] using hf.lidWait
    · simpa only [ho _ .released rfl] using hf.releaseWait

/-! ## What keeps a record sound -/

theorem Container.Sound.congr {k m : Container} (h : k.Sound) (hs : m.state = k.state) (ht : m.seated = k.seated)
    (hd : m.displaced = k.displaced) (hp : m.pair = k.pair) (hm : m.misses ≤ 4) (hn : m.mismatches ≤ 6)
    (ha : m.added ≤ 65535) : m.Sound := by
  have hu : m.unmeasured = k.unmeasured := by simp only [Container.unmeasured, hs, hd]
  exact ⟨by rw [hd, ht, hs]; exact h.displaced, by rw [hu, hp]; exact h.unmeasured, by rw [hp, hs]; exact h.verify,
    by rw [hp]; exact h.pair, hm, hn, ha⟩

theorem pairIdle_sound : Pair.idle.Sound := by
  constructor <;> simp [Pair.idle]

theorem requestedPair_sound (cls : PairClass) (now : Nat) : (requestedPair cls now).Sound := by
  cases cls <;> constructor <;> simp [requestedPair]

/-- An unmeasured container has no pair, so that a pair stands only with a measured one. -/
theorem unmeasured_iff (k : Container) : k.unmeasured = true ↔ k.state = .lifted ∨ k.displaced = true := by
  simp [Container.unmeasured]

theorem Container.Sound.withPair {k : Container} (h : k.Sound) {p : Pair} (hp : p.Sound)
    (hu : k.unmeasured = true → p = .idle) (hv : p.cls = some .verify → k.state = .verifying) :
    ({ k with pair := p } : Container).Sound :=
  ⟨h.displaced, hu, hv, hp, h.misses, h.mismatches, h.added⟩

theorem Container.Sound.withIdle {k : Container} (h : k.Sound) : ({ k with pair := .idle } : Container).Sound :=
  h.withPair pairIdle_sound (fun _ => rfl) (by simp [Pair.idle])

/-- A pair raised to DEMAND. -/
theorem Pair.Sound.raiseTo_demand {p : Pair} (h : p.Sound) (hp : p.stage ≠ .none) : (p.raiseTo .demand).Sound := by
  rw [Machine.raiseTo_demand]
  split
  · exact h
  · next hc =>
    rw [not_or] at hc
    have ha : ¬ p.attempt.isSome = true := fun ha => hc.2 (h.attempt.mp ha)
    refine ⟨by simpa using hp, h.entry, h.first, h.spacing, by simp [ha], fun n hn => ?_⟩
    exact (ha (Option.isSome_iff_exists.mpr ⟨n, hn⟩)).elim

theorem request_none {p : Pair} (h : p.stage = .none) (cls : PairClass) (now : Nat) :
    p.request cls now = requestedPair cls now := by
  unfold Pair.request
  rw [if_pos h]
  cases cls <;> rfl

theorem raiseTo_demand_cls (p : Pair) : (p.raiseTo .demand).cls = some .verify → p.cls = some .verify := by
  rw [raiseTo_demand]
  split <;> simp

theorem Container.Sound.requestDemand {k : Container} (h : k.Sound) (hu : k.unmeasured = false) (now : Nat) :
    ({ k with pair := k.pair.request .demand now } : Container).Sound := by
  by_cases hp : k.pair.stage = .none
  · rw [request_none hp]
    exact h.withPair (requestedPair_sound _ _) (by simp [hu]) (by simp [requestedPair])
  · rw [Pair.request, if_neg hp]
    exact h.withPair (h.pair.raiseTo_demand hp) (by simp [hu]) fun hv => h.verify (raiseTo_demand_cls _ hv)

theorem stage_none_of_unmeasured {k : Container} (h : k.Sound) (hu : k.unmeasured = true) : k.pair.stage = .none := by
  rw [h.unmeasured hu]
  rfl

/-! ## Changes of records -/

/-- Two states that the lift protocol does not tell apart. -/
def SameRole (a b : ServiceState) : Prop := a = b ∨ a.inLift = false ∧ b.inLift = false

theorem SameRole.eq_iff {a b st : ServiceState} (h : SameRole a b) (hl : st.inLift = true) : a = st ↔ b = st := by
  rcases h with rfl | ⟨ha, hb⟩
  · rfl
  · constructor
    · rintro rfl
      exact absurd (ha.symm.trans hl) (by decide)
    · rintro rfl
      exact absurd (hb.symm.trans hl) (by decide)

section
variable {s t : State} {g : Nat → Container → Container}

theorem State.Holds.map {o : Option (Nat × ServiceState)} (h : s.Holds o)
    (hc : ∀ d : Nat, t.containers[d]? = (s.containers[d]?).map (g d))
    (hg : ∀ (d : Nat) (k : Container), s.containers[d]? = some k → SameRole k.state (g d k).state) : t.Holds o := by
  intro c st hst
  rw [← h c st hst, inState_eq, inState_eq, hc]
  rcases hk : s.containers[c]? with _ | k
  · simp
  · simpa using ((hg c k hk).eq_iff hst).symm

/-- A change that keeps every record sound and its role in the lift protocol. -/
theorem State.ClaimSound.map (h : s.ClaimSound)
    (hc : ∀ d : Nat, t.containers[d]? = (s.containers[d]?).map (g d))
    (hg : ∀ (d : Nat) (k : Container), s.containers[d]? = some k → (g d k).Sound ∧ SameRole k.state (g d k).state)
    (hl : t.lift = { s.lift with last := t.lift.last }) : t.ClaimSound := by
  obtain ⟨o, ho, hf⟩ := h.protocol
  refine ⟨fun d m hm => ?_, ⟨o, ho.map hc fun d k hk => (hg d k hk).2, ?_⟩, ?_⟩
  · rw [hc d, Option.map_eq_some_iff] at hm
    obtain ⟨k, hk, rfl⟩ := hm
    exact (hg d k hk).1
  · rw [hl]
    exact ⟨hf.claim, hf.claimed, hf.released, hf.lidWait, hf.releaseWait⟩
  · rw [hl]
    exact h.loss

/-- A change that keeps every stage, as far as the front end is concerned. -/
theorem State.FrontSound.map (h : s.FrontSound)
    (hc : ∀ d : Nat, t.containers[d]? = (s.containers[d]?).map (g d))
    (hg : ∀ (d : Nat) (k : Container), s.containers[d]? = some k → (g d k).pair.stage.runs = k.pair.stage.runs)
    (hr : t.run = s.run) : t.FrontSound := by
  refine ⟨fun c m b hm => ?_, by rw [hr]; exact h.converting⟩
  rw [hc c, Option.map_eq_some_iff] at hm
  obtain ⟨k, hk, rfl⟩ := hm
  rw [hr, hg c k hk]
  exact h.front c k b hk

theorem State.LiftSound.map (h : s.LiftSound)
    (hc : ∀ d : Nat, t.containers[d]? = (s.containers[d]?).map (g d))
    (hg : ∀ (d : Nat) (k : Container), s.containers[d]? = some k →
      (g d k).Sound ∧ SameRole k.state (g d k).state ∧ (g d k).pair.stage.runs = k.pair.stage.runs)
    (hr : t.run = s.run) (hl : t.lift = { s.lift with last := t.lift.last }) : t.LiftSound := by
  rw [liftSound_iff] at h ⊢
  exact ⟨h.1.map hc (fun d k hk => ⟨(hg d k hk).1, (hg d k hk).2.1⟩) hl, h.2.map hc (fun d k hk => (hg d k hk).2.2) hr⟩

theorem State.LiftSound.congr (h : s.LiftSound) (hc : t.containers = s.containers) (hr : t.run = s.run)
    (hl : t.lift = s.lift) : t.LiftSound := by
  obtain ⟨records, one, front, converting, claim, held, lidWait, releaseWait, loss⟩ := h
  refine ⟨by rwa [hc], by rwa [hc], by rwa [hc, hr], by rwa [hr], ?_, ?_, ?_, ?_, by rwa [hl]⟩
  all_goals simp only [State.inState, hc, hl] at *
  all_goals assumption

end

section
variable {s t : State} {c : Nat} {k m : Container} (hk : s.containers[c]? = some k)
  (hc : t.containers = s.containers.set c m)
include hk hc

/-- One record written, as a change of every record. -/
theorem set_as_map (d : Nat) : t.containers[d]? = (s.containers[d]?).map fun x => if c = d then m else x := by
  rw [hc, List.getElem?_set]
  by_cases hd : c = d
  · subst hd
    simp [(List.getElem?_eq_some_iff.mp hk).1]
  · simp [hd]

/-- One record written, its role in the lift protocol kept. -/
theorem State.ClaimSound.set (h : s.ClaimSound) (hm : k.Sound → m.Sound) (hs : SameRole k.state m.state)
    (hl : t.lift = { s.lift with last := t.lift.last }) : t.ClaimSound := by
  refine h.map (set_as_map hk hc) (fun d x hx => ?_) hl
  split
  · next hd =>
    obtain rfl := hd
    obtain rfl := Option.some.inj (hk.symm.trans hx)
    exact ⟨hm (h.records c k hk), hs⟩
  · exact ⟨h.records d x hx, .inl rfl⟩

theorem State.FrontSound.set (h : s.FrontSound) (hm : m.pair.stage.runs = k.pair.stage.runs) (hr : t.run = s.run) :
    t.FrontSound := by
  refine h.map (set_as_map hk hc) (fun d x hx => ?_) hr
  split
  · next hd =>
    obtain rfl := hd
    obtain rfl := Option.some.inj (hk.symm.trans hx)
    exact hm
  · rfl

/-- Where the protocol holds c, or nothing, c's new state says what it holds then. -/
theorem State.Holds.move {o : Option (Nat × ServiceState)} (h : s.Holds o)
    (ho : ∀ d st, o = some (d, st) → st.inLift = true → d = c) : t.Holds (some (c, m.state)) := by
  intro d st hst
  rw [inState_eq, set_as_map hk hc]
  by_cases hd : c = d
  · subst hd
    simp [hk]
  · have hno : ¬ s.inState d st = true := fun hd' => hd (ho d st ((h d st hst).mp hd') hst).symm
    rw [inState_eq] at hno
    simpa [hd] using hno

/-- One record written, and with it what the protocol holds. -/
theorem State.ClaimSound.move (h : s.ClaimSound) (hm : k.Sound → m.Sound)
    (ho : ∀ d st, s.inState d st = true → st.inLift = true → d = c)
    (hf : t.lift.Fits (some (c, m.state))) (hl : t.lift.LossFits) : t.ClaimSound := by
  obtain ⟨o, hs, _⟩ := h.protocol
  refine ⟨fun d x hx => ?_, ⟨_, hs.move hk hc fun d st e hst => ho d st ((hs d st hst).mpr e) hst, hf⟩, hl⟩
  rw [set_as_map hk hc] at hx
  split at hx
  · next hd =>
    obtain rfl := hd
    simp only [hk, Option.map_some, Option.some.injEq] at hx
    exact hx ▸ hm (h.records c k hk)
  · exact h.records d x (by simpa using hx)

end

end Sys2Proof.Machine
end

section
/-! PROOFS. Each operation keeps the lift invariant (R6 to R13, R19, R24 to R39, R132 to R150), and with them every step. -/

namespace Sys2Proof.Machine

/-! ## States in which nothing is claimed and nothing runs -/

theorem liftSound_of_unclaimed {t : State}
    (records : ∀ (c : Nat) (k : Container), t.containers[c]? = some k →
      k.Sound ∧ k.state ≠ .claimed ∧ k.state ≠ .released ∧ k.pair.stage.runs = none)
    (one : ∀ (c d : Nat) (k m : Container), t.containers[c]? = some k → t.containers[d]? = some m →
      k.state.inLift = true → m.state.inLift = true → c = d)
    (hr : t.run = none) (hs : t.lift.session = none) (hw : t.lift.lidWait = none) (hv : t.lift.releaseWait = none)
    (hc : t.lift.carrierLoss = none) : t.LiftSound where
  records k hk := by
    obtain ⟨c, hc⟩ := List.mem_iff_getElem?.mp hk
    exact (records c k hc).1
  one := one
  front c k b hk := by
    obtain ⟨_, _, _, h⟩ := records c k hk
    simp [h, hr]
  converting r h := by simp [hr] at h
  claim x c hx := by simp [hs] at hx
  held c k hk hst := by
    obtain ⟨_, hcl, hrl, _⟩ := records c k hk
    exact (hst.elim hcl hrl).elim
  lidWait := by
    have : ∀ c, ¬ t.inState c .claimed = true := by
      intro c h
      obtain ⟨k, hk, hst⟩ := (inState_eq t c _).mp h
      exact (records c k hk).2.1 hst
    simp [hw, this]
  releaseWait := by
    have : ∀ c, ¬ t.inState c .released = true := by
      intro c h
      obtain ⟨k, hk, hst⟩ := (inState_eq t c _).mp h
      exact (records c k hk).2.2.1 hst
    simp [hv, this]
  carrierLoss := by simp [hc, hs]

/-- A record as a reset makes it, in a state of no protocol. -/
theorem freshContainer_sound (g : ContainerSettings) (b : Bool) (now : Nat) : (freshContainer g b now).Sound := by
  refine ⟨fun h => ⟨by simpa [freshContainer] using h, .inl rfl⟩, fun _ => rfl, by simp [freshContainer, Pair.idle],
    pairIdle_sound, ?_, ?_, ?_⟩ <;> simp [freshContainer]

theorem takeDue_sound {k : Container} (h : k.Sound) (next now : Nat) :
    (({ k with nextDue := next } : Container).takeDue now).Sound := by
  have hk : ({ k with nextDue := next } : Container).Sound := h.congr rfl rfl rfl rfl h.misses h.mismatches h.added
  unfold Container.takeDue
  split
  · exact hk.congr rfl rfl rfl rfl h.misses h.mismatches h.added
  · next hu =>
    rw [not_or, not_not] at hu
    obtain ⟨hu, hp⟩ := hu
    dsimp only
    rw [request_none hp]
    refine (hk.withPair (requestedPair_sound _ now) (fun h => (hu h).elim) ?_).congr rfl rfl rfl rfl h.misses
      h.mismatches h.added
    simp only [Container.dueClass, requestedPair]
    split <;> simp

theorem takeDue_runs (k : Container) (now : Nat) : (k.takeDue now).pair.stage.runs = k.pair.stage.runs := by
  unfold Container.takeDue
  split
  · rfl
  · next hu =>
    rw [not_or, not_not] at hu
    dsimp only
    rw [request_none hu.2, hu.2]
    rfl

/-! ## The front end -/

theorem runs_eq_none_of_free {s : State} (h : s.FrontSound) (hr : s.run = none) {c : Nat} {k : Container}
    (hk : s.containers[c]? = some k) : k.pair.stage.runs = none := by
  by_contra hn
  obtain ⟨b, hb⟩ := Option.ne_none_iff_exists'.mp hn
  rw [h.front c k b hk, hr] at hb
  cases hb

section
variable {s t : State} {c : Nat} {k m : Container} (hk : s.containers[c]? = some k)
  (hc : t.containers = s.containers.set c m)
include hk hc

/-- The start of a measurement on a free front end (R19). -/
theorem State.FrontSound.start {b : Bool} (h : s.FrontSound) (hr : s.run = none) (ht : t.run = some (.started c b))
    (hm : m.pair.stage.runs = some b) : t.FrontSound := by
  refine ⟨fun d x b' hx => ?_, fun r hr' => ?_⟩
  · rw [set_as_map hk hc, Option.map_eq_some_iff] at hx
    obtain ⟨y, hy, rfl⟩ := hx
    by_cases hd : c = d
    · simp [hd, hm, ht, Run.started]
    · simp [hd, ht, Run.started, runs_eq_none_of_free h hr hy]
  · cases ht.symm.trans hr'
    exact ⟨rfl, rfl⟩

/-- An unseat's effect (R35): the stage is NONE, and a run is marked detached. -/
theorem State.FrontSound.detach (h : s.FrontSound) (ht : t.run = detachedRun c s.run)
    (hm : m.pair.stage.runs = none) : t.FrontSound := by
  refine ⟨fun d x b hx => ?_, fun r hr => ?_⟩
  · rw [set_as_map hk hc, Option.map_eq_some_iff] at hx
    obtain ⟨y, hy, rfl⟩ := hx
    have hf := h.front d y b hy
    rw [ht]
    rcases hs : s.run with _ | r
    · by_cases hd : c = d <;> simp_all [detachedRun]
    · by_cases hd : c = d
      · simp only [if_pos hd, hm, detachedRun, Option.map_some, Option.some.injEq]
        split <;> grind [Run.started]
      · simp only [if_neg hd, hf, hs, detachedRun, Option.map_some, Option.some.injEq]
        split <;> grind [Run.started]
  · rw [ht, detachedRun, Option.map_eq_some_iff] at hr
    obtain ⟨r', hr', rfl⟩ := hr
    split <;> exact h.converting r' hr'

/-- The end of a measurement (R22): the front end is free, and the container it ran for runs no more. -/
theorem State.FrontSound.free (h : s.FrontSound) (hr : ∀ r, s.run = some r → r.container = c ∨ r.detached = true)
    (ht : t.run = none) (hm : m.pair.stage.runs = none) : t.FrontSound := by
  refine ⟨fun d x b hx => ?_, fun r hr' => by simp [ht] at hr'⟩
  rw [set_as_map hk hc, Option.map_eq_some_iff] at hx
  obtain ⟨y, hy, rfl⟩ := hx
  by_cases hd : c = d
  · simp [hd, hm, ht]
  · have hf := h.front d y b hy
    have hn : s.run ≠ some (.started d b) := by
      intro e
      rcases hr _ e with e | e
      · exact hd e.symm
      · cases e
    simp [hd, hf, hn, ht]

end

/-- The stage of a measurement that starts says which of the two runs (R19, R26). -/
theorem startedStage_runs (b : Bool) : (if b then Stage.secondRunning else .firstRunning).runs = some b := by
  cases b <;> rfl

theorem startMeasurement_containers {s : State} {c : Nat} {k : Container} (p : Pair) (hk : s.containers[c]? = some k) :
    (s.startMeasurement c p).containers = s.containers.set c { k with pair := { k.pair with
      stage := if decide (p.stage = .secondQueued) then .secondRunning else .firstRunning, entry := none } } := by
  simp [State.startMeasurement, updContainer_eq_set _ hk]

theorem startedPair_sound {p : Pair} (h : p.Sound) (hq : p.queued = true) :
    ({ p with
      stage := if decide (p.stage = .secondQueued) = true then .secondRunning else .firstRunning
      entry := none } : Pair).Sound := by
  have hq' : p.stage = .firstQueued ∨ p.stage = .secondQueued := by simpa [Pair.queued] using hq
  have hcls := h.cls
  have hfirst := h.first
  have hspacing := h.spacing
  rcases hq' with hs | hs <;> simp only [hs] at hcls hfirst hspacing ⊢ <;>
    exact ⟨by simpa using hcls, by simp, by simpa using hfirst, by simpa using hspacing, h.attempt, h.attempts⟩

/-- The arbiter keeps the invariant (R30). -/
theorem arbitrate_liftSound {s : State} (h : s.LiftSound) : s.arbitrate.LiftSound := by
  rcases arbitrate_cases s with e | ⟨c, k, hr, hk, hq, e⟩ <;> rw [e]
  · exact h
  · rw [liftSound_iff] at h ⊢
    obtain ⟨hclaim, hfront⟩ := h
    have hc := startMeasurement_containers k.pair hk
    refine ⟨hclaim.set hk hc (fun hs => ?_) (.inl rfl) rfl, hfront.start hk hc hr rfl (startedStage_runs _)⟩
    refine hs.withPair (startedPair_sound hs.pair hq) (fun hu => ?_) hs.verify
    rw [hs.unmeasured hu] at hq
    cases hq

/-! ## The lift protocol -/

theorem inLift_unique {s : State} (h : s.ClaimSound) {c : Nat} {k : Container} (hk : s.containers[c]? = some k)
    (hl : k.state.inLift = true) (d : Nat) (st : ServiceState) (hd : s.inState d st = true) (hst : st.inLift = true) :
    d = c := by
  obtain ⟨o, ho, _⟩ := h.protocol
  have e := ((ho d st hst).mp hd).symm.trans (ho.eq_of_inLift hk hl)
  exact congrArg Prod.fst (Option.some.inj e)

theorem inLift_of_claim {st : ServiceState} (h : st = .claimed ∨ st = .released) : st.inLift = true := by
  rcases h with rfl | rfl <;> rfl

/-- With no claim and no wait the controller fits a container outside the protocol. -/
theorem fits_outside {l : LiftController} {c : Nat} {st : ServiceState} (hs : st.inLift = false)
    (hc : l.claimOf = none) (hw : l.lidWait = none) (hv : l.releaseWait = none) : l.Fits (some (c, st)) := by
  constructor <;> cases st <;> simp_all [ServiceState.inLift]

theorem claimEnded_claimOf (l : LiftController) (c : Nat) (e : LiftEnding) (n : Nat) :
    (l.claimEnded c e n).claimOf = none := by
  unfold LiftController.claimOf LiftController.claimEnded
  cases l.session <;> rfl

theorem clearClaim_claimOf (l : LiftController) : l.clearClaim.claimOf = none := by
  unfold LiftController.claimOf LiftController.clearClaim
  cases l.session <;> rfl

theorem claimEnded_lossFits {l : LiftController} (h : l.LossFits) (c : Nat) (e : LiftEnding) (n : Nat) :
    (l.claimEnded c e n).LossFits := by
  simpa [LiftController.LossFits, LiftController.claimEnded] using h

/-- A container that is claimed or released is measured, if at all, as any other: neither LIFTED nor displaced. -/
theorem measured_of_claim {k : Container} (h : k.Sound) (hs : k.state = .claimed ∨ k.state = .released) :
    k.displaced = false := by
  by_contra hd
  rw [Bool.not_eq_false] at hd
  obtain ⟨_, hd⟩ := h.displaced hd
  rcases hs with hs | hs <;> simp [hs] at hd

/-- The end of a claim leaves the records and the emptying controller fitting (R13, R136, R141 to R143). -/
theorem State.ClaimSound.endClaim {s t : State} {c d n : Nat} {k m : Container} {e : LiftEnding} (h : s.ClaimSound)
    (hk : s.containers[c]? = some k) (hc : t.containers = s.containers.set c m)
    (hs : k.state = .claimed ∨ k.state = .released) (hm : k.Sound → m.Sound) (hms : m.state = .serving)
    (hl : t.lift = s.lift.claimEnded d e n) : t.ClaimSound :=
  h.move hk hc hm (inLift_unique h hk (inLift_of_claim hs))
    (by rw [hl, hms]; exact fits_outside rfl (claimEnded_claimOf ..) rfl rfl)
    (by rw [hl]; exact claimEnded_lossFits h.loss d e n)

/-- A record in another service state, from one that is not VERIFYING to one that is not LIFTED. -/
theorem Container.Sound.withState {k : Container} (h : k.Sound) {st : ServiceState}
    (hd : k.displaced = true → st = .serving ∨ st = .suspended) (hv : k.state ≠ .verifying) (hl : st ≠ .lifted) :
    ({ k with state := st } : Container).Sound := by
  refine ⟨fun hd' => ⟨(h.displaced hd').1, hd hd'⟩, fun hu => ?_, fun hp => (hv (h.verify hp)).elim, h.pair, h.misses,
    h.mismatches, h.added⟩
  rw [unmeasured_iff] at hu
  exact h.unmeasured ((unmeasured_iff k).mpr (.inr (hu.resolve_left hl)))

/-- A container in CLAIMED or RELEASED goes on to any state but LIFTED. -/
theorem stateAfterClaim_sound {k : Container} (hs : k.state = .claimed ∨ k.state = .released) {st : ServiceState}
    (hl : st ≠ .lifted) (h : k.Sound) : ({ k with state := st } : Container).Sound :=
  h.withState (fun hd => absurd ((measured_of_claim h hs).symm.trans hd) (by decide))
    (by rcases hs with hs | hs <;> simp [hs]) hl

theorem endClaim_liftSound {s : State} {c : Nat} (e : LiftEnding) (h : s.LiftSound)
    (hs : s.inState c .claimed = true ∨ s.inState c .released = true) : (s.endClaim c e).LiftSound := by
  obtain ⟨k, hk, hs⟩ : ∃ k, s.containers[c]? = some k ∧ (k.state = .claimed ∨ k.state = .released) := by
    rcases hs with hs | hs
    · obtain ⟨k, hk, hs⟩ := (inState_eq s c _).mp hs
      exact ⟨k, hk, .inl hs⟩
    · obtain ⟨k, hk, hs⟩ := (inState_eq s c _).mp hs
      exact ⟨k, hk, .inr hs⟩
  rw [liftSound_iff] at h ⊢
  rw [endClaim_eq e hk]
  exact ⟨h.1.endClaim hk rfl hs (stateAfterClaim_sound hs (by decide)) rfl rfl, h.2.set hk rfl rfl rfl⟩

/-- A container that is judged ready while CLAIMED is RELEASED (R140). -/
theorem judgeRelease_liftSound {s : State} (c : Nat) (h : s.LiftSound) : (s.judgeRelease c).LiftSound := by
  unfold State.judgeRelease
  split
  · next hr =>
    obtain ⟨k, hk, hs⟩ := (inState_eq s c _).mp hr.1
    rw [liftSound_iff] at h ⊢
    obtain ⟨hclaim, hfront⟩ := h
    obtain ⟨o, ho, hf⟩ := hclaim.protocol
    have hclm := hf.claimed c (by rw [ho.eq_of_inLift hk (by rw [hs]; rfl), hs])
    rw [updContainer_eq_set _ hk]
    refine ⟨hclaim.move hk rfl (stateAfterClaim_sound (.inl hs) (by decide))
      (inLift_unique hclaim hk (by rw [hs]; rfl)) ?_ hclaim.loss, hfront.set hk rfl rfl rfl⟩
    exact ⟨fun d hd => by cases hclm.symm.trans hd; simp, by simp, fun d hd => by cases hd; exact hclm, by simp, by simp⟩
  · exact h

/-- One record changed in its place, its role in the lift protocol and its stage kept. -/
theorem State.LiftSound.modify {s t : State} (c : Nat) (f : Container → Container) (h : s.LiftSound)
    (hc : t.containers = s.containers.modify c f)
    (hf : ∀ k, k.Sound → (f k).Sound ∧ SameRole k.state (f k).state ∧ (f k).pair.stage.runs = k.pair.stage.runs)
    (hr : t.run = s.run) (hl : t.lift = { s.lift with last := t.lift.last }) : t.LiftSound := by
  refine h.map (g := fun d k => if c = d then f k else k) (fun d => ?_) (fun d k hk => ?_) hr hl
  · rw [hc]
    exact updContainer_get s c d f
  · have hs := h.records k (List.mem_of_getElem? hk)
    split
    · exact hf k hs
    · exact ⟨hs, .inl rfl, rfl⟩

theorem evaluate_liftSound {s : State} (c : Nat) (h : s.LiftSound) : (s.evaluate c).LiftSound := by
  rcases evaluate_containers s c with e | ⟨b, e⟩
  · exact h.congr e (by simp) (by simp)
  · exact h.modify c _ e (fun k hk => ⟨hk.congr rfl rfl rfl rfl hk.misses hk.mismatches hk.added, .inl rfl, rfl⟩)
      (by simp) (by simp)

theorem addVolume_liftSound {s : State} (c n : Nat) (h : s.LiftSound) : (s.addVolume c n).LiftSound := by
  refine evaluate_liftSound c (h.modify c _ rfl (fun k hk => ⟨?_, .inl rfl, rfl⟩) rfl rfl)
  exact hk.congr rfl rfl rfl rfl hk.misses hk.mismatches (by simp [saturate])

theorem countClosing_liftSound {s : State} (i : Nat) (x : Inlet) (t : Nat) (h : s.LiftSound) :
    (s.countClosing i x t).LiftSound := by
  unfold State.countClosing State.countDeposit State.countForced
  dsimp only
  repeat' split
  · exact h
  · next w _ =>
    have hw : (s.chargeCard (w.card.getD 0)).LiftSound := h.congr rfl rfl rfl
    exact (addVolume_liftSound x.cfg.container x.cfg.nominal hw).congr (by simp) (by simp) (by simp)
  · exact addVolume_liftSound _ _ (h.congr (by simp) (by simp) (by simp))
  · exact h
  · exact h
  · exact h

theorem takeLidClosing_liftSound {s : State} (i t : Nat) (h : s.LiftSound) : (s.takeLidClosing i t).LiftSound := by
  unfold State.takeLidClosing
  dsimp only
  repeat' split
  · exact h
  · exact judgeRelease_liftSound _ (h.congr rfl rfl rfl)
  · exact judgeRelease_liftSound _ (countClosing_liftSound _ _ _ (h.congr rfl rfl rfl))
  · exact h

/-! ## Unseat and reseat -/

/-- A container that leaves its platform: unseated, its pair gone; it is displaced outside the lift protocol. -/
theorem displaced_sound {k : Container} {st : ServiceState} (hs : st = .serving ∨ st = .suspended) (h : k.Sound) :
    ({ k with seated := false, displaced := true, pair := .idle, state := st } : Container).Sound :=
  ⟨fun _ => ⟨rfl, hs⟩, fun _ => rfl, fun hv => (nomatch hv), pairIdle_sound, h.misses, h.mismatches, h.added⟩

theorem lifted_sound {k : Container} (n : Option EmptyingNote) (hd : k.displaced = false) (h : k.Sound) :
    ({ k with seated := false, state := .lifted, pair := .idle, note := n } : Container).Sound :=
  ⟨fun hd' => absurd (hd.symm.trans hd') (by decide), fun _ => rfl, fun hv => (nomatch hv), pairIdle_sound, h.misses,
    h.mismatches, h.added⟩

theorem unseated_sound {k : Container} (h : k.Sound) : ({ k with seated := false } : Container).Sound :=
  ⟨fun hd => ⟨rfl, (h.displaced hd).2⟩, h.unmeasured, h.verify, h.pair, h.misses, h.mismatches, h.added⟩

/-- The end of an emptying of a VERIFYING container whose record stands as m by then: the records and the emptying
controller fit (R146). -/
theorem State.ClaimSound.finishEmptying {s t : State} {c : Nat} {k m : Container} (h : s.ClaimSound)
    (hk : s.containers[c]? = some k) (hs : k.state = .verifying) (hc : t.containers = s.containers.set c m)
    (hl : t.lift = s.lift) (after : Option Nat) (v : Bool) (e : LiftEnding)
    (hm : ∀ b, ({ m with note := none, state := .serving, full := b } : Container).Sound) :
    (t.finishEmptying c after v e).ClaimSound := by
  have ht : t.containers[c]? = some m := by rw [hc]; exact set_get m hk
  obtain ⟨b, hb⟩ := finishEmptying_record after v e ht
  rw [hc, List.set_set] at hb
  exact h.set hk hb (fun _ => hm b) (.inr ⟨by rw [hs]; rfl, rfl⟩) (by rw [finishEmptying_lift after v e ht, hl])

theorem State.FrontSound.finishEmptying {s : State} {c : Nat} {k : Container} (h : s.FrontSound)
    (hk : s.containers[c]? = some k) (after : Option Nat) (v : Bool) (e : LiftEnding) :
    (s.finishEmptying c after v e).FrontSound := by
  obtain ⟨b, hb⟩ := finishEmptying_record after v e hk
  exact h.set hk hb rfl (by simp)

theorem takeUnseat_liftSound {s : State} {c : Nat} {k : Container} (h : s.LiftSound) (hk : s.containers[c]? = some k) :
    (s.takeUnseat c).LiftSound := by
  rw [liftSound_iff] at h ⊢
  obtain ⟨hclaim, hfront⟩ := h
  have hks := hclaim.records c k hk
  cases hs : k.state with
  | serving | suspended =>
    rw [takeUnseat_displaces hk (by simp [hs]), displace_eq hk]
    exact ⟨hclaim.set hk rfl (displaced_sound (by simp [hs])) (.inl rfl) rfl, hfront.detach hk rfl rfl rfl⟩
  | claimed =>
    rw [takeUnseat_claimed hk hs]
    exact ⟨hclaim.endClaim hk rfl (.inl hs) (displaced_sound (.inl rfl)) rfl rfl, hfront.detach hk rfl rfl rfl⟩
  | released =>
    rw [takeUnseat_released hk hs, takeLift_eq hk]
    obtain ⟨o, ho, hf⟩ := hclaim.protocol
    have e : o = some (c, .released) := by rw [ho.eq_of_inLift hk (by rw [hs]; rfl), hs]
    subst e
    refine ⟨hclaim.move hk rfl (lifted_sound _ (measured_of_claim hks (.inr hs)))
      (inLift_unique hclaim hk (by rw [hs]; rfl)) ?_ hclaim.loss, hfront.detach hk rfl rfl rfl⟩
    exact ⟨fun d hd => by simpa using hf.claim d hd, by simp, by simp, by simpa using hf.lidWait, by simp⟩
  | lifted =>
    rw [takeUnseat_lifted hk hs]
    exact ⟨hclaim.set hk rfl unseated_sound (.inl rfl) rfl, hfront.set hk rfl rfl rfl⟩
  | verifying =>
    rw [takeUnseat_verifying hk hs]
    refine ⟨hclaim.finishEmptying (m := k.emptiedAway s.clock.count) hk hs ?_ ?_ none false .verifyUnseated fun b => ?_,
      State.FrontSound.finishEmptying (hfront.detach (m := k.emptiedAway s.clock.count) hk ?_ ?_ rfl) (set_get _ hk)
        none false .verifyUnseated⟩
    any_goals rfl
    exact (displaced_sound (.inl rfl) hks).congr rfl rfl rfl rfl hks.misses hks.mismatches (Nat.zero_le _)

end Sys2Proof.Machine
end

section
/-! PROOFS. The seat, reset, carrier and emptying operations keep the lift invariant (R7 to R19, R132 to R150): O57. -/

namespace Sys2Proof.Machine

theorem request_verify_sound {k : Container} (hl : k.state = .lifted) (hd : k.displaced = false) (now : Nat)
    (n : Option EmptyingNote) (h : k.Sound) :
    ({ k with seated := true, state := .verifying, pair := k.pair.request .verify now, note := n } : Container).Sound := by
  have hu : ({ k with state := .verifying } : Container).unmeasured = false := by simp [Container.unmeasured, hd]
  rw [request_none (stage_none_of_unmeasured h ((unmeasured_iff k).mpr (.inl hl)))]
  exact ⟨fun hd' => absurd (hd.symm.trans hd') (by decide), fun hu' => absurd (hu.symm.trans hu') (by decide),
    fun _ => rfl, requestedPair_sound _ _, h.misses, h.mismatches, h.added⟩

theorem lifted_not_displaced {k : Container} (h : k.Sound) (hl : k.state = .lifted) : k.displaced = false := by
  by_contra hd
  rw [Bool.not_eq_false] at hd
  obtain ⟨_, hs⟩ := h.displaced hd
  simp [hl] at hs

theorem request_runs (p : Pair) (cls : PairClass) (now : Nat) : (p.request cls now).stage.runs = p.stage.runs := by
  unfold Pair.request Pair.raiseTo
  split
  · next h => rw [h]; rfl
  · split <;> rfl

theorem takeReseat_liftSound {s : State} {c : Nat} {k : Container} (h : s.LiftSound) (hk : s.containers[c]? = some k) :
    (s.takeReseat c).LiftSound := by
  rw [takeReseat_eq hk]
  rw [liftSound_iff] at h ⊢
  obtain ⟨hclaim, hfront⟩ := h
  have hks := hclaim.records c k hk
  split
  · next hl =>
    rw [reseatLifted_eq hk]
    obtain ⟨o, ho, hf⟩ := hclaim.protocol
    have e : o = some (c, .lifted) := by rw [ho.eq_of_inLift hk (by rw [hl]; rfl), hl]
    subst e
    have hw : s.lift.lidWait = none := by simpa using hf.lidWait
    have hv : s.lift.releaseWait = none := by simpa using hf.releaseWait
    refine ⟨hclaim.move hk rfl (request_verify_sound hl (lifted_not_displaced hks hl) _ _)
      (inLift_unique hclaim hk (by rw [hl]; rfl)) (fits_outside rfl (clearClaim_claimOf _) hw hv) ?_,
      hfront.set hk rfl (request_runs _ _ _) rfl⟩
    simpa [LiftController.LossFits, LiftController.clearClaim] using hclaim.loss
  · next hl =>
    split
    · next hd =>
      rw [reseatDisplaced_eq hk]
      refine ⟨hclaim.set hk rfl (fun hs => ?_) (.inl rfl) rfl, hfront.set hk rfl (request_runs _ _ _) rfl⟩
      have hu : ({ k with seated := true, displaced := false } : Container).unmeasured = false := by
        simp [Container.unmeasured, hl]
      refine Container.Sound.requestDemand (k := { k with seated := true, displaced := false })
        ⟨fun hd => (nomatch hd), fun hu' => absurd (hu.symm.trans hu') (by decide), hs.verify, hs.pair, hs.misses,
          hs.mismatches, hs.added⟩ hu _
    · next hd =>
      exact ⟨hclaim.set hk rfl (fun hs => ⟨fun hd' => (hd hd').elim, hs.unmeasured, hs.verify, hs.pair, hs.misses,
        hs.mismatches, hs.added⟩) (.inl rfl) rfl, hfront.set hk rfl rfl rfl⟩

/-- A seat change keeps the invariant (R7 to R11). -/
theorem takeSeat_liftSound {s : State} (c : Nat) (b : Bool) (h : s.LiftSound) : (s.takeSeat c b).LiftSound := by
  rcases hk : s.containers[c]? with _ | k
  · rwa [takeSeat_none b hk]
  · rw [takeSeat_eq b hk]
    split
    · exact h
    · split
      · exact takeReseat_liftSound h hk
      · exact takeUnseat_liftSound h hk

/-! ## Restarts -/

/-- Every due event taken at once (R33): the pair of a container without one is requested, unless it is unmeasured. -/
theorem allDue_liftSound {s : State} (h : s.LiftSound) : s.allDue.LiftSound :=
  h.map (allDue_get s) (fun _ k hk => ⟨takeDue_sound (h.records k (List.mem_of_getElem? hk)) _ _, .inl rfl,
    takeDue_runs _ _⟩) rfl rfl

theorem reconcileFrom_liftSound (l : FieldLines) (n k : Nat) {s : State} (h : s.LiftSound) :
    (reconcileFrom l n k s).LiftSound := by
  induction k generalizing n s with
  | zero => exact h
  | succ k ih => exact ih (n + 1) (takeSeat_liftSound n _ h)

/-- A container in VERIFYING stands on its platform, to be measured. -/
theorem measured_of_verifying {k : Container} (h : k.Sound) (hv : k.state = .verifying) : k.unmeasured = false := by
  rw [← Bool.not_eq_true, unmeasured_iff, hv]
  rintro (hl | hd)
  · cases hl
  · obtain ⟨_, hs⟩ := h.displaced hd
    simp [hv] at hs

/-- A warm record: outside a claim, a VERIFYING container with its pair requested anew, every other one with none. -/
theorem warm_sound {k : Container} (h : k.Sound) (now : Nat) : (k.warm now).Sound := by
  unfold Container.warm
  by_cases hv : k.state = .verifying
  · have hp := h.withPair (requestedPair_sound .verify now) (by simp [measured_of_verifying h hv]) fun _ => hv
    rw [if_pos hv, if_neg (by simp [hv]), request_idle]
    exact hp.congr rfl rfl rfl rfl h.misses h.mismatches h.added
  · rw [if_neg hv]
    split
    · next hs =>
      exact (stateAfterClaim_sound (k := { k with pair := .idle }) hs (by decide) h.withIdle).congr rfl rfl rfl rfl h.misses h.mismatches h.added
    · exact h.withIdle.congr rfl rfl rfl rfl h.misses h.mismatches h.added

theorem warmValues_liftSound {s : State} (h : s.LiftSound) : s.warmValues.LiftSound := by
  have get : ∀ d : Nat, s.warmValues.containers[d]? = (s.containers[d]?).map fun k => k.warm s.now := by
    simp [State.warmValues]
  have inLift : ∀ k : Container, (k.warm s.now).state.inLift = true → k.state.inLift = true := by
    intro k hk
    simp only [Container.warm] at hk
    split at hk
    · cases hk
    · exact hk
  refine liftSound_of_unclaimed (fun c m hm => ?_) (fun c d k m hk hm hkl hml => ?_) rfl rfl rfl rfl rfl
  · rw [get, Option.map_eq_some_iff] at hm
    obtain ⟨k, hk, rfl⟩ := hm
    refine ⟨warm_sound (h.records k (List.mem_of_getElem? hk)) _, ?_, ?_, ?_⟩
    · simp only [Container.warm]; split <;> simp_all
    · simp only [Container.warm]; split <;> simp_all
    · simp only [Container.warm]; split <;> rfl
  · rw [get, Option.map_eq_some_iff] at hk hm
    obtain ⟨k', hk', rfl⟩ := hk
    obtain ⟨m', hm', rfl⟩ := hm
    exact h.one c d k' m' hk' hm' (inLift _ hkl) (inLift _ hml)

theorem warmRestart_liftSound {s : State} (h : s.LiftSound) : s.warmRestart.LiftSound :=
  arbitrate_liftSound (reconcileFrom_liftSound _ _ _ (allDue_liftSound (warmValues_liftSound h)))

theorem unpowered_liftSound (s : State) (q : Power) : (s.unpowered q).LiftSound :=
  liftSound_of_unclaimed (fun _ _ h => by simp [State.unpowered, State.reset] at h)
    (fun _ _ _ _ h => by simp [State.unpowered, State.reset] at h) rfl rfl rfl rfl rfl

theorem powerOnEnd_liftSound (s : State) (l : FieldLines) (b : Bool) : (s.powerOnEnd l b).LiftSound := by
  unfold State.powerOnEnd
  dsimp only
  split
  · exact liftSound_of_unclaimed (fun _ _ h => by simp [State.reset] at h) (fun _ _ _ _ h => by simp [State.reset] at h)
      rfl rfl rfl rfl rfl
  · next g _ =>
    refine arbitrate_liftSound (allDue_liftSound (liftSound_of_unclaimed (fun c k hk => ?_) (fun c d k m hk _ hl => ?_)
      rfl rfl rfl rfl rfl))
    all_goals
      rw [freshContainers_get, Option.map_eq_some_iff] at hk
      obtain ⟨cfg, _, rfl⟩ := hk
    · exact ⟨freshContainer_sound _ _ _, fun h => (nomatch h), fun h => (nomatch h), rfl⟩
    · cases hl

theorem notInHand {s : State} (h : s.inHand = false) {c : Nat} {k : Container} (hk : s.containers[c]? = some k) :
    k.state = .serving ∨ k.state = .suspended := by
  have := List.any_eq_false.mp h k (List.mem_of_getElem? hk)
  cases hs : k.state <;> simp_all

theorem configRestart_liftSound {s : State} (g : StationConfig) (hh : s.inHand = false) :
    (s.configRestart g).LiftSound := by
  have state : ∀ (c : Nat) (k : Container), (rebuiltContainers s.lines s.now 0 s.containers g.containers)[c]? = some k →
      k.Sound ∧ (k.state = .serving ∨ k.state = .suspended) ∧ k.pair.stage.runs = none := by
    intro c k hk
    rw [rebuiltContainers_get, Option.map_eq_some_iff] at hk
    obtain ⟨cfg, _, rfl⟩ := hk
    rcases hc : s.containers[c]? with _ | old
    · exact ⟨freshContainer_sound _ _ _, .inl rfl, rfl⟩
    · have hst := notInHand hh hc
      have hf := freshContainer_sound cfg (seatLevel s.lines (0 + c)) s.now
      exact ⟨⟨fun hd => ⟨(hf.displaced hd).1, hst⟩, fun _ => rfl, fun hv => (nomatch hv), pairIdle_sound, hf.misses,
        hf.mismatches, hf.added⟩, hst, rfl⟩
  refine arbitrate_liftSound (allDue_liftSound (liftSound_of_unclaimed (fun c k hk => ?_) (fun c d k m hk _ hl => ?_)
    rfl rfl rfl rfl rfl))
  · obtain ⟨hs, hst, hr⟩ := state c k hk
    exact ⟨hs, by rcases hst with e | e <;> simp [e], by rcases hst with e | e <;> simp [e], hr⟩
  · obtain ⟨_, hst, _⟩ := state c k hk
    rcases hst with e | e <;> simp [e, ServiceState.inLift] at hl

/-! ## Measurements -/

theorem becomeHot_sound {k : Container} (now : Nat) (h : k.Sound) : (k.becomeHot now).Sound := by
  have hp : (if k.pair.stage = .none then k.pair else k.pair.raiseTo .demand).Sound := by
    split
    · exact h.pair
    · next hp => exact h.pair.raiseTo_demand hp
  refine Container.Sound.congr (h.withPair hp (fun hu => ?_) fun hv => h.verify ?_) rfl rfl rfl rfl h.misses h.mismatches
    h.added
  · rw [if_pos (stage_none_of_unmeasured h hu), h.unmeasured hu]
  · split at hv
    · exact hv
    · exact raiseTo_demand_cls _ hv

theorem becomeHot_stage (k : Container) (now : Nat) : (k.becomeHot now).pair.stage = k.pair.stage := by
  simp only [becomeHot_record]
  split <;> rfl

/-- One record is written, k in s and m in t, and the records and the emptying controller still fit together. -/
structure Rewrites (c : Nat) (k m : Container) (s t : State) : Prop where
  before : s.containers[c]? = some k
  after : t.containers = s.containers.set c m
  sound : s.ClaimSound → t.ClaimSound

theorem Rewrites.get {c : Nat} {k m : Container} {s t : State} (h : Rewrites c k m s t) : t.containers[c]? = some m := by
  rw [h.after]
  exact set_get m h.before

theorem Rewrites.trans {c : Nat} {k m n : Container} {s t u : State} (h : Rewrites c k m s t) (h' : Rewrites c m n t u) :
    Rewrites c k n s u :=
  ⟨h.before, by rw [h'.after, h.after, List.set_set], fun hs => h'.sound (h.sound hs)⟩

theorem rewrites_upd {s : State} {c : Nat} {k : Container} (f : Container → Container)
    (hk : s.containers[c]? = some k) (hf : k.Sound → (f k).Sound) (hs : SameRole k.state (f k).state) :
    Rewrites c k (f k) s (s.updContainer c f) := by
  have hc : (s.updContainer c f).containers = s.containers.set c (f k) := by rw [updContainer_eq_set f hk]
  exact ⟨hk, hc, fun h => h.set hk hc hf hs rfl⟩

theorem Rewrites.congr {c : Nat} {k m : Container} {s t u : State} (h : Rewrites c k m s t)
    (hc : u.containers = t.containers) (hl : u.lift = { t.lift with last := u.lift.last }) : Rewrites c k m s u :=
  ⟨h.before, hc.trans h.after, fun hs =>
    (h.sound hs).map (g := fun _ k => k) (by simp [hc]) (fun d k hk => ⟨(h.sound hs).records d k hk, .inl rfl⟩) hl⟩

theorem Rewrites.raiseIf {c : Nat} {k m : Container} {s t : State} (h : Rewrites c k m s t) (b : Bool)
    (a : AttentionKind) : Rewrites c k m s (t.raiseIf b a) := h.congr (by simp) (by simp)

theorem Rewrites.raise {c : Nat} {k m : Container} {s t : State} (h : Rewrites c k m s t) (a : AttentionKind) :
    Rewrites c k m s (t.raise a) := h.congr rfl rfl

/-- Becoming hot, in the records and the emptying controller (R13, R32, R68, R148). -/
theorem becomeHot_rewrites {s : State} {c : Nat} {k : Container} (hk : s.containers[c]? = some k) :
    ∃ m, Rewrites c k m s (s.becomeHot c) ∧ m.pair.stage = k.pair.stage := by
  by_cases hs : k.state = .claimed ∨ k.state = .released
  · refine ⟨{ k.becomeHot s.now with state := .serving }, ?_, becomeHot_stage k s.now⟩
    rw [becomeHot_claimed hk hs]
    exact ⟨hk, rfl, fun h => h.endClaim hk rfl hs (fun hs' => stateAfterClaim_sound (k := k.becomeHot s.now) hs (by decide)
      (becomeHot_sound _ hs')) rfl rfl⟩
  · rw [not_or] at hs
    refine ⟨k.becomeHot s.now, ?_, becomeHot_stage k s.now⟩
    rw [becomeHot_unclaimed hk hs.1 hs.2]
    exact ⟨hk, rfl, fun h => h.set hk rfl (becomeHot_sound _) (.inl rfl) rfl⟩

/-- Step 1 of a completion leaves the stage as it stands (R22). -/
theorem takeTemperature_rewrites {s : State} {c : Nat} {k : Container} (temp : Option (Int × Bool))
    (hk : s.containers[c]? = some k) :
    ∃ m, Rewrites c k m s (s.takeTemperature c k temp) ∧ m.pair.stage = k.pair.stage := by
  unfold State.takeTemperature
  split
  · exact ⟨_, (rewrites_upd (fun x => { x with tempStatus := .fault }) hk
      (fun h => h.congr rfl rfl rfl rfl h.misses h.mismatches h.added) (.inl rfl)).raiseIf _ _, rfl⟩
  · next t clamped =>
    have h1 := rewrites_upd (fun x => { x with tempStatus := .valid }) hk
      (fun h => h.congr rfl rfl rfl rfl h.misses h.mismatches h.added) (.inl rfl)
    have last : ∀ {m : Container} {u : State}, Rewrites c k m s u → m.pair.stage = k.pair.stage →
        ∃ m', Rewrites c k m' s (u.updContainer c fun x => { x with lastTemp := some ⟨t, clamped, s.now⟩ }) ∧
          m'.pair.stage = k.pair.stage :=
      fun h hm => ⟨_, h.trans (rewrites_upd _ h.get
        (fun h => h.congr rfl rfl rfl rfl h.misses h.mismatches h.added) (.inl rfl)), hm⟩
    unfold State.temperatureValid
    dsimp only
    split
    · obtain ⟨m, hm, hp⟩ := becomeHot_rewrites h1.get
      exact last (h1.trans hm) hp
    · exact last h1 rfl

/-- The end of an emptying of a VERIFYING container without a pair (R146). -/
theorem finishEmptying_rewrites {s : State} {c : Nat} {k : Container} (hk : s.containers[c]? = some k)
    (hs : k.state = .verifying) (hp : k.pair = .idle) (after : Option Nat) (v : Bool) (e : LiftEnding) :
    ∃ m, Rewrites c k m s (s.finishEmptying c after v e) ∧ m.pair = .idle := by
  obtain ⟨b, hb⟩ := finishEmptying_record after v e hk
  refine ⟨_, ⟨hk, hb, fun h => h.set hk hb (fun hk' => ?_) (.inr ⟨by rw [hs]; rfl, rfl⟩) ?_⟩, hp⟩
  · have hd : k.displaced = false := by
      have := measured_of_verifying hk' hs
      simp_all [Container.unmeasured]
    exact ⟨fun hd' => absurd (hd.symm.trans hd') (by decide), fun _ => hp, fun hv => by simp [hp, Pair.idle] at hv,
      hk'.pair, hk'.misses, hk'.mismatches, hk'.added⟩
  · rw [finishEmptying_lift after v e hk]

theorem idle_runs {p : Pair} (h : p = .idle) : p.stage.runs = none := by rw [h]; rfl

/-- What becomes of a failed pair (R36 to R38). -/
theorem endFailedPair_rewrites {s : State} {c : Nat} {k : Container} (hk : s.containers[c]? = some k) (hks : k.Sound) :
    ∃ m, Rewrites c k m s (s.endFailedPair c) ∧ m.pair.stage.runs = none := by
  have idle := rewrites_upd (fun x => { x with pair := .idle }) hk Container.Sound.withIdle (.inl rfl)
  simp only [State.endFailedPair, hk]
  split
  · next hv =>
    have hst := hks.verify hv
    split
    · next hn =>
      refine ⟨_, rewrites_upd _ hk (fun h => h.withPair ?_ (by simp [measured_of_verifying h hst]) fun _ => hst) (.inl rfl),
        rfl⟩
      refine ⟨by simp, by simp, by simp [Pair.idle], by simp [Pair.idle], by simp, fun n hn' => ?_⟩
      cases hn'
      omega
    · have empty := idle.trans (rewrites_upd (fun x => x.assumeEmpty s.clock.count) idle.get
        (fun h => h.congr rfl rfl rfl rfl h.misses h.mismatches (Nat.zero_le _)) (.inl rfl))
      obtain ⟨m, hm, hp⟩ := finishEmptying_rewrites empty.get hst rfl none false .verifyFailed
      exact ⟨m, empty.trans hm, idle_runs hp⟩
  · exact ⟨_, idle, rfl⟩

theorem pairMiss_rewrites {s : State} {c : Nat} {k : Container} (hk : s.containers[c]? = some k) (hks : k.Sound) :
    ∃ m, Rewrites c k m s (s.pairMiss c k) ∧ m.pair.stage.runs = none := by
  have sound : k.Sound → k.countMiss.Sound := fun h =>
    h.congr rfl rfl rfl rfl (by simp [Container.countMiss, saturate]) h.mismatches h.added
  have counted := (rewrites_upd Container.countMiss hk sound (.inl rfl)).raiseIf
    (decide (4 ≤ k.misses + 1 ∧ k.levelStatus ≠ .sensorFault)) .sensor
  obtain ⟨m, hm, hr⟩ := endFailedPair_rewrites counted.get (sound hks)
  exact ⟨m, counted.trans hm, hr⟩

theorem pairMismatch_rewrites {s : State} {c : Nat} {k : Container} (hk : s.containers[c]? = some k) (hks : k.Sound) :
    ∃ m, Rewrites c k m s (s.pairMismatch c k) ∧ m.pair.stage.runs = none := by
  have sound : k.Sound → k.countMismatch.Sound := fun h =>
    h.congr rfl rfl rfl rfl (Nat.zero_le _) (by simp [Container.countMismatch, saturate]) h.added
  have counted := (rewrites_upd Container.countMismatch hk sound (.inl rfl)).raiseIf
    (decide (6 ≤ k.mismatches + 1 ∧ k.levelStatus ≠ .unsure)) .sensor
  obtain ⟨m, hm, hr⟩ := endFailedPair_rewrites counted.get (sound hks)
  exact ⟨m, counted.trans hm, hr⟩

/-- An adopted record (R28, R39): its pair is gone, its counts are at 0. -/
theorem adopted_sound {k m : Container} (h : k.Sound) (hs : m.state = k.state) (ht : m.seated = k.seated)
    (hd : m.displaced = k.displaced) (hp : m.pair = .idle) (hm : m.misses = 0) (hn : m.mismatches = 0)
    (ha : m.added = 0) : m.Sound :=
  h.withIdle.congr hs ht hd hp (by omega) (by omega) (by omega)

theorem evaluate_rewrites {s : State} {c : Nat} {k : Container} (hk : s.containers[c]? = some k) :
    ∃ b, Rewrites c k { k with full := b } s (s.evaluate c) := by
  obtain ⟨b, hb⟩ := evaluate_record hk
  exact ⟨b, hk, hb, fun h => h.set hk hb (fun h => h.congr rfl rfl rfl rfl h.misses h.mismatches h.added) (.inl rfl)
    (by simp)⟩

theorem adoptPair_rewrites {s : State} {c : Nat} {k : Container} (r : Reading) (hk : s.containers[c]? = some k)
    (hks : k.Sound) : ∃ m, Rewrites c k m s (s.adoptPair c k r) ∧ m.pair.stage.runs = none := by
  unfold State.adoptPair
  split
  · next hv =>
    have fields : ∀ x : Container, (x.adoptVerify r s.clock.count).state = x.state ∧
        (x.adoptVerify r s.clock.count).pair = .idle ∧ (x.Sound → (x.adoptVerify r s.clock.count).Sound) := by
      intro x
      unfold Container.adoptVerify
      split <;> exact ⟨rfl, rfl, fun h => adopted_sound h rfl rfl rfl rfl rfl rfl rfl⟩
    obtain ⟨hst, hp, hsound⟩ := fields k
    have adopted := (rewrites_upd (fun x => x.adoptVerify r s.clock.count) hk hsound (.inl hst.symm)).raise .level
    obtain ⟨m, hm, hp⟩ := finishEmptying_rewrites adopted.get (hst.trans (hks.verify hv)) hp
      (some (k.verifiedPerMille r)) true .verified
    exact ⟨m, adopted.trans hm, idle_runs hp⟩
  · have adopted := (rewrites_upd (fun x => x.adopt r s.clock.count) hk
      (fun h => adopted_sound h rfl rfl rfl rfl rfl rfl rfl) (.inl rfl)).raise .level
    obtain ⟨b, hb⟩ := evaluate_rewrites adopted.get
    exact ⟨_, adopted.trans hb, rfl⟩

/-- A completed first measurement moves the stage on, or ends the pair (R27). -/
theorem firstDone_rewrites {s : State} {c : Nat} {k : Container} (rd : Option Reading) (hk : s.containers[c]? = some k)
    (hks : k.Sound) (hp : k.pair.stage = .firstRunning) :
    ∃ m, Rewrites c k m s (s.firstDone c k rd) ∧ m.pair.stage.runs = none := by
  unfold State.firstDone
  split
  · exact pairMiss_rewrites hk hks
  · refine ⟨_, rewrites_upd _ hk (fun h => h.withPair ?_ (fun hu => ?_) h.verify) (.inl rfl), rfl⟩
    · have hcls := h.pair.cls
      have hentry := h.pair.entry
      rw [hp] at hcls hentry
      exact ⟨by simpa using hcls, by simpa using hentry, by simp, by simp, h.pair.attempt, h.pair.attempts⟩
    · rw [h.unmeasured hu] at hp
      cases hp

theorem secondDone_rewrites {s : State} {c : Nat} {k : Container} (rd : Option Reading) (hk : s.containers[c]? = some k)
    (hks : k.Sound) : ∃ m, Rewrites c k m s (s.secondDone c k rd) ∧ m.pair.stage.runs = none := by
  unfold State.secondDone
  split
  · exact pairMiss_rewrites hk hks
  · split
    · exact adoptPair_rewrites _ hk hks
    · exact pairMismatch_rewrites hk hks

theorem stage_of_runs {st : Stage} {b : Bool} (h : st.runs = some b) : st = if b then .secondRunning else .firstRunning := by
  cases st <;> cases h <;> rfl

/-- The completion of an attached measurement (R22): the container it ran for runs no more. -/
theorem takeResult_rewrites {s : State} {r : Run} {k : Container} (echo : EchoSignal) (h : s.ClaimSound)
    (hk : s.containers[r.container]? = some k) (hr : k.pair.stage.runs = some r.second) :
    ∃ m, Rewrites r.container k m s (s.takeResult r echo) ∧ m.pair.stage.runs = none := by
  obtain ⟨k1, h1, hp⟩ := takeTemperature_rewrites (s.resultTemp r.result) hk
  have hs1 := (h1.sound h).records _ k1 h1.get
  simp only [State.takeResult, hk, h1.get, Option.getD_some]
  rw [← hp] at hr
  split
  · obtain ⟨m, hm, hr⟩ := secondDone_rewrites (s.completionReading k (s.resultTemp r.result) echo) h1.get hs1
    exact ⟨m, h1.trans hm, hr⟩
  · next hb =>
    obtain ⟨m, hm, hr⟩ := firstDone_rewrites (s.completionReading k (s.resultTemp r.result) echo) h1.get hs1
      (by simpa [hb] using stage_of_runs hr)
    exact ⟨m, h1.trans hm, hr⟩

/-- An attached run, between two events, is as its start set it (R19, R20). -/
theorem run_eq_started {s : State} (h : s.FrontSound) {r : Run} (hr : s.run = some r) (hd : r.detached = false) :
    r = .started r.container r.second := by
  obtain ⟨hg, hres⟩ := h.converting r hr
  cases r
  simp_all [Run.started]

/-- A run that no configured container is measured by ends without a trace (R35). -/
theorem State.FrontSound.discard {s t : State} {r : Run} (h : s.FrontSound) (hr : s.run = some r)
    (hd : r.detached = true ∨ s.containers[r.container]? = none) (hc : t.containers = s.containers) (ht : t.run = none) :
    t.FrontSound := by
  refine ⟨fun c k b hk => ?_, fun r' hr' => by simp [ht] at hr'⟩
  rw [hc] at hk
  have hn : r ≠ .started c b := by
    rintro rfl
    rcases hd with hd | hd
    · cases hd
    · exact absurd (hd.symm.trans hk) (by simp)
  simp [h.front c k b hk, hr, ht, hn]

/-- A measurement's completion keeps the invariant (R19, R22). -/
theorem takeCompletion_liftSound {s : State} (conv : Conversion) (echo : EchoSignal) (h : s.LiftSound) :
    (s.takeCompletion conv echo).LiftSound := by
  unfold State.takeCompletion
  split
  · exact h
  · next r hr =>
    refine arbitrate_liftSound ?_
    rw [liftSound_iff] at h ⊢
    obtain ⟨hclaim, hfront⟩ := h
    have hfree : ({ s with run := none } : State).ClaimSound := ⟨hclaim.records, hclaim.protocol, hclaim.loss⟩
    split
    · next hd => exact ⟨hfree, hfront.discard hr (.inl hd) rfl rfl⟩
    · next hd =>
      rcases hk : s.containers[r.container]? with _ | k
      · have e : State.takeResult { s with run := none } (r.convert conv) echo = { s with run := none } := by
          simp [State.takeResult, hk]
        rw [e]
        exact ⟨hfree, hfront.discard hr (.inr hk) rfl rfl⟩
      · have hruns : k.pair.stage.runs = some r.second :=
          (hfront.front _ k _ hk).mpr (hr.trans (congrArg some (run_eq_started hfront hr (by simpa using hd))))
        obtain ⟨m, hm, hmr⟩ := takeResult_rewrites (r := r.convert conv) echo hfree hk hruns
        refine ⟨hm.sound hfree, hfront.free hk hm.after (fun r' hr' => ?_) (by simp) hmr⟩
        rw [hr] at hr'
        cases hr'
        exact .inl rfl

/-! ## Timers, waits and requests -/

theorem spacing_liftSound {s : State} {c t : Nat} {k : Container} (now : Nat) (hk : s.containers[c]? = some k)
    (hp : k.pair.spacing = some t) (h : s.LiftSound) :
    (s.updContainer c fun x => { x with pair := x.pair.spacingExpires now }).LiftSound := by
  have hks := h.records k (List.mem_of_getElem? hk)
  have hst : k.pair.stage = .awaitSecond := hks.pair.spacing.mp (by rw [hp]; rfl)
  rw [liftSound_iff] at h ⊢
  rw [updContainer_eq_set _ hk]
  refine ⟨h.1.set hk rfl (fun hs => hs.withPair ?_ (fun hu => ?_) hs.verify) (.inl rfl) rfl,
    h.2.set hk rfl (by rw [hst]; rfl) rfl⟩
  · have hcls := hs.pair.cls
    have hfirst := hs.pair.first
    rw [hst] at hcls hfirst
    exact ⟨by simpa [Pair.spacingExpires] using hcls, by simp [Pair.spacingExpires],
      by simpa [Pair.spacingExpires] using hfirst, by simp [Pair.spacingExpires], hs.pair.attempt, hs.pair.attempts⟩
  · rw [hs.unmeasured hu] at hst
    cases hst

theorem firstContainer_eq (test : Container → Bool) (n : Nat) (ks : List Container) :
    firstContainer test n ks = (ks.findIdx? test).map (n + ·) := by
  induction ks generalizing n with
  | nil => rfl
  | cons k ks ih =>
    rw [firstContainer, List.findIdx?_cons, ih]
    split
    · rfl
    · simp [Function.comp_def, Nat.add_assoc, Nat.add_comm 1]

theorem findContainer_eq (s : State) (test : Container → Bool) : s.findContainer test = s.containers.findIdx? test := by
  simp [State.findContainer, firstContainer_eq]

/-- The container found passes the test, and no one before it does. -/
theorem findContainer_some {s : State} {test : Container → Bool} {c : Nat} (h : s.findContainer test = some c) :
    ∃ k, s.containers[c]? = some k ∧ test k = true := by
  rw [findContainer_eq, List.findIdx?_eq_some_iff_getElem] at h
  obtain ⟨hc, ht, _⟩ := h
  exact ⟨_, List.getElem?_eq_getElem hc, ht⟩

theorem findContainer_none {s : State} {test : Container → Bool} (h : s.findContainer test = none) {c : Nat}
    {k : Container} (hk : s.containers[c]? = some k) : test k = false := by
  rw [findContainer_eq, List.findIdx?_eq_none_iff] at h
  exact h k (List.mem_of_getElem? hk)

/-- The container in a state, where there is one, is found. -/
theorem endWait_liftSound {s : State} {st : ServiceState} (e : LiftEnding) (hst : st = .claimed ∨ st = .released)
    (hs : ∃ c, s.inState c st = true) (h : s.LiftSound) : (s.endWait st e).LiftSound := by
  unfold State.endWait
  split
  · next c hc =>
    obtain ⟨k, hk, ht⟩ := findContainer_some hc
    have hc : s.inState c st = true := (inState_eq s c st).mpr ⟨k, hk, by simpa using ht⟩
    exact endClaim_liftSound e h (by rcases hst with rfl | rfl <;> simp [hc])
  · next hn =>
    obtain ⟨c, hc⟩ := hs
    obtain ⟨k, hk, rfl⟩ := (inState_eq s c st).mp hc
    simpa using findContainer_none hn hk

theorem takeCarrier_liftSound {s : State} (b : Bool) (h : s.LiftSound) : (s.takeCarrier b).LiftSound := by
  unfold State.takeCarrier
  split
  · exact h
  · refine ⟨h.records, h.one, h.front, h.converting, h.claim, h.held, h.lidWait, h.releaseWait, ?_⟩
    cases b <;> cases s.lift.session <;> simp

/-- The end of the session, where no container waits for its lift by its claim (R134, R136). -/
theorem endSession_liftSound {s : State} (h : s.LiftSound) (hn : ∀ c, s.inState c .claimed = false ∧ s.inState c .released = false) :
    ({ s with lift := s.lift.endSession } : State).LiftSound := by
  refine ⟨h.records, h.one, h.front, h.converting, fun x c hx => (nomatch hx), fun c k hk hs => ?_, h.lidWait,
    h.releaseWait, by simp [LiftController.endSession]⟩
  have hc := hn c
  simp only [State.inState, hk, decide_eq_false_iff_not] at hc
  exact (hs.elim hc.1 hc.2).elim

/-- A container in CLAIMED or RELEASED is the session's claimed one, so that without a claim there is none. -/
theorem unclaimed_of_none {s : State} (h : s.LiftSound) (hc : s.lift.session.bind Session.claimed = none) (c : Nat) :
    s.inState c .claimed = false ∧ s.inState c .released = false := by
  constructor <;>
  · rw [← Bool.not_eq_true, inState_eq]
    rintro ⟨k, hk, hs⟩
    have := h.held c k hk (by simp [hs])
    simp [hc] at this

/-- Where the session's claimed container is LIFTED, none is CLAIMED or RELEASED. -/
theorem unclaimed_of_lifted {s : State} (h : s.LiftSound) {c : Nat} (hc : s.lift.session.bind Session.claimed = some c)
    (hn : ¬ (s.inState c .claimed = true ∨ s.inState c .released = true)) (d : Nat) :
    s.inState d .claimed = false ∧ s.inState d .released = false := by
  have hd : ∀ st, st = .claimed ∨ st = .released → s.inState d st = false := by
    intro st hst
    rw [← Bool.not_eq_true]
    intro hd
    obtain ⟨k, hk, rfl⟩ := (inState_eq s d st).mp hd
    obtain rfl := Option.some.inj (hc.symm.trans (h.held d k hk hst))
    rcases hst with e | e <;> simp [e] at hd <;> simp [hd] at hn
  exact ⟨hd _ (.inl rfl), hd _ (.inr rfl)⟩

theorem endClaim_lift {s : State} {c : Nat} (e : LiftEnding) : (s.endClaim c e).lift = s.lift.claimEnded c e s.clock.count := by
  simp [State.endClaim, State.setLastLift, LiftController.claimEnded, LiftController.clearClaim]

theorem loseCarrier_liftSound {s : State} (h : s.LiftSound) : s.loseCarrier.LiftSound := by
  unfold State.loseCarrier
  split
  · next hs =>
    refine ⟨h.records, h.one, h.front, h.converting, h.claim, h.held, h.lidWait, h.releaseWait, ?_⟩
    simp [hs]
  · next x hx =>
    have raised : ∀ {u : State}, u.LiftSound → (∀ c, u.inState c .claimed = false ∧ u.inState c .released = false) →
        (({ u with lift := u.lift.endSession } : State).raise .lift).LiftSound :=
      fun hu hn => (endSession_liftSound hu hn).congr rfl rfl rfl
    dsimp only
    split
    · next c hc =>
      split
      · next hs =>
        have he := endClaim_liftSound .carrierLost h hs
        exact raised he (unclaimed_of_none he (by rw [endClaim_lift]; exact claimEnded_claimOf ..))
      · next hs => exact raised h (unclaimed_of_lifted h (by rw [hx]; exact hc) hs)
    · next hc => exact raised h (unclaimed_of_none h (by rw [hx]; exact hc))

theorem bodySuspendContainer_liftSound {s : State} (p : Port) (ps : List Byte) (h : s.LiftSound) :
    (bodySuspendContainer p ps s).1.LiftSound := by
  unfold bodySuspendContainer
  split
  · exact h
  · next k hk =>
    split
    · next hs =>
      rw [liftSound_iff] at h
      rw [done_fst, updContainer_eq_set _ hk, endWindows_eq, liftSound_iff]
      exact ⟨h.1.set hk rfl (fun hk' => hk'.withState (fun _ => .inr rfl) (by simp [hs]) (by decide))
        (.inr ⟨by rw [hs]; rfl, rfl⟩) rfl, h.2.set hk rfl rfl rfl⟩
    · exact h

theorem bodyResumeContainer_liftSound {s : State} (p : Port) (ps : List Byte) (h : s.LiftSound) :
    (bodyResumeContainer p ps s).1.LiftSound := by
  unfold bodyResumeContainer
  split
  · exact h
  · next k hk =>
    split
    · next hs =>
      rw [liftSound_iff] at h
      rw [done_fst, updContainer_eq_set _ hk, liftSound_iff]
      exact ⟨h.1.set hk rfl (fun hk' => hk'.withState (fun _ => .inl rfl) (by simp [hs]) (by decide))
        (.inr ⟨by rw [hs]; rfl, rfl⟩) rfl, h.2.set hk rfl rfl rfl⟩
    · exact h

theorem bodyMeasureNow_liftSound {s : State} (p : Port) (ps : List Byte) (h : s.LiftSound) :
    (bodyMeasureNow p ps s).1.LiftSound := by
  unfold bodyMeasureNow
  split
  · exact h
  · next k hk =>
    split
    · exact h
    · next hu =>
      refine arbitrate_liftSound ?_
      rw [liftSound_iff] at h
      rw [requestPair_eq _ hk, liftSound_iff]
      exact ⟨h.1.set hk rfl (fun hk' => hk'.requestDemand (by simpa using hu) _) (.inl rfl) rfl,
        h.2.set hk rfl (request_runs _ _ _) rfl⟩

theorem bodyClearHeat_liftSound {s : State} (p : Port) (ps : List Byte) (h : s.LiftSound) :
    (bodyClearHeat p ps s).1.LiftSound := by
  unfold bodyClearHeat
  repeat' split
  · exact h
  · exact h
  · exact h.modify (param0 ps) _ rfl
      (fun k hk => ⟨hk.congr rfl rfl rfl rfl hk.misses hk.mismatches hk.added, .inl rfl, rfl⟩) rfl rfl
  · exact h

/-- A session opens where there is none (R133): nothing is claimed, and the carrier-loss timer runs at once without the
carrier (R135). -/
theorem openSession_liftSound {s : State} (id : Nat) (fs : FractionSet) (h : s.LiftSound) (hs : s.lift.session = none) :
    (s.openSession id fs).LiftSound := by
  have hl : s.lift.carrierLoss = none := by simpa [hs] using h.carrierLoss
  refine ⟨h.records, h.one, h.front, h.converting, fun x c hx hc => ?_, fun c k hk hst => ?_, h.lidWait, h.releaseWait, ?_⟩
  · cases hx
    cases hc
  · have hn := h.held c k hk hst
    simp [hs] at hn
  · cases hc : s.lift.carrier <;> simp [State.openSession, hc, hl]

theorem bodyAnnounce_liftSound {s : State} (p : Port) (ps : List Byte) (h : s.LiftSound) :
    (bodyAnnounce p ps s).1.LiftSound := by
  unfold bodyAnnounce
  dsimp only
  repeat' split
  · exact h
  · exact h
  · exact h
  · next hs _ _ _ => exact openSession_liftSound _ _ h hs
  · exact h

theorem bodyEndSession_liftSound {s : State} (p : Port) (ps : List Byte) (h : s.LiftSound) :
    (bodyEndSession p ps s).1.LiftSound := by
  unfold bodyEndSession
  split
  · exact h
  · next x hx =>
    split
    · next hc => exact endSession_liftSound h (unclaimed_of_none h (by rw [hx]; exact hc))
    · next c hc =>
      split
      · exact h
      · next hs =>
        exact (endSession_liftSound h (unclaimed_of_lifted h (by rw [hx]; exact hc) hs)).congr rfl rfl rfl

theorem bodyCancelLift_liftSound {s : State} (p : Port) (ps : List Byte) (h : s.LiftSound) :
    (bodyCancelLift p ps s).1.LiftSound := by
  unfold bodyCancelLift
  repeat' split
  · exact h
  · next hs => exact endClaim_liftSound _ h hs
  · exact h
  · exact h
  · exact h

/-- What an accepted Claim Lift has found (R138): a session without a claim, no container in the lift protocol, and the
container on its platform, neither SUSPENDED nor VERIFYING. -/
theorem claimRefusal_none {s : State} {c : Nat} (h : claimRefusal c s = none) :
    ∃ x k, s.lift.session = some x ∧ s.liftContainer = none ∧ s.containers[c]? = some k ∧
      k.state ≠ .verifying ∧ k.displaced = false := by
  unfold claimRefusal at h
  split at h
  · cases h
  · next x hx =>
    split at h
    · cases h
    · next hb =>
      split at h
      · cases h
      · next k hk =>
        split at h
        · cases h
        · split at h
          · cases h
          · split at h
            · cases h
            · next hn =>
              simp only [not_or, Bool.not_eq_true] at hb hn
              exact ⟨x, k, hx, by simpa using hb.2, hk, hn.2.1, hn.2.2⟩

theorem no_inLift_of_none {s : State} (h : s.liftContainer = none) (d : Nat) (st : ServiceState)
    (hd : s.inState d st = true) : st.inLift = false := by
  obtain ⟨k, hk, rfl⟩ := (inState_eq s d st).mp hd
  have := findContainer_none h hk
  cases hs : k.state <;> simp_all [ServiceState.inLift]

/-- An accepted claim (R139): the one container of the protocol is CLAIMED, by the session, and the lid wait runs. -/
theorem acceptClaim_liftSound {s : State} {c : Nat} (h : s.LiftSound) (hc : claimRefusal c s = none) :
    (s.acceptClaim c).LiftSound := by
  obtain ⟨x, k, hx, hl, hk, hver, hd⟩ := claimRefusal_none hc
  have hw : s.lift.releaseWait = none := by
    have : ¬ ∃ c, s.inState c .released = true := by
      rintro ⟨d, hd⟩
      cases no_inLift_of_none hl d _ hd
    simpa [this] using h.releaseWait
  rw [liftSound_iff] at h
  refine judgeRelease_liftSound c ?_
  rw [liftSound_iff]
  refine ⟨h.1.move hk (modify_eq_set _ hk) (fun hs => hs.withState (fun hd' => absurd (hd.symm.trans hd') (by decide)) hver (by decide))
    (fun d st hd hst => absurd ((no_inLift_of_none hl d st hd).symm.trans hst) (by decide)) ?_ ?_,
    h.2.set hk (modify_eq_set _ hk) rfl rfl⟩
  · have hclaim : (s.lift.claim c (s.now + seconds 60)).claimOf = some c := by
      simp [LiftController.claimOf, LiftController.claim, hx]
    exact ⟨fun d hd => by cases hclaim.symm.trans hd; simp, fun d hd => by cases hd; exact hclaim, by simp,
      by simp [LiftController.claim], by simp [LiftController.claim, hw]⟩
  · simpa [LiftController.LossFits, LiftController.claim] using h.1.loss

theorem bodyClaimLift_liftSound {s : State} (p : Port) (ps : List Byte) (h : s.LiftSound) :
    (bodyClaimLift p ps s).1.LiftSound := by
  unfold bodyClaimLift
  split
  · exact h
  · next hc => exact acceptClaim_liftSound h hc

/-! ## Every step -/

/-- A look at the lines changes no more of a record than the debouncer's interval (R7). -/
theorem seatHold_sound {k : Container} (h : k.Sound) (o : Option Nat) :
    ({ k with seatHold := o } : Container).Sound := h.congr rfl rfl rfl rfl h.misses h.mismatches h.added

theorem tick_liftSound {s : State} (h : s.LiftSound) : s.tick.LiftSound := by
  by_cases hp : s.power = .running
  · rw [tick_running hp]
    exact h.map (g := fun d k => { k with seatHold := watch (s.seatDiffers d k) k.seatHold s.now })
      (fun d => by simpa using watchContainers_get s 0 s.containers d) (fun _ k hk =>
      ⟨seatHold_sound (h.records k (List.mem_of_getElem? hk)) _, .inl rfl, rfl⟩) rfl rfl
  · rwa [tick_not_running hp]

theorem withLines_liftSound {s : State} (l : FieldLines) (h : s.LiftSound) : (s.withLines l).LiftSound :=
  h.map (withLines_container s l) (fun _ k hk =>
    ⟨seatHold_sound (h.records k (List.mem_of_getElem? hk)) _, .inl rfl, rfl⟩) rfl rfl

theorem takeDueEvent_liftSound {s : State} (c : Nat) (h : s.LiftSound) : (s.takeDueEvent c).LiftSound :=
  h.modify c _ rfl (fun k hk => ⟨takeDue_sound hk k.nextDue s.now, .inl rfl, takeDue_runs k s.now⟩) rfl rfl

/-- Each operation keeps the lift invariant. -/
theorem liftSound_kept : Kept State.LiftSound where
  congr h e := h.congr e.containers e.run e.lift
  unpowered := unpowered_liftSound
  powerOnEnd := powerOnEnd_liftSound
  tick := tick_liftSound
  withLines := withLines_liftSound
  lidHold _ h := h.congr rfl rfl rfl
  seatHold c h := h.modify c _ rfl (fun _ hk => ⟨seatHold_sound hk none, .inl rfl, rfl⟩) rfl rfl
  lidOpening _ _ h := h.congr (by simp) (by simp) (by simp)
  lidClosing := takeLidClosing_liftSound
  seat := takeSeat_liftSound
  arbitrate := arbitrate_liftSound
  dueEvent := takeDueEvent_liftSound
  read _ _ h := h.congr (by simp) (by simp) (by simp)
  noAnswer _ h := h.congr rfl rfl rfl
  windowEnd _ h := h.congr rfl rfl rfl
  limit _ _ h := h.congr rfl rfl rfl
  serviceEnd _ _ h := h.congr rfl rfl rfl
  completion := takeCompletion_liftSound
  spacing := spacing_liftSound
  lidWait hw h := endWait_liftSound _ (.inl rfl) (h.lidWait.mp (by rw [hw]; rfl)) h
  releaseWait hw h := endWait_liftSound _ (.inr rfl) (h.releaseWait.mp (by rw [hw]; rfl)) h
  carrier := takeCarrier_liftSound
  carrierLoss := loseCarrier_liftSound
  warmRestart := warmRestart_liftSound
  configRestart _ hh _ := configRestart_liftSound _ hh
  suspend := bodySuspendContainer_liftSound
  resume := bodyResumeContainer_liftSound
  measureNow := bodyMeasureNow_liftSound
  clearHeat := bodyClearHeat_liftSound
  openInlet _ _ h := h.congr (by simp) (by simp) (by simp)
  answerCard _ _ h := h.congr (by simp) (by simp) (by simp)
  announce := bodyAnnounce_liftSound
  endSession := bodyEndSession_liftSound
  claimLift := bodyClaimLift_liftSound
  cancelLift := bodyCancelLift_liftSound

/-- Settles O57: each operation that a step is built of keeps the lift invariant. -/
theorem stepKeepsLiftSound : Obligations.StepKeepsLiftSound := fun _ _ h ht => liftSound_kept.step h ht

end Sys2Proof.Machine
end

section
/-! PROOFS. Inlet records: what each operation makes of one sound record, and of the inlets that stand before the crane's
containers (R5, R72 to R91, R108): O58. -/

namespace Sys2Proof.Machine

/-! ## One inlet record -/

/-- A change of one inlet's record that needs nothing of its container. -/
structure Inlet.Follows (x y : Inlet) : Prop where
  sound : y.Sound
  container : y.cfg.container = x.cfg.container
  locked : x.state = .locked → y.state = .locked

theorem Inlet.Sound.self {x : Inlet} (h : x.Sound) : x.Follows x := ⟨h, rfl, id⟩

theorem Inlet.Follows.trans {x y z : Inlet} (h : x.Follows y) (h' : y.Follows z) : x.Follows z :=
  ⟨h'.sound, h'.container.trans h.container, fun hx => h'.locked (h.locked hx)⟩

/-- What a lid's cause says of a sound record's state (R73). -/
theorem Inlet.Sound.not_inUse {x : Inlet} (h : x.Sound) (hs : x.state ≠ .inUse) : x.lid.map LidOpen.cause ≠ some .window :=
  fun hc => hs (h.inUse.mpr hc)

theorem Inlet.Sound.noQuery {x : Inlet} (h : x.Sound) (hs : x.state ≠ .locked) : x.query = none := by
  by_contra hq
  exact hs (h.query (Option.isSome_iff_ne_none.mpr hq))

/-- The debouncer's interval is no part of what makes a record sound. -/
theorem Inlet.Sound.rejectStart {x : Inlet} (h : x.Sound) (o : Option Nat) : ({ x with rejectStart := o } : Inlet).Sound :=
  ⟨h.window, h.windowTimer, h.serviceTimer, h.runOut, h.slot, h.query, h.lid, h.inUse, h.service, h.stuck, h.limitTimer,
    h.forced, h.cycles⟩

/-- A LOCKED record: no window, no timer of a window or a service opening. -/
theorem Inlet.Sound.lock {x : Inlet} (h : x.Sound) (hs : x.state ≠ .inUse) :
    ({ x with state := .locked, window := none, windowTimer := none, serviceTimer := none, runOut := false } : Inlet).Sound :=
  ⟨by simp, by simp, by simp, by simp, h.slot, fun _ => rfl, h.lid, by simpa using h.not_inUse hs, by simp, h.stuck,
    h.limitTimer, h.forced, h.cycles⟩

theorem Inlet.Sound.noServiceTimer {x : Inlet} (h : x.Sound) (hs : x.state ≠ .serviceOpen) :
    x.serviceTimer = none ∧ x.runOut = false := by
  constructor
  · by_contra hn
    exact hs (h.serviceTimer (Option.isSome_iff_ne_none.mpr hn))
  · by_contra hn
    exact hs (h.runOut (by simpa using hn)).1

theorem Inlet.Sound.noWindowTimer {x : Inlet} (h : x.Sound) (hs : x.state ≠ .unlocked) : x.windowTimer = none := by
  by_contra hn
  exact hs (h.windowTimer.mp (Option.isSome_iff_ne_none.mpr hn))

theorem endWindow_follows {x : Inlet} (h : x.Sound) : x.Follows x.endWindow := by
  rw [endWindow_eq]
  split
  · next hs =>
    obtain ⟨ht, hr⟩ := h.noServiceTimer (by simp [hs])
    exact ⟨by simpa only [ht, hr] using h.lock (by simp [hs]), rfl, fun _ => rfl⟩
  · exact h.self

theorem endService_follows {x : Inlet} (h : x.Sound) : x.Follows x.endService := by
  unfold Inlet.endService
  split
  · next hs =>
    have ht := h.noWindowTimer (by simp [hs])
    exact ⟨by simpa only [ht] using h.lock (by simp [hs]), rfl, fun _ => rfl⟩
  · exact h.self

theorem clearSlot_follows {x : Inlet} (h : x.Sound) : x.Follows x.clearSlot :=
  ⟨⟨h.window, h.windowTimer, h.serviceTimer, h.runOut, by simp [Inlet.clearSlot], by simp [Inlet.clearSlot], h.lid, h.inUse,
    h.service, h.stuck, h.limitTimer, h.forced, h.cycles⟩, rfl, id⟩

theorem claimed_follows {x : Inlet} (h : x.Sound) : x.Follows x.claimed :=
  have hw := endWindow_follows h
  have hs := hw.trans (endService_follows hw.sound)
  hs.trans (clearSlot_follows hs.sound)

theorem serviceExpires_follows {x : Inlet} {t : Nat} (h : x.Sound) (ht : x.serviceTimer = some t) :
    x.Follows x.serviceExpires := by
  unfold Inlet.serviceExpires
  split
  · next hl =>
    have hs := h.serviceTimer (by rw [ht]; rfl)
    exact ⟨⟨h.window, h.windowTimer, by simp, fun _ => ⟨hs, hl⟩, h.slot, h.query, h.lid, h.inUse, h.service, h.stuck,
      h.limitTimer, h.forced, h.cycles⟩, rfl, id⟩
  · exact endService_follows h

theorem limitReached_follows {x : Inlet} {t : Nat} (h : x.Sound) (ht : x.limitTimer = some t) :
    x.Follows { x with stuck := true, limitTimer := none } :=
  ⟨⟨h.window, h.windowTimer, h.serviceTimer, h.runOut, h.slot, h.query, h.lid, h.inUse, h.service,
    fun _ => ⟨h.limitTimer (by rw [ht]; rfl), rfl⟩, by simp, h.forced, h.cycles⟩, rfl, id⟩

/-- A window opens at a LOCKED inlet (R79). -/
theorem openWindow_sound {x : Inlet} (h : x.Sound) (hs : x.state = .locked) (w : WindowRecord) (now : Nat) :
    (x.openWindow w now).Sound := by
  obtain ⟨ht, hr⟩ := h.noServiceTimer (by simp [hs])
  exact ⟨by simp [Inlet.openWindow], by simp [Inlet.openWindow], by simp [Inlet.openWindow, Inlet.clearSlot, ht],
    by simp [Inlet.openWindow, Inlet.clearSlot, hr], by simp [Inlet.openWindow, Inlet.clearSlot],
    by simp [Inlet.openWindow, Inlet.clearSlot], h.lid,
    by simpa [Inlet.openWindow, Inlet.clearSlot] using h.not_inUse (by simp [hs]), by simp [Inlet.openWindow], h.stuck,
    h.limitTimer, h.forced, h.cycles⟩

/-- A LOCKED inlet with its lid CLOSED opens for service (R89). -/
theorem openService_sound {x : Inlet} (h : x.Sound) (hs : x.state = .locked) (hl : x.lidOpen = false) (now : Nat) :
    (x.openService now).Sound := by
  have hlid : x.lid = none := by simpa [hl] using h.lid
  exact ⟨by simp [Inlet.openService],
    by simp [Inlet.openService, Inlet.clearSlot, h.noWindowTimer (by simp [hs])], by simp [Inlet.openService],
    by simp [Inlet.openService], by simp [Inlet.openService, Inlet.clearSlot],
    by simp [Inlet.openService, Inlet.clearSlot], h.lid,
    by simp [Inlet.openService, Inlet.clearSlot, hlid], by simp [Inlet.openService, Inlet.clearSlot, hlid], h.stuck,
    h.limitTimer, h.forced, h.cycles⟩

/-- A query stands at a LOCKED inlet (R107). -/
theorem postQuery_follows {x : Inlet} (h : x.Sound) (hs : x.state = .locked) (n : Nat) (q : CardQuery) :
    x.Follows { x with slot := some n, query := some q } :=
  ⟨⟨h.window, h.windowTimer, h.serviceTimer, h.runOut, by simp, fun _ => hs, h.lid, h.inUse, h.service, h.stuck,
    h.limitTimer, h.forced, h.cycles⟩, rfl, id⟩

/-- An extending read at an UNLOCKED inlet (R80). -/
theorem extend_follows {x : Inlet} (h : x.Sound) (hs : x.state = .unlocked) (t : Nat) :
    x.Follows { x with windowTimer := some t } :=
  ⟨⟨h.window, by simp [hs], h.serviceTimer, h.runOut, h.slot, h.query, h.lid, h.inUse, h.service, h.stuck,
    h.limitTimer, h.forced, h.cycles⟩, rfl, id⟩

/-- An opening that a LIFTED container's inlet takes stands uncounted (R91). -/
theorem takeOpening_lifted_follows {x : Inlet} (h : x.Sound) (hs : x.state = .locked) (t : Nat) :
    x.Follows (x.takeOpening true t) :=
  ⟨⟨h.window, h.windowTimer, h.serviceTimer, fun hr => ⟨(h.runOut hr).1, rfl⟩, h.slot, h.query, by simp [Inlet.takeOpening],
    by simp [Inlet.takeOpening, hs], by simp [Inlet.takeOpening, hs], fun hk => ⟨rfl, (h.stuck hk).2⟩, fun _ => rfl, h.forced,
    h.cycles⟩, rfl, id⟩

/-- A lid opening by the inlet's state (R83, R86, R90). -/
theorem takeOpening_follows {x : Inlet} (h : x.Sound) (hl : x.lidOpen = false) (t : Nat) :
    x.Follows (x.takeOpening false t) := by
  have hstuck : x.stuck = false := by
    by_contra hn
    exact absurd (hl.symm.trans (h.stuck (by simpa using hn)).1) (by decide)
  have hr : x.runOut = false := by
    by_contra hn
    exact absurd (hl.symm.trans (h.runOut (by simpa using hn)).2) (by decide)
  unfold Inlet.takeOpening
  rw [if_neg (by decide)]
  split
  · next hs =>
    exact ⟨⟨h.window, h.windowTimer, h.serviceTimer, by simp [hr], h.slot, h.query, by simp, by simp [hs], by simp [hs],
      by simp [hstuck], fun _ => rfl, by simp [saturate], h.cycles⟩, rfl, id⟩
  · next hs =>
    refine ⟨⟨?_, by simp, by simp [(h.noServiceTimer (by simp [hs])).1], by simp [hr], h.slot,
      by simp [h.noQuery (by simp [hs])], by simp, by simp, by simp, by simp [hstuck], fun _ => rfl, h.forced, h.cycles⟩, rfl,
      by simp [hs]⟩
    simpa [hs] using h.window
  · next hs =>
    exact ⟨⟨h.window, h.windowTimer, h.serviceTimer, by simp [hr], h.slot, h.query, by simp, by simp [hs], by simp,
      by simp [hstuck], fun _ => rfl, h.forced, h.cycles⟩, rfl, id⟩
  · next hs =>
    have hc := h.inUse.mp hs
    have hlid : x.lid = none := by simpa [hl] using h.lid
    simp [hlid] at hc

/-- The lid of an inlet that is not IN_USE closes, with no run-out opening (R84, R91). -/
theorem lidClosed_sound {x : Inlet} (h : x.Sound) (hs : x.state ≠ .inUse) (hr : x.runOut = false) : x.lidClosed.Sound :=
  ⟨h.window, h.windowTimer, h.serviceTimer, by simp [Inlet.lidClosed, hr], h.slot, h.query, by simp [Inlet.lidClosed],
    by simp [Inlet.lidClosed, hs], by simp [Inlet.lidClosed], by simp [Inlet.lidClosed], by simp [Inlet.lidClosed],
    h.forced, h.cycles⟩

/-- A lid closing that a LIFTED container's inlet takes (R91). -/
theorem takeClosing_lifted_follows {x : Inlet} (h : x.Sound) (hs : x.state = .locked) : x.Follows (x.takeClosing true) :=
  ⟨lidClosed_sound h (by simp [hs]) (h.noServiceTimer (by simp [hs])).2, rfl, id⟩

theorem cycles_sound {x : Inlet} (h : x.Sound) (n : Nat) : ({ x with cycles := saturate 255 n } : Inlet).Sound :=
  ⟨h.window, h.windowTimer, h.serviceTimer, h.runOut, h.slot, h.query, h.lid, h.inUse, h.service, h.stuck, h.limitTimer,
    h.forced, by simp [saturate]⟩

/-- A service opening has run out only under an open lid of cause SERVICE (R90). -/
theorem Inlet.Sound.runOut_false {x : Inlet} (h : x.Sound) (hc : x.lid.map LidOpen.cause ≠ some .service) :
    x.runOut = false := by
  by_contra hr
  obtain ⟨hs, ho⟩ := h.runOut (by simpa using hr)
  obtain ⟨l, hl⟩ := Option.isSome_iff_exists.mp (h.lid.mpr ho)
  exact hc (by rw [hl, Option.map_some, h.service hs l hl])

/-- A lid closing by its cause (R84, R87, R90). -/
theorem takeClosing_follows {x : Inlet} (h : x.Sound) : x.Follows (x.takeClosing false) := by
  have closed : x.lid.map LidOpen.cause ≠ some .window → x.lid.map LidOpen.cause ≠ some .service →
      x.Follows x.lidClosed := fun hw hs =>
    ⟨lidClosed_sound h (fun hu => hw (h.inUse.mp hu)) (h.runOut_false hs), rfl, id⟩
  unfold Inlet.takeClosing
  rw [if_neg (by decide)]
  split
  · next hc =>
    have hs := h.inUse.mpr hc
    obtain ⟨ht, hr⟩ := h.noServiceTimer (by simp [hs])
    have hw := h.noWindowTimer (by simp [hs])
    exact ⟨⟨by simp, by simp [Inlet.lidClosed, hw], by simp [Inlet.lidClosed, ht], by simp [Inlet.lidClosed, hr], h.slot,
      fun _ => rfl, by simp [Inlet.lidClosed], by simp [Inlet.lidClosed], by simp, by simp [Inlet.lidClosed],
      by simp [Inlet.lidClosed], h.forced, h.cycles⟩, rfl, fun _ => rfl⟩
  · next hc =>
    have hu : x.state ≠ .inUse := fun hu => by simp [h.inUse.mp hu] at hc
    dsimp only
    split
    · next hr =>
      have hs := (h.runOut hr).1
      have hl := lidClosed_sound (h.lock hu) (by simp) rfl
      have hw := h.noWindowTimer (by simp [hs])
      refine ⟨?_, by simp [Inlet.endService, Inlet.lidClosed, hs], fun hx => by simp [hs] at hx⟩
      simpa [Inlet.endService, Inlet.lidClosed, hs, hw] using cycles_sound hl (x.cycles + 1)
    · next hr => exact ⟨cycles_sound (lidClosed_sound h hu (by simpa using hr)) _, rfl, id⟩
  · next hc => exact closed (by simp [hc]) (by simp [hc])
  · next hc => exact closed (by simp [hc]) (by simp [hc])
  · next hc => exact closed (by simp [hc]) (by simp [hc])

/-- A warm restart's record is LOCKED, and a lid that stands open is a fresh uncounted opening (R75). -/
theorem warm_follows {x : Inlet} (h : x.Sound) (now : Nat) : x.Follows (x.warm now) := by
  refine ⟨⟨by simp [Inlet.warm], by simp [Inlet.warm], by simp [Inlet.warm], by simp [Inlet.warm], by simp [Inlet.warm],
    by simp [Inlet.warm], ?_, ?_, by simp [Inlet.warm], ?_, ?_, h.forced, h.cycles⟩, rfl, fun _ => rfl⟩
  · cases hl : x.lidOpen <;> simp [Inlet.warm, hl]
  · cases hl : x.lidOpen <;> simp [Inlet.warm, hl]
  · cases hl : x.lidOpen <;> cases hk : x.stuck <;> simp [Inlet.warm, hl, hk]
  · cases hl : x.lidOpen <;> simp [Inlet.warm, hl]

theorem freshInlet_sound (cfg : InletSettings) (o : Bool) (now : Nat) : (freshInlet cfg o now).Sound := by
  cases o <;> constructor <;> simp [freshInlet]

/-! ## The inlets of a crane's container -/

/-- A container in this state has its inlets LOCKED (R5). -/
def ServiceState.shut : ServiceState → Bool
  | .released | .lifted | .verifying => true
  | .serving | .claimed | .suspended => false

/-- Container c holds its inlets LOCKED (R5). -/
def State.Shut (s : State) (c : Nat) : Prop := ∃ k, s.containers[c]? = some k ∧ k.state.shut = true

theorem shut_iff (s : State) (c : Nat) :
    s.Shut c ↔ s.inState c .released = true ∨ s.inState c .lifted = true ∨ s.inState c .verifying = true := by
  simp only [State.Shut, inState_eq]
  constructor
  · rintro ⟨k, hk, hs⟩
    cases h : k.state <;> simp_all [ServiceState.shut]
  · rintro (⟨k, hk, hs⟩ | ⟨k, hk, hs⟩ | ⟨k, hk, hs⟩) <;> exact ⟨k, hk, by rw [hs]; rfl⟩

theorem State.InletsSound.shut {s : State} (h : s.InletsSound) {i : Nat} {x : Inlet} (hx : s.inlets[i]? = some x)
    (hs : s.Shut x.cfg.container) : x.state = .locked :=
  h.locked x (List.mem_of_getElem? hx) ((shut_iff s _).mp hs)

theorem State.InletsSound.get {s : State} (h : s.InletsSound) {i : Nat} {x : Inlet} (hx : s.inlets[i]? = some x) : x.Sound :=
  h.records x (List.mem_of_getElem? hx)

theorem inletsSound_of_get {t : State} (hn : t.inlets.length ≤ 16)
    (hx : ∀ (i : Nat) (x : Inlet), t.inlets[i]? = some x → x.Sound ∧ (t.Shut x.cfg.container → x.state = .locked)) : t.InletsSound := by
  refine ⟨hn, fun x hm => ?_, fun x hm hs => ?_⟩ <;> obtain ⟨i, hi⟩ := List.mem_iff_getElem?.mp hm
  · exact (hx i x hi).1
  · exact (hx i x hi).2 ((shut_iff t _).mpr hs)

/-- Each record changed in its place, where no container comes to hold its inlets LOCKED. -/
theorem State.InletsSound.map {s t : State} {g : Nat → Inlet → Inlet} (h : s.InletsSound)
    (hn : ∀ c, t.Shut c → s.Shut c) (hi : ∀ i : Nat, t.inlets[i]? = (s.inlets[i]?).map (g i))
    (hx : ∀ i x, s.inlets[i]? = some x → x.Sound → (g i x).Sound ∧ (g i x).cfg.container = x.cfg.container ∧
      (s.Shut x.cfg.container → (g i x).state = .locked)) : t.InletsSound := by
  refine inletsSound_of_get ?_ fun i y hy => ?_
  · have := hi s.inlets.length
    rw [List.getElem?_eq_none (Nat.le_refl _), Option.map_none, List.getElem?_eq_none_iff] at this
    exact this.trans h.places
  · rw [hi, Option.map_eq_some_iff] at hy
    obtain ⟨x, hx', rfl⟩ := hy
    obtain ⟨hs, hc, hl⟩ := hx i x hx' (h.get hx')
    exact ⟨hs, fun ht => hl (hn _ (hc ▸ ht))⟩

/-- The inlets stand, and no container comes to hold them LOCKED. -/
theorem State.InletsSound.congr {s t : State} (h : s.InletsSound) (hn : ∀ c, t.Shut c → s.Shut c)
    (hi : t.inlets = s.inlets) : t.InletsSound :=
  h.map (g := fun _ x => x) hn (by simp [hi]) fun _ _ hx hs => ⟨hs, rfl, h.shut hx⟩

/-- Inlets and containers stand. -/
theorem State.InletsSound.same {s t : State} (h : s.InletsSound) (hc : t.containers = s.containers)
    (hi : t.inlets = s.inlets) : t.InletsSound := h.congr (fun c => by simp [State.Shut, hc]) hi

theorem shut_of_map {s t : State} {g : Nat → Container → Container}
    (hc : ∀ d : Nat, t.containers[d]? = (s.containers[d]?).map (g d))
    (hg : ∀ d k, (g d k).state.shut = true → k.state.shut = true) (c : Nat) (h : t.Shut c) : s.Shut c := by
  obtain ⟨m, hm, hs⟩ := h
  rw [hc, Option.map_eq_some_iff] at hm
  obtain ⟨k, hk, rfl⟩ := hm
  exact ⟨k, hk, hg c k hs⟩

/-- One container's record is changed, and it does not come to hold its inlets LOCKED. -/
theorem State.InletsSound.modify {s t : State} {f : Container → Container} (c : Nat) (h : s.InletsSound)
    (hc : t.containers = s.containers.modify c f) (hf : ∀ k, (f k).state.shut = true → k.state.shut = true)
    (hi : t.inlets = s.inlets) : t.InletsSound := by
  refine h.congr (shut_of_map (g := fun d k => if c = d then f k else k) (fun d => ?_) fun d k => ?_) hi
  · rw [hc]
    exact updContainer_get s c d f
  · split
    · exact hf k
    · exact id

/-- One container's record is written in its place. -/
theorem State.InletsSound.set {s t : State} {c : Nat} {k m : Container} (h : s.InletsSound)
    (hk : s.containers[c]? = some k) (hc : t.containers = s.containers.set c m)
    (hs : m.state.shut = true → k.state.shut = true) (hi : t.inlets = s.inlets) : t.InletsSound := by
  refine h.congr (fun d hd => ?_) hi
  obtain ⟨n, hn, hsn⟩ := hd
  rw [hc, List.getElem?_set] at hn
  split at hn
  · next e =>
    subst e
    split at hn
    · cases hn
      exact ⟨k, hk, hs hsn⟩
    · cases hn
  · exact ⟨n, hn, hsn⟩

/-- One inlet's record is changed, its container standing. -/
theorem State.InletsSound.inlet {s t : State} {i : Nat} {f : Inlet → Inlet} (h : s.InletsSound)
    (hc : t.containers = s.containers) (hi : t.inlets = s.inlets.modify i f)
    (hf : ∀ x, s.inlets[i]? = some x → x.Sound → (f x).Sound ∧ (f x).cfg.container = x.cfg.container ∧
      (s.Shut x.cfg.container → (f x).state = .locked)) : t.InletsSound := by
  refine h.map (g := fun j x => if i = j then f x else x) (fun c => by simp [State.Shut, hc]) (fun j => ?_) fun j x hx hs => ?_
  · rw [hi]
    exact updInlet_get s i j f
  · split
    · next e =>
      subst e
      exact hf x hx hs
    · exact ⟨hs, rfl, h.shut hx⟩

theorem State.InletsSound.follows {s t : State} {i : Nat} {f : Inlet → Inlet} (h : s.InletsSound)
    (hc : t.containers = s.containers) (hi : t.inlets = s.inlets.modify i f)
    (hf : ∀ x, s.inlets[i]? = some x → x.Sound → x.Follows (f x)) : t.InletsSound :=
  h.inlet hc hi fun x hx hs =>
    have hy := hf x hx hs
    ⟨hy.sound, hy.container, fun hsh => hy.locked (h.shut hx hsh)⟩

/-- The inlets bound to a container change together. -/
theorem mapBoundInlets_inletsSound {s : State} (c : Nat) {f : Inlet → Inlet} (h : s.InletsSound)
    (hf : ∀ x : Inlet, x.Sound → x.Follows (f x)) : (s.mapBoundInlets c f).InletsSound := by
  refine h.map (g := fun _ x => if x.cfg.container = c then f x else x) (fun _ => id)
    (fun j => mapBoundInlets_get s c j f) fun j x hx hs => ?_
  split
  · have hy := hf x hs
    exact ⟨hy.sound, hy.container, fun hsh => hy.locked (h.shut hx hsh)⟩
  · exact ⟨hs, rfl, h.shut hx⟩

end Sys2Proof.Machine
end

section
/-! PROOFS. Each operation keeps the inlets sound, and LOCKED before the crane's containers (R5, R72 to R91, R108): O58. -/

namespace Sys2Proof.Machine

/-! ## Containers -/

/-- A record that leaves its place in the service states of R5, or stands where it stood. -/
theorem updContainer_inletsSound {s : State} (c : Nat) {f : Container → Container} (h : s.InletsSound)
    (hf : ∀ k, (f k).state = k.state ∨ (f k).state.shut = false) : (s.updContainer c f).InletsSound := by
  refine h.modify c rfl (fun k hk => ?_) rfl
  rcases hf k with e | e
  · rwa [e] at hk
  · exact absurd (e.symm.trans hk) (by decide)

theorem endWindows_inletsSound {s : State} (c : Nat) (h : s.InletsSound) : (s.endWindows c).InletsSound :=
  mapBoundInlets_inletsSound c h fun _ => endWindow_follows

theorem evaluate_inletsSound {s : State} (c : Nat) (h : s.InletsSound) : (s.evaluate c).InletsSound := by
  rcases evaluate_containers s c with e | ⟨b, e⟩
  · exact h.same e (by simp)
  · exact h.modify c e (fun _ => id) (by simp)

theorem addVolume_inletsSound {s : State} (c n : Nat) (h : s.InletsSound) : (s.addVolume c n).InletsSound :=
  evaluate_inletsSound c (updContainer_inletsSound c h fun _ => .inl rfl)

/-- The release condition holds only where every inlet of the container is LOCKED (R140). -/
theorem locked_of_ready {s : State} {c : Nat} (h : s.readyForCrane c = true) {x : Inlet} (hx : x ∈ s.inlets)
    (hc : x.cfg.container = c) : x.state = .locked := by
  have := List.all_eq_true.mp h x hx
  simp_all [Inlet.holdsOff]

theorem judgeRelease_inletsSound {s : State} (c : Nat) (h : s.InletsSound) : (s.judgeRelease c).InletsSound := by
  unfold State.judgeRelease
  split
  · next hr =>
    refine inletsSound_of_get h.places fun i x hx => ⟨h.get hx, fun hs => ?_⟩
    obtain ⟨m, hm, hms⟩ := hs
    have hm : (s.updContainer c fun k => { k with state := .released }).containers[x.cfg.container]? = some m := hm
    rw [updContainer_get, Option.map_eq_some_iff] at hm
    obtain ⟨k, hk, rfl⟩ := hm
    split at hms
    · next e => exact locked_of_ready hr.2 (List.mem_of_getElem? hx) e.symm
    · exact h.shut hx ⟨k, hk, hms⟩
  · exact h

theorem endClaim_inletsSound {s : State} (c : Nat) (e : LiftEnding) (h : s.InletsSound) : (s.endClaim c e).InletsSound :=
  (updContainer_inletsSound c (f := fun k => { k with state := .serving }) h fun _ => .inr rfl).same rfl rfl

theorem finishEmptying_inletsSound {s : State} (c : Nat) (after : Option Nat) (v : Bool) (e : LiftEnding)
    (h : s.InletsSound) : (s.finishEmptying c after v e).InletsSound := by
  rcases hk : s.containers[c]? with _ | k
  · rwa [State.finishEmptying, hk]
  · obtain ⟨b, hb⟩ := finishEmptying_record after v e hk
    exact h.set hk hb (fun hs => (nomatch hs)) (by simp)

theorem endUnverified_inletsSound {s : State} (c : Nat) (e : LiftEnding) (h : s.InletsSound) :
    (s.endUnverified c e).InletsSound :=
  finishEmptying_inletsSound c _ _ _ (updContainer_inletsSound c h fun _ => .inl rfl)

theorem displace_inletsSound {s : State} (c : Nat) (h : s.InletsSound) : (s.displace c).InletsSound :=
  (endWindows_inletsSound c ((updContainer_inletsSound c (f := fun k => { k with pair := .idle })
    (updContainer_inletsSound c (f := fun k => { k with seated := false, displaced := true }) h fun _ => .inl rfl)
    fun _ => .inl rfl).same (t := State.detachPair _ c) rfl rfl)).same rfl rfl

/-- A seat change (R7 to R11): what it writes keeps its place among the states of R5, but for the end of an emptying. -/
theorem takeSeat_inletsSound {s : State} (c : Nat) (b : Bool) (h : s.InletsSound) : (s.takeSeat c b).InletsSound := by
  rcases hk : s.containers[c]? with _ | k
  · rwa [takeSeat_none b hk]
  rw [takeSeat_eq b hk]
  split
  · exact h
  split
  · rw [takeReseat_eq hk]
    split
    · next hl =>
      rw [reseatLifted_eq hk]
      exact h.set hk rfl (fun _ => by rw [hl]; rfl) rfl
    · split
      · rw [reseatDisplaced_eq hk]
        exact h.set hk rfl id rfl
      · exact h.set hk rfl id rfl
  · cases hs : k.state with
    | released =>
      rw [takeUnseat_released hk hs, takeLift_eq hk]
      exact h.set hk rfl (fun _ => by rw [hs]; rfl) rfl
    | lifted =>
      rw [takeUnseat_lifted hk hs]
      exact h.set hk rfl id rfl
    | serving | suspended =>
      rw [takeUnseat_displaces hk (by simp [hs])]
      exact displace_inletsSound c h
    | claimed =>
      simp only [State.takeUnseat, hk, hs]
      exact endClaim_inletsSound c _ (displace_inletsSound c h)
    | verifying =>
      simp only [State.takeUnseat, hk, hs]
      exact endUnverified_inletsSound c _ (displace_inletsSound c h)

theorem arbitrate_inletsSound {s : State} (h : s.InletsSound) : s.arbitrate.InletsSound := by
  rcases arbitrate_cases s with e | ⟨c, k, _, _, _, e⟩ <;> rw [e]
  · exact h
  · exact h.modify c (t := s.startMeasurement c k.pair) rfl (fun _ => id) rfl

theorem allDue_inletsSound {s : State} (h : s.InletsSound) : s.allDue.InletsSound :=
  h.congr (shut_of_map (allDue_get s) fun _ _ => id) rfl

/-! ## Measurements -/

theorem becomeHot_inletsSound {s : State} (c : Nat) (h : s.InletsSound) : (s.becomeHot c).InletsSound := by
  have hot := endWindows_inletsSound c ((updContainer_inletsSound c (f := fun k => k.becomeHot s.now) h
    fun _ => .inl rfl).same (t := (s.updContainer c fun k => k.becomeHot s.now).raise .heat) rfl rfl)
  unfold State.becomeHot
  dsimp only
  split
  · exact endClaim_inletsSound c _ hot
  · exact hot

theorem takeTemperature_inletsSound {s : State} (c : Nat) (k : Container) (temp : Option (Int × Bool))
    (h : s.InletsSound) : (s.takeTemperature c k temp).InletsSound := by
  unfold State.takeTemperature
  split
  · exact (updContainer_inletsSound c (f := fun x => { x with tempStatus := .fault }) h fun _ => .inl rfl).same
      (by simp [State.temperatureFault]) (by simp)
  · have valid := updContainer_inletsSound c (f := fun x => { x with tempStatus := .valid }) h fun _ => .inl rfl
    unfold State.temperatureValid
    dsimp only
    split
    · exact updContainer_inletsSound c (becomeHot_inletsSound c valid) fun _ => .inl rfl
    · exact updContainer_inletsSound c valid fun _ => .inl rfl

theorem endFailedPair_inletsSound {s : State} (c : Nat) (h : s.InletsSound) : (s.endFailedPair c).InletsSound := by
  unfold State.endFailedPair
  repeat' split
  · exact h
  · exact updContainer_inletsSound c h fun _ => .inl rfl
  · exact endUnverified_inletsSound c _ (updContainer_inletsSound c h fun _ => .inl rfl)
  · exact updContainer_inletsSound c h fun _ => .inl rfl

theorem pairMiss_inletsSound {s : State} (c : Nat) (k : Container) (h : s.InletsSound) : (s.pairMiss c k).InletsSound :=
  endFailedPair_inletsSound c ((updContainer_inletsSound c (f := Container.countMiss) h fun _ => .inl rfl).same
    (by simp) (by simp))

theorem pairMismatch_inletsSound {s : State} (c : Nat) (k : Container) (h : s.InletsSound) :
    (s.pairMismatch c k).InletsSound :=
  endFailedPair_inletsSound c ((updContainer_inletsSound c (f := Container.countMismatch) h fun _ => .inl rfl).same
    (by simp) (by simp))

theorem adoptVerify_state (k : Container) (r : Reading) (n : Nat) : (k.adoptVerify r n).state = k.state := by
  unfold Container.adoptVerify
  split <;> rfl

theorem adoptPair_inletsSound {s : State} (c : Nat) (k : Container) (r : Reading) (h : s.InletsSound) :
    (s.adoptPair c k r).InletsSound := by
  unfold State.adoptPair
  split
  · exact finishEmptying_inletsSound c _ _ _ ((updContainer_inletsSound c (f := fun x => x.adoptVerify r s.clock.count) h
      fun k => .inl (adoptVerify_state k r _)).same rfl rfl)
  · exact evaluate_inletsSound c ((updContainer_inletsSound c (f := fun x => x.adopt r s.clock.count) h
      fun _ => .inl rfl).same rfl rfl)

theorem takeResult_inletsSound {s : State} (r : Run) (echo : EchoSignal) (h : s.InletsSound) :
    (s.takeResult r echo).InletsSound := by
  unfold State.takeResult
  split
  · exact h
  · next k _ =>
    have ht := takeTemperature_inletsSound r.container k (s.resultTemp r.result) h
    dsimp only
    split
    · unfold State.secondDone
      repeat' split
      · exact pairMiss_inletsSound _ _ ht
      · exact adoptPair_inletsSound _ _ _ ht
      · exact pairMismatch_inletsSound _ _ ht
    · unfold State.firstDone
      split
      · exact pairMiss_inletsSound _ _ ht
      · exact updContainer_inletsSound _ ht fun _ => .inl rfl

theorem takeCompletion_inletsSound {s : State} (conv : Conversion) (echo : EchoSignal) (h : s.InletsSound) :
    (s.takeCompletion conv echo).InletsSound := by
  unfold State.takeCompletion
  split
  · exact h
  · have hf : ({ s with run := none } : State).InletsSound := h.same rfl rfl
    refine arbitrate_inletsSound ?_
    split
    · exact hf
    · exact takeResult_inletsSound _ echo hf

/-! ## Lids -/

theorem takeLidOpening_inletsSound {s : State} (i t : Nat) (h : s.InletsSound) : (s.takeLidOpening i t).InletsSound := by
  unfold State.takeLidOpening
  split
  · exact h
  · next x hx =>
    split
    · exact h
    · next hl =>
      refine h.follows (i := i) (f := fun y => y.takeOpening (s.inState x.cfg.container .lifted) t) (by simp)
        (by simp [State.updInlet])
        fun y hy hs => ?_
      obtain rfl := Option.some.inj (hx.symm.trans hy)
      cases hc : s.inState x.cfg.container .lifted with
      | true => exact takeOpening_lifted_follows hs (h.shut hx ((shut_iff s _).mpr (.inr (.inl hc)))) t
      | false => exact takeOpening_follows hs (by simpa using hl) t

theorem countClosing_inletsSound {s : State} (i : Nat) (x : Inlet) (t : Nat) (h : s.InletsSound) :
    (s.countClosing i x t).InletsSound := by
  unfold State.countClosing State.countDeposit State.countForced
  dsimp only
  repeat' split
  · exact h
  · next w _ =>
    have hw : (s.chargeCard (w.card.getD 0)).InletsSound := h.same rfl rfl
    exact (addVolume_inletsSound x.cfg.container x.cfg.nominal hw).same (by simp) (by simp)
  · exact addVolume_inletsSound _ _ (h.same (by simp) (by simp))
  · exact h
  · exact h
  · exact h

theorem takeLidClosing_inletsSound {s : State} (i t : Nat) (h : s.InletsSound) : (s.takeLidClosing i t).InletsSound := by
  unfold State.takeLidClosing
  split
  · exact h
  · next x hx =>
    split
    · have closed : (s.updInlet i fun y => y.takeClosing (s.inState x.cfg.container .lifted)).InletsSound := by
        refine h.follows (i := i) rfl rfl fun y hy hs => ?_
        obtain rfl := Option.some.inj (hx.symm.trans hy)
        cases hc : s.inState x.cfg.container .lifted with
        | true => exact takeClosing_lifted_follows hs (h.shut hx ((shut_iff s _).mpr (.inr (.inl hc))))
        | false => exact takeClosing_follows hs
      dsimp only
      refine judgeRelease_inletsSound _ ?_
      split
      · exact closed
      · exact countClosing_inletsSound _ _ _ closed
    · exact h

/-! ## Reads and answers -/

theorem serving_of_firstChecks {x : Inlet} {k : Container} (h : firstChecks x k = none) : k.state = .serving := by
  unfold firstChecks at h
  by_contra hs
  simp only [hs, ne_eq, not_false_eq_true, if_true] at h
  repeat' split at h
  all_goals cases h

theorem not_shut_of_serving {s : State} {c : Nat} {k : Container} (hk : s.containers[c]? = some k)
    (hs : k.state = .serving) : ¬ s.Shut c := by
  rintro ⟨m, hm, hms⟩
  obtain rfl := Option.some.inj (hk.symm.trans hm)
  rw [hs] at hms
  cases hms

/-- A window opens at a LOCKED inlet of a SERVING container (R79, R102). -/
theorem openWindow_inletsSound {s : State} {i : Nat} {x : Inlet} {k : Container} (w : WindowRecord) (h : s.InletsSound)
    (hx : s.inlets[i]? = some x) (hl : x.state = .locked) (hk : s.containers[x.cfg.container]? = some k)
    (hs : k.state = .serving) : (s.openWindow i w).InletsSound := by
  refine h.inlet (i := i) (f := fun y => y.openWindow w s.now) rfl rfl fun y hy hys => ?_
  obtain rfl := Option.some.inj (hx.symm.trans hy)
  exact ⟨openWindow_sound hys hl w _, rfl, fun hsh => (not_shut_of_serving hk hs hsh).elim⟩

theorem refuseRead_inletsSound {s : State} (i : Nat) (o : ReadOutcome) (h : s.InletsSound) :
    (s.refuseRead i o).InletsSound :=
  h.follows (i := i) rfl rfl fun _ _ => clearSlot_follows

theorem serving_of_decideRead {s : State} {x : Inlet} {k : Container} {n : Nat} {w : WindowRecord}
    (h : s.decideRead x k n = .open w) : k.state = .serving := by
  unfold State.decideRead at h
  split at h
  · cases h
  · next hf => exact serving_of_firstChecks hf

theorem decideSlot_inletsSound {s : State} {i : Nat} {x : Inlet} (n : Nat) (h : s.InletsSound)
    (hx : s.inlets[i]? = some x) (hl : x.state = .locked) : (s.decideSlot i n x).InletsSound := by
  unfold State.decideSlot
  split
  · exact h
  · next k hk =>
    split
    · next w hw => exact openWindow_inletsSound w h hx hl hk (serving_of_decideRead hw)
    · exact refuseRead_inletsSound i _ h
    · refine h.follows (i := i) (t := s.postQuery i n) rfl rfl fun y hy hs => ?_
      obtain rfl := Option.some.inj (hx.symm.trans hy)
      exact postQuery_follows hs hl _ _

theorem takeRead_inletsSound {s : State} (i n : Nat) (h : s.InletsSound) : (s.takeRead i n).InletsSound := by
  have sent : ∀ o, (s.sendOutcome i o).InletsSound := fun o => h.same rfl rfl
  unfold State.takeRead
  split
  · exact h
  · next x hx =>
    split
    · exact h
    · split
      · exact sent _
      · split
        · next hl =>
          split
          · exact sent _
          · exact decideSlot_inletsSound n h hx hl
        · next hu =>
          split
          · refine h.follows (i := i) (t := s.extendWindow i) rfl rfl fun y hy hs => ?_
            obtain rfl := Option.some.inj (hx.symm.trans hy)
            exact extend_follows hs hu _
          · exact sent _
        · exact sent _
        · exact sent _

theorem allowRead_inletsSound {s : State} {i : Nat} {x : Inlet} (e : Card) (h : s.InletsSound)
    (hx : s.inlets[i]? = some x) (hl : x.state = .locked) : (s.allowRead i x e).InletsSound := by
  unfold State.allowRead
  split
  · next ha =>
    unfold State.allowOutcome at ha
    split at ha
    · cases ha
    · next k hk =>
      refine openWindow_inletsSound _ h hx hl hk (serving_of_firstChecks (x := x) ?_)
      by_contra hf
      obtain ⟨o, ho⟩ := Option.ne_none_iff_exists'.mp hf
      rw [recheck, ho, Option.getD_some] at ha
      subst ha
      unfold firstChecks at ho
      repeat' split at ho
      all_goals cases ho
  · exact refuseRead_inletsSound i _ h

theorem bodyAnswerCard_inletsSound {s : State} (p : Port) (ps : List Byte) (h : s.InletsSound) :
    (bodyAnswerCard p ps s).1.InletsSound := by
  have added : (addCarried (answerParts ps) s).InletsSound := by
    unfold addCarried
    split <;> exact h.same rfl rfl
  unfold bodyAnswerCard
  dsimp only
  split
  · exact h
  · split
    · exact added
    · next x hx =>
      split
      · next hq =>
        have hl : x.state = .locked := (added.get hx).query (by
          obtain ⟨q, hq, _⟩ := (Option.any_eq_true _ _).mp hq
          rw [hq]
          rfl)
        unfold applyVerdict
        repeat' split
        · exact refuseRead_inletsSound _ _ added
        · exact allowRead_inletsSound _ added hx hl
        · exact added
      · exact added

theorem bodyOpenInlet_inletsSound {s : State} (p : Port) (ps : List Byte) (h : s.InletsSound) :
    (bodyOpenInlet p ps s).1.InletsSound := by
  unfold bodyOpenInlet
  split
  · exact h
  · next x hx =>
    split
    · exact h
    · next hb =>
      have free : ¬ s.Shut x.cfg.container := by
        rw [shut_iff]
        simp only [State.inletBarred, Bool.or_eq_true, not_or] at hb
        simp [hb]
      split
      · exact h
      · exact h
      · next hs =>
        refine h.follows (i := param0 ps) rfl rfl fun y hy hys => ?_
        obtain rfl := Option.some.inj (hx.symm.trans hy)
        exact ⟨⟨hys.window, hys.windowTimer, fun _ => hs, by simp, hys.slot, hys.query, hys.lid, hys.inUse, hys.service,
          hys.stuck, hys.limitTimer, hys.forced, hys.cycles⟩, rfl, id⟩
      · next hs =>
        split
        · exact h
        · next hl =>
          refine h.inlet (i := param0 ps) (f := fun y => y.openService s.now) (by dsimp only; split <;> rfl)
            (by dsimp only; split <;> rfl) fun y hy hys => ?_
          obtain rfl := Option.some.inj (hx.symm.trans hy)
          exact ⟨openService_sound hys hs (by simpa using hl) _, rfl, fun hsh => (free hsh).elim⟩

end Sys2Proof.Machine
end

section
/-! PROOFS. The resets, the lift requests and the lines keep the inlets sound (R5, R75, R139, R140), and with them every
step: O58. -/

namespace Sys2Proof.Machine

/-! ## Resets -/

/-- An image has at most sixteen inlets (R71, R174). -/
theorem inletBlocks_length (n : Nat) (bs : List Byte) : (inletBlocks n bs).length = n := by
  induction n generalizing bs with
  | zero => rfl
  | succ n ih => simp [inletBlocks, ih]

theorem judgeBlocks_inlets {img : List Byte} {g : StationConfig} (h : judgeBlocks img = some g) : g.inlets.length ≤ 16 := by
  unfold judgeBlocks at h
  dsimp only at h
  split at h
  · cases h
  · next hn =>
    split at h
    · split at h
      · cases h
        rw [inletBlocks_length]
        omega
      · cases h
    · cases h

theorem judgeImage_inlets {m : List Host.Cell} {g : StationConfig} (h : judgeImage m = some g) : g.inlets.length ≤ 16 := by
  unfold judgeImage at h
  dsimp only at h
  split at h
  · cases h
  · split at h
    · exact judgeBlocks_inlets h
    · cases h

/-- Inlets as a reset makes them are sound, whatever the containers are. -/
theorem freshInlets_inletsSound {t : State} {l : FieldLines} {now n : Nat} {gs : List InletSettings}
    (ht : t.inlets = freshInlets l now n gs) (hg : gs.length ≤ 16) : t.InletsSound := by
  refine inletsSound_of_get (by rw [ht, freshInlets_length]; exact hg) fun i x hx => ?_
  rw [ht, freshInlets_get, Option.map_eq_some_iff] at hx
  obtain ⟨cfg, _, rfl⟩ := hx
  exact ⟨freshInlet_sound _ _ _, fun _ => rfl⟩

theorem noInlets_inletsSound {t : State} (h : t.inlets = []) : t.InletsSound :=
  inletsSound_of_get (by simp [h]) fun i x hx => by simp [h] at hx

theorem unpowered_inletsSound (s : State) (q : Power) : (s.unpowered q).InletsSound := noInlets_inletsSound rfl

theorem powerOnEnd_inletsSound (s : State) (l : FieldLines) (b : Bool) : (s.powerOnEnd l b).InletsSound := by
  unfold State.powerOnEnd
  dsimp only
  split
  · exact noInlets_inletsSound rfl
  · next g hg => exact arbitrate_inletsSound (allDue_inletsSound (freshInlets_inletsSound rfl (judgeImage_inlets hg)))

theorem configRestart_inletsSound (s : State) {m : List Host.Cell} {g : StationConfig} (hg : judgeImage m = some g) :
    (s.configRestart g).InletsSound :=
  arbitrate_inletsSound (allDue_inletsSound (freshInlets_inletsSound rfl (judgeImage_inlets hg)))

theorem warmValues_inletsSound {s : State} (h : s.InletsSound) : s.warmValues.InletsSound := by
  refine h.map (g := fun _ x => x.warm s.now) (shut_of_map (g := fun _ k => k.warm s.now) (by simp [State.warmValues])
    fun _ k hk => ?_) (by simp [State.warmValues]) fun i x _ hs => ⟨(warm_follows hs _).sound, rfl, fun _ => rfl⟩
  simp only [Container.warm] at hk
  split at hk
  · cases hk
  · exact hk

theorem reconcileFrom_inletsSound (l : FieldLines) (n k : Nat) {s : State} (h : s.InletsSound) :
    (reconcileFrom l n k s).InletsSound := by
  induction k generalizing n s with
  | zero => exact h
  | succ k ih => exact ih (n + 1) (takeSeat_inletsSound n _ h)

theorem warmRestart_inletsSound {s : State} (h : s.InletsSound) : s.warmRestart.InletsSound :=
  arbitrate_inletsSound (reconcileFrom_inletsSound _ _ _ (allDue_inletsSound (warmValues_inletsSound h)))

/-! ## Waits and requests -/

theorem endWait_inletsSound {s : State} (st : ServiceState) (e : LiftEnding) (h : s.InletsSound) :
    (s.endWait st e).InletsSound := by
  unfold State.endWait
  split
  · exact endClaim_inletsSound _ _ h
  · exact h.same rfl rfl

theorem loseCarrier_inletsSound {s : State} (h : s.InletsSound) : s.loseCarrier.InletsSound := by
  unfold State.loseCarrier
  dsimp only
  repeat' split
  · exact h.same rfl rfl
  · exact (endClaim_inletsSound _ .carrierLost h).same rfl rfl
  · exact h.same rfl rfl
  · exact h.same rfl rfl

theorem bodySuspendContainer_inletsSound {s : State} (p : Port) (ps : List Byte) (h : s.InletsSound) :
    (bodySuspendContainer p ps s).1.InletsSound := by
  unfold bodySuspendContainer
  repeat' split
  · exact h
  · exact endWindows_inletsSound _ (updContainer_inletsSound (param0 ps) h fun _ => .inr rfl)
  · exact h

theorem bodyResumeContainer_inletsSound {s : State} (p : Port) (ps : List Byte) (h : s.InletsSound) :
    (bodyResumeContainer p ps s).1.InletsSound := by
  unfold bodyResumeContainer
  repeat' split
  · exact h
  · exact updContainer_inletsSound (param0 ps) h fun _ => .inr rfl
  · exact h

theorem bodyMeasureNow_inletsSound {s : State} (p : Port) (ps : List Byte) (h : s.InletsSound) :
    (bodyMeasureNow p ps s).1.InletsSound := by
  unfold bodyMeasureNow
  repeat' split
  · exact h
  · exact h
  · exact arbitrate_inletsSound (updContainer_inletsSound (param0 ps) h fun _ => .inl rfl)

theorem bodyClearHeat_inletsSound {s : State} (p : Port) (ps : List Byte) (h : s.InletsSound) :
    (bodyClearHeat p ps s).1.InletsSound := by
  unfold bodyClearHeat
  repeat' split
  · exact h
  · exact h
  · exact h.modify (param0 ps) rfl (fun _ => id) rfl
  · exact h

theorem bodyAnnounce_inletsSound {s : State} (p : Port) (ps : List Byte) (h : s.InletsSound) :
    (bodyAnnounce p ps s).1.InletsSound := by
  unfold bodyAnnounce
  dsimp only
  repeat' split
  all_goals exact h.same rfl rfl

theorem bodyEndSession_inletsSound {s : State} (p : Port) (ps : List Byte) (h : s.InletsSound) :
    (bodyEndSession p ps s).1.InletsSound := by
  unfold bodyEndSession
  repeat' split
  all_goals exact h.same rfl rfl

theorem bodyCancelLift_inletsSound {s : State} (p : Port) (ps : List Byte) (h : s.InletsSound) :
    (bodyCancelLift p ps s).1.InletsSound := by
  unfold bodyCancelLift
  repeat' split
  · exact h
  · exact endClaim_inletsSound _ _ h
  · exact h
  · exact h
  · exact h

/-- An accepted claim (R139): the windows, openings and queries of the container's inlets end. -/
theorem acceptClaim_inletsSound {s : State} (c : Nat) (h : s.InletsSound) : (s.acceptClaim c).InletsSound := by
  have claimed := updContainer_inletsSound (s := s.sendSlotOutcomes (fun x => decide (x.cfg.container = c)) .emptying) c
    (f := fun k => { k with state := .claimed }) (h.same rfl rfl) fun _ => .inr rfl
  exact judgeRelease_inletsSound c ((mapBoundInlets_inletsSound c claimed fun _ => claimed_follows).same rfl rfl)

theorem bodyClaimLift_inletsSound {s : State} (p : Port) (ps : List Byte) (h : s.InletsSound) :
    (bodyClaimLift p ps s).1.InletsSound := by
  unfold bodyClaimLift
  split
  · exact h
  · exact acceptClaim_inletsSound _ h

/-! ## Every step -/

/-- The debouncers' intervals are no part of what the inlets keep (R7, R72). -/
theorem rejects_inletsSound {s t : State} {f : Nat → Container → Option Nat} {g : Nat → Inlet → Option Nat}
    (h : s.InletsSound) (hc : ∀ d : Nat, t.containers[d]? = (s.containers[d]?).map fun k => { k with seatHold := f d k })
    (hi : ∀ i : Nat, t.inlets[i]? = (s.inlets[i]?).map fun x => { x with rejectStart := g i x }) : t.InletsSound :=
  h.map (g := fun i x => { x with rejectStart := g i x }) (shut_of_map (g := fun d k => { k with seatHold := f d k }) hc
    fun _ _ => id) hi fun _ _ hx hs => ⟨hs.rejectStart _, rfl, h.shut hx⟩

theorem tick_inletsSound {s : State} (h : s.InletsSound) : s.tick.InletsSound := by
  by_cases hp : s.power = .running
  · rw [tick_running hp]
    exact rejects_inletsSound h (f := fun d k => watch (s.seatDiffers d k) k.seatHold s.now)
      (g := fun i x => watch (s.lidDiffers i x) x.rejectStart s.now)
      (fun d => by simpa using watchContainers_get s 0 s.containers d)
      (fun i => by simpa using watchInlets_get s 0 s.inlets i)
  · rwa [tick_not_running hp]

/-- Each operation keeps the inlets sound. -/
theorem inletsSound_kept : Kept State.InletsSound where
  congr h e := h.same e.containers e.inlets
  unpowered := unpowered_inletsSound
  powerOnEnd := powerOnEnd_inletsSound
  tick := tick_inletsSound
  withLines {s} l h := rejects_inletsSound h (withLines_container s l) (withLines_inlet s l)
  lidHold i h := h.follows (i := i) rfl rfl fun _ _ hs => ⟨hs.rejectStart none, rfl, id⟩
  seatHold c h := updContainer_inletsSound c h fun _ => .inl rfl
  lidOpening := takeLidOpening_inletsSound
  lidClosing := takeLidClosing_inletsSound
  seat := takeSeat_inletsSound
  arbitrate := arbitrate_inletsSound
  dueEvent c h := updContainer_inletsSound c h fun _ => .inl rfl
  read := takeRead_inletsSound
  noAnswer i h := refuseRead_inletsSound i _ h
  windowEnd i h := h.follows (i := i) rfl rfl fun _ _ => endWindow_follows
  limit {s i t x} hx ht h := h.follows (i := i) (t := s.takeLimit i) rfl rfl fun y hy hs => by
    obtain rfl := Option.some.inj (hx.symm.trans hy)
    exact limitReached_follows hs ht
  serviceEnd {s i t x} hx ht h := h.follows (i := i) rfl rfl fun y hy hs => by
    obtain rfl := Option.some.inj (hx.symm.trans hy)
    exact serviceExpires_follows hs ht
  completion := takeCompletion_inletsSound
  spacing _ _ _ h := updContainer_inletsSound _ h fun _ => .inl rfl
  lidWait _ h := endWait_inletsSound _ _ h
  releaseWait _ h := endWait_inletsSound _ _ h
  carrier _ h := h.same (by simp) (by simp)
  carrierLoss := loseCarrier_inletsSound
  warmRestart := warmRestart_inletsSound
  configRestart hg _ _ := configRestart_inletsSound _ hg
  suspend := bodySuspendContainer_inletsSound
  resume := bodyResumeContainer_inletsSound
  measureNow := bodyMeasureNow_inletsSound
  clearHeat := bodyClearHeat_inletsSound
  openInlet := bodyOpenInlet_inletsSound
  answerCard := bodyAnswerCard_inletsSound
  announce := bodyAnnounce_inletsSound
  endSession := bodyEndSession_inletsSound
  claimLift := bodyClaimLift_inletsSound
  cancelLift := bodyCancelLift_inletsSound

/-- Settles O58: each operation that a step is built of keeps the inlets sound. -/
theorem stepKeepsInletsSound : Obligations.StepKeepsInletsSound := fun _ _ h ht => inletsSound_kept.step h ht

end Sys2Proof.Machine
end

section
/-! PROOFS. Seat changes that an AWAKE part accepts (R7 to R11, R35, R82, R145, R147): O38, O39. -/

namespace Sys2Proof.Machine

theorem attends_running {s : State} (h : s.attends = true) : s.power = .running ∧ s.wake.state = .awake := by
  simpa [State.attends] using h

theorem putBit_false_getLsbD {w : Nat} (v : BitVec w) (c n : Nat) (h : n < w) :
    (putBit v c false).getLsbD n = (v.getLsbD n && decide (n ≠ c)) := by
  simp only [putBit, Bool.false_eq_true, if_false, BitVec.getLsbD_and, BitVec.getLsbD_not, getLsbD_ofNat_two_pow, h,
    decide_true, Bool.true_and, ne_eq, decide_not, eq_comm]

theorem putBit_true_getLsbD {w : Nat} (v : BitVec w) (c n : Nat) (h : n < w) :
    (putBit v c true).getLsbD n = (v.getLsbD n || decide (n = c)) := by
  simp only [putBit, if_true, BitVec.getLsbD_or, getLsbD_ofNat_two_pow, h, decide_true, Bool.true_and, eq_comm]

theorem debouncedSeat_seated {s : State} (hh : s.wake.held = []) (c : Nat) (k : Container) :
    s.debouncedSeat c k = k.seated := by
  simp [State.debouncedSeat, hh]

/-- No seat level is accepted that the container's seat state holds already (R7). -/
theorem acceptSeat_same {s : State} {c : Nat} {k : Container} (hk : s.containers[c]? = some k) (hh : s.wake.held = []) :
    s.acceptSeat c k.seated = s := by
  simp [State.acceptSeat, hk, debouncedSeat_seated hh]

/-- A seat change is taken at once by an AWAKE part, then the arbiter looks (R7, R30). -/
theorem acceptSeat_change {s : State} {c : Nat} {k : Container} {b : Bool} (ha : s.wake.state = .awake)
    (hk : s.containers[c]? = some k) (hh : s.wake.held = []) (hb : k.seated ≠ b) :
    s.acceptSeat c b = (({ s with
      lines := { s.lines with seat := putBit s.lines.seat c b }
      containers := s.containers.set c { k with seatHold := none } } : State).takeSeat c b).arbitrate := by
  have hd : ¬ s.debouncedSeat c k = b := by rwa [debouncedSeat_seated hh]
  simp only [State.acceptSeat, hk, if_neg hd]
  rw [updContainer_eq_set _ hk]
  exact if_pos ha

/-- Settles O38: the unseat is accepted, and `takeUnseat` goes by the service state. -/
theorem unseat : Obligations.Unseat := by
  intro s c k hat hh hk
  obtain ⟨hp, ha⟩ := attends_running hat
  rw [exec_unseat, whenRunning_running hp]
  refine ⟨fun hs => ?_, fun hs => ?_⟩
  · rw [← hs, acceptSeat_same hk hh]
  · refine ⟨putBit s.lines.seat c false, fun n hn => putBit_false_getLsbD _ _ _ hn, ?_⟩
    rw [acceptSeat_change ha hk hh (by simp [hs]), takeSeat_eq (k := { k with seatHold := none }) _ (set_get _ hk),
      if_neg (by simp [hs]), if_neg (by decide)]
    refine ⟨fun hst => ?_, fun hst => ?_, fun hst => ?_, fun hst => ?_⟩
    · rw [takeUnseat_released (k := { k with seatHold := none }) (set_get _ hk) hst,
        takeLift_eq (k := { k with seatHold := none }) (set_get _ hk), List.set_set]
      rfl
    · rw [takeUnseat_displaces (k := { k with seatHold := none }) (set_get _ hk) hst,
        displace_eq (k := { k with seatHold := none }) (set_get _ hk), List.set_set]
      rfl
    · rw [takeUnseat_claimed (k := { k with seatHold := none }) (set_get _ hk) hst, List.set_set]
      rfl
    · rw [takeUnseat_verifying (k := { k with seatHold := none }) (set_get _ hk) hst, List.set_set]
      rfl

/-- Settles O39: the reseat is accepted, and `takeReseat` goes by what the container was. -/
theorem reseat : Obligations.Reseat := by
  intro s c k hat hh hk
  obtain ⟨hp, ha⟩ := attends_running hat
  rw [exec_reseat, whenRunning_running hp]
  refine ⟨fun hs => ?_, fun hs hi => ?_⟩
  · rw [← hs, acceptSeat_same hk hh]
  · refine ⟨putBit s.lines.seat c true, fun n hn => putBit_true_getLsbD _ _ _ hn, ?_⟩
    rw [acceptSeat_change ha hk hh (by simp [hs]), takeSeat_eq (k := { k with seatHold := none }) _ (set_get _ hk),
      if_neg (by simp [hs]), if_pos rfl, takeReseat_eq (k := { k with seatHold := none }) (set_get _ hk)]
    refine ⟨fun hl => ?_, fun hl hd => ?_⟩
    · rw [if_pos hl, reseatLifted_eq (k := { k with seatHold := none }) (set_get _ hk), List.set_set]
      simp only [hi, request_idle]
      rfl
    · rw [if_neg hl, if_pos hd, reseatDisplaced_eq (k := { k with seatHold := none }) (set_get _ hk), List.set_set]
      simp only [hi, request_idle]

end Sys2Proof.Machine
end

section
/-! PROOFS. Power-on reset and the loss of power (R2, R4, R6, R71, R74, R75, R152, R175 to R177): O9, O10. -/

namespace Sys2Proof.Machine

/-! ## The outputs -/

theorem liftLockReleased_iff (s : State) (n : Nat) :
    s.liftLockReleased n = true ↔ ∃ k, s.containers[n]? = some k ∧ (k.state = .released ∨ k.state = .lifted) := by
  unfold State.liftLockReleased
  rcases s.containers[n]? with _ | k
  · simp
  · cases h : k.state <;> simp [h, ServiceState.liftReleased]

theorem inletLockReleased_iff (s : State) (n : Nat) :
    s.inletLockReleased n = true ↔ ∃ x, s.inlets[n]? = some x ∧ x.state ≠ .locked := by
  unfold State.inletLockReleased
  cases s.inlets[n]? <;> simp

theorem attentionLine_of_not_running {s : State} (h : s.power ≠ .running) (p : Port) : s.attentionLine p = false := by
  simp [State.attentionLine, h]

/-! ## Without power -/

theorem exec_unpowered {c : Instr} {q : Power} (h : c = .powerOnReset ∧ q = .starting ∨ c = .powerLoss ∧ q = .off)
    (s : State) : exec c s = .next (s.unpowered q) := by
  rcases h with ⟨rfl, rfl⟩ | ⟨rfl, rfl⟩ <;> rfl

/-- Settles O9: nothing but the memory survives, and of it the writes under way touch their own bytes alone. -/
theorem powerOnResetAndPowerLoss : Obligations.PowerOnResetAndPowerLoss := by
  refine ⟨fun s c q h => ?_, fun s n _ => ⟨liftLockReleased_iff s n, inletLockReleased_iff s n⟩⟩
  have hq : q ≠ .running := by rcases h with ⟨_, rfl⟩ | ⟨_, rfl⟩ <;> decide
  refine ⟨s.unpowered q, s.settledMemory, _, exec_unpowered h s, rfl, fun a ha => readByte_tornMemory _ _ _ ha,
    fun hw => ?_, fun n => ⟨rfl, rfl⟩, attentionLine_of_not_running hq⟩
  rw [State.settledMemory, hw, tornMemory]

/-! ## The end of power-on reset -/

theorem exec_powerOnResetEnd {s : State} (h : s.power = .starting) (l : FieldLines) (b : Bool) :
    exec (.powerOnResetEnd l b) s = .next (s.powerOnEnd l b).judgeIdle := if_pos h

/-- Where doze is not permitted and the idle timer stands, the idle judgement changes nothing (R182). -/
theorem judgeIdle_of_not_permitted {s : State} (hd : s.dozePermitted = false) (ht : s.wake.idleTimer = none) :
    s.judgeIdle = s := by
  have h : s.nextIdleTimer = s.wake.idleTimer := by simp [State.nextIdleTimer, State.idle, hd, ht]
  rw [State.judgeIdle, h]

/-- The time from one due event to the next (R31). -/
theorem pingInterval_eq (k : Container) : k.pingInterval = if k.hot then 60000 else k.cfg.pingMinutes * 60000 := by
  unfold Container.pingInterval seconds
  split <;> omega

/-- A due event taken at once (R31, R33): the next-due time from now on, and a pair for a measured container without one. -/
theorem takeDue_atOnce (k : Container) (now : Nat) :
    ({ k with nextDue := now }).takeDue now = { k with
      nextDue := now + k.pingInterval
      pair := if k.unmeasured = true ∨ k.pair.stage ≠ .none then k.pair else requestedPair k.dueClass now } := by
  have h : (if k.unmeasured = true ∨ k.pair.stage ≠ .none then k.pair else k.pair.request k.dueClass now) =
      if k.unmeasured = true ∨ k.pair.stage ≠ .none then k.pair else requestedPair k.dueClass now := by
    split
    · rfl
    · next hp => exact request_none (by simpa using (not_or.mp hp).2) _ _
  exact congrArg (fun p => { k with nextDue := now + k.pingInterval, pair := p }) h

/-- The record that power-on reset leaves (R4). -/
theorem freshContainer_due (cfg : ContainerSettings) (b : Bool) (now : Nat) :
    ({ freshContainer cfg b now with nextDue := now }).takeDue now =
      { cfg := cfg, state := .serving, seated := b, seatHold := none, displaced := !b, hot := false, note := none,
        level := none, levelStatus := .noReading, tempStatus := .none, lastTemp := none, added := 0,
        floorRef := cfg.floor, residue := false, misses := 0, mismatches := 0, full := false
        pair := if b then requestedPair .scheduled now else .idle, nextDue := now + cfg.pingMinutes * 60000 } := by
  rw [takeDue_atOnce, pingInterval_eq]
  cases b <;> rfl

/-- The record of an inlet at power-on and at a configuration restart, by its lid (R75). -/
theorem freshInlet_lid (cfg : InletSettings) (b : Bool) (now : Nat) :
    ((freshInlet cfg b now).lidOpen = false → (freshInlet cfg b now).lid = none ∧ (freshInlet cfg b now).limitTimer = none) ∧
    ((freshInlet cfg b now).lidOpen = true → (freshInlet cfg b now).lid.map LidOpen.cause = some .uncounted ∧
      (freshInlet cfg b now).limitTimer = some (now + cfg.limitSeconds * 1000)) := by
  cases b <;> simp [freshInlet, seconds]

/-- The state that power-on reset over a valid image hands to the arbiter (R175). -/
def State.poweredOn (s : State) (l : FieldLines) (carrier : Bool) (g : StationConfig) : State :=
  ({ State.reset with
      lines := l, store := { State.reset.store with memory := s.store.memory, running := some g }
      lift := { State.reset.lift with carrier := carrier }, drawn := s.drawn, pending := s.pending
      containers := freshContainers l 0 0 g.containers, inlets := freshInlets l 0 0 g.inlets } : State).allDue

theorem powerOnEnd_valid {s : State} {g : StationConfig} (h : judgeImage s.store.memory = some g) (l : FieldLines)
    (b : Bool) : s.powerOnEnd l b = (s.poweredOn l b g).arbitrate := by
  simp only [State.powerOnEnd, h]
  rfl

/-- Settles O10: the records are the fresh ones with their due events taken at once. -/
theorem powerOnResetEnd : Obligations.PowerOnResetEnd := by
  refine ⟨fun s l b hp hj => ?_, fun s l b g hp hj => ?_⟩
  · have h : s.powerOnEnd l b = { State.reset with
        lines := l, store := { State.reset.store with memory := s.store.memory }
        lift := { State.reset.lift with carrier := b }, drawn := s.drawn, pending := s.pending } := by
      simp only [State.powerOnEnd, hj]
    rw [exec_powerOnResetEnd hp, h, judgeIdle_of_not_permitted rfl rfl]
  · refine ⟨s.poweredOn l b g, by rw [exec_powerOnResetEnd hp, powerOnEnd_valid hj], rfl,
      by simp [State.poweredOn, freshContainers_length], freshInlets_length .., fun c cfg hc => ?_, fun i cfg hi => ?_⟩
    · rw [State.poweredOn, allDue_get, freshContainers_get, hc, Option.map_some, Option.map_some, Nat.zero_add]
      exact congrArg some ((freshContainer_due cfg (l.seat.getLsbD c) 0).trans (by rw [Nat.zero_add]))
    · have hx := freshInlets_get l 0 0 g.inlets i
      rw [hi, Option.map_some, Nat.zero_add] at hx
      have hl := freshInlet_lid cfg (lidLevel l i cfg) 0
      rw [Nat.zero_add] at hl
      exact ⟨_, hx, rfl, hl⟩

end Sys2Proof.Machine
end

section
/-! PROOFS. The requests that report, and those that suspend, resume and cool a container (R14 to R16, R32, R65, R70, R92, R110,
R149, R157, R172): O23, O29. -/

namespace Sys2Proof.Machine

/-! ## A request at a listening port -/

/-- The state in which port p carries a request out: its gap timer started at the check byte, the port HOLDING (R155, R157). -/
def State.taken (s : State) (p : Port) (code tag : Byte) : State := (s.startGap p).holdPort p code tag

/-- A request that no case of R157 refuses is carried out, and its reply begins. -/
theorem arrive_answered {s : State} {p : Port} (h : s.listening p = true) (r : Request) (tag : Byte) (ps : List Byte)
    (hr : r.row.refusal p ps.length s.configured = none) {u : State} {st : Status} {payload : List Byte}
    (hb : r.body p ps (s.taken p r.row.code tag) = (u, .reply st payload)) :
    whenRunning s (r.arrive p tag ps) = .next (u.sendReply p r.row.code tag st payload).judgeIdle := by
  have ht : r.take p tag ps (s.startGap p) = u.sendReply p r.row.code tag st payload := by
    have hb' : r.body p ps ((s.startGap p).holdPort p r.row.code tag) = (u, .reply st payload) := hb
    have hr' : r.row.refusal p ps.length (s.startGap p).configured = none := hr
    simp only [Request.take, hr', hb', answerRequest]
  rw [whenRunning_running ((listening_iff s p).mp h).1, arrive_listening h, ht]

/-- A request that leaves the state as it took it replies, and nothing but its port changes. -/
theorem sendReply_taken (s : State) (p : Port) (code tag : Byte) (st : Status) (payload : List Byte) :
    (s.taken p code tag).sendReply p code tag st payload = s.replied p code tag (statusCode st) payload := by
  cases p <;> rfl

/-- A request that changes nothing but what its port replies. -/
theorem arrive_reported {s : State} {p : Port} (h : s.listening p = true) (r : Request) (tag : Byte) (ps : List Byte)
    (hr : r.row.refusal p ps.length s.configured = none) {st : Status} {payload : List Byte}
    (hb : r.body p ps (s.taken p r.row.code tag) = (s.taken p r.row.code tag, .reply st payload)) :
    whenRunning s (r.arrive p tag ps) = .next (s.replied p r.row.code tag (statusCode st) payload).judgeIdle := by
  rw [arrive_answered h r tag ps hr hb, sendReply_taken]

/-- No case of R157 refuses a request of the right length, from a port that may send it, to a CONFIGURED part or to an
open row. -/
theorem refusal_none {r : IndexRow} {p : Port} {n : Nat} {b : Bool} (hn : r.allows n = true)
    (hp : r.ports.contains p = true) (hb : b = true ∨ r.openMode = true) : r.refusal p n b = none := by
  unfold IndexRow.refusal
  rw [if_neg (by simp [hn]), if_neg (by simpa using hp), if_neg (by rcases hb with h | h <;> simp [h])]

theorem portsNVS_contains (p : Port) : portsNVS.contains p = true := by cases p <;> rfl

theorem portsNS_contains {p : Port} (h : p ≠ .vehicle) : portsNS.contains p = true := by cases p <;> simp_all [portsNS]

theorem param0_singleton (n : Byte) : param0 [n] = n.toNat := by
  simp [param0, field, unbe]

/-! ## Reports -/

theorem clockBytes_eq (s : State) : clockBytes s = be 4 s.clock.count ++ [if s.clock.set then 1 else 0] := by
  rw [clockBytes]
  cases s.clock.set <;> rfl

theorem queryItems_taken (s : State) (p : Port) (code tag : Byte) (n : Nat) (xs : List Inlet) :
    queryItems (s.taken p code tag) n xs = queryItems s n xs := by
  induction xs generalizing n with
  | nil => rfl
  | cons x xs ih =>
    rw [queryItems, ih, queryItems]
    rfl

theorem bodyReadQueries_taken (s : State) (p : Port) (code tag : Byte) (ps : List Byte) :
    bodyReadQueries p ps (s.taken p code tag) = (s.taken p code tag, .reply .ok (queriesBytes s)) := by
  have h : queriesBytes (s.taken p code tag) = queriesBytes s := by
    rw [queriesBytes, queryItems_taken]
    rfl
  rw [bodyReadQueries, h]

theorem containerBytes_taken (s : State) (p : Port) (code tag : Byte) (c : Nat) (k : Container) :
    containerBytes (s.taken p code tag) c k = containerBytes s c k := by
  unfold containerBytes
  rfl

theorem inletBytes_taken (s : State) (p : Port) (code tag : Byte) (i : Nat) (x : Inlet) :
    inletBytes (s.taken p code tag) i x = inletBytes s i x := by
  unfold inletBytes
  rfl

theorem bodyReadContainer_taken {s : State} {n : Byte} {k : Container} (h : s.containers[n.toNat]? = some k) (p q : Port)
    (code tag : Byte) : bodyReadContainer p [n] (s.taken q code tag) =
      (s.taken q code tag, .reply .ok (containerBytes s n.toNat k)) := by
  have h' : (s.taken q code tag).containers[n.toNat]? = some k := h
  simp only [bodyReadContainer, param0_singleton, h', containerBytes_taken]

theorem bodyReadContainer_none {t : State} {n : Byte} (h : t.containers[n.toNat]? = none) (p : Port) :
    bodyReadContainer p [n] t = (t, .reply .outOfRange []) := by
  simp only [bodyReadContainer, param0_singleton, h, refuse]

theorem bodyReadInlet_taken {s : State} {n : Byte} {x : Inlet} (h : s.inlets[n.toNat]? = some x) (p q : Port)
    (code tag : Byte) : bodyReadInlet p [n] (s.taken q code tag) =
      (s.taken q code tag, .reply .ok (inletBytes s n.toNat x)) := by
  have h' : (s.taken q code tag).inlets[n.toNat]? = some x := h
  simp only [bodyReadInlet, param0_singleton, h', inletBytes_taken]

theorem bodyReadInlet_none {t : State} {n : Byte} (h : t.inlets[n.toNat]? = none) (p : Port) :
    bodyReadInlet p [n] t = (t, .reply .outOfRange []) := by
  simp only [bodyReadInlet, param0_singleton, h, refuse]

/-- Settles O23: each report leaves the state as it took it. -/
theorem reportsChangeNothing : Obligations.ReportsChangeNothing := by
  intro s p tag h
  refine ⟨?_, fun hc => ⟨?_, ?_, fun hv => ?_, fun n => ⟨?_, ?_⟩⟩⟩
  · rw [← clockBytes_eq]
    exact arrive_reported h reqReadClock tag [] (refusal_none rfl (portsNVS_contains p) (.inr rfl)) rfl
  · exact arrive_reported h reqReadDueList tag [] (refusal_none rfl (portsNVS_contains p) (.inl hc)) rfl
  · exact arrive_reported h reqReadLift tag [] (refusal_none rfl (portsNVS_contains p) (.inl hc)) rfl
  · exact arrive_reported h reqReadQueries tag [] (refusal_none rfl (portsNS_contains hv) (.inl hc))
      (bodyReadQueries_taken s p _ tag [])
  · have open' := refusal_none (r := reqReadContainer.row) (n := [n].length) rfl (portsNVS_contains p) (.inl hc)
    split
    · next k hk => exact (arrive_reported h reqReadContainer tag [n] open' (bodyReadContainer_taken hk p p 0x10 tag) :)
    · next hk => exact (arrive_reported h reqReadContainer tag [n] open' (bodyReadContainer_none (t := s.taken p 0x10 tag) hk p) :)
  · have open' := refusal_none (r := reqReadInlet.row) (n := [n].length) rfl (portsNVS_contains p) (.inl hc)
    split
    · next x hx => exact (arrive_reported h reqReadInlet tag [n] open' (bodyReadInlet_taken hx p p 0x20 tag) :)
    · next hx => exact (arrive_reported h reqReadInlet tag [n] open' (bodyReadInlet_none (t := s.taken p 0x20 tag) hx p) :)

end Sys2Proof.Machine
end

section
/-! PROOFS. The requests that suspend, resume and cool a container (R14, R15, R32, R70): O29. -/

namespace Sys2Proof.Machine

/-- A request that has changed the state to t, but for the port that carries it out, replies. -/
theorem sendReply_eq {u t : State} {p : Port} {code tag : Byte} (h : u = { t with ports := (t.taken p code tag).ports })
    (st : Status) (payload : List Byte) : u.sendReply p code tag st payload = t.replied p code tag (statusCode st) payload := by
  rw [h]
  cases p <;> rfl

/-- The reply after an effect, as it stands in the state that the effect leaves. -/
theorem answered_replied {o : CommandOutcome} {u t : State} {p : Port} {code tag : Byte} {st : Status} {payload : List Byte}
    (h : o = .next (u.sendReply p code tag st payload).judgeIdle)
    (hu : u = { t with ports := (t.taken p code tag).ports }) :
    o = .next (t.replied p code tag (statusCode st) payload).judgeIdle := by
  rw [h, sendReply_eq hu]

section
variable {s : State} {p : Port} {n : Byte} {k : Container}

/-! ## What each request does, by the container -/

theorem bodySuspendContainer_none (h : s.containers[n.toNat]? = none) :
    bodySuspendContainer p [n] s = (s, .reply .outOfRange []) := by
  simp only [bodySuspendContainer, param0_singleton, h, refuse]

theorem bodySuspendContainer_serving (h : s.containers[n.toNat]? = some k) (hs : k.state = .serving) :
    bodySuspendContainer p [n] s = ({ s with
      containers := s.containers.set n.toNat { k with state := .suspended }
      inlets := windowsEnded n.toNat s.inlets }, .reply .ok []) := by
  simp only [bodySuspendContainer, param0_singleton, h, if_pos hs, done]
  rw [updContainer_eq_set _ h, endWindows_eq]

theorem bodySuspendContainer_busy (h : s.containers[n.toNat]? = some k) (hs : k.state ≠ .serving) :
    bodySuspendContainer p [n] s = (s, .reply .busy []) := by
  simp only [bodySuspendContainer, param0_singleton, h, if_neg hs, refuse]

theorem bodyResumeContainer_none (h : s.containers[n.toNat]? = none) :
    bodyResumeContainer p [n] s = (s, .reply .outOfRange []) := by
  simp only [bodyResumeContainer, param0_singleton, h, refuse]

theorem bodyResumeContainer_suspended (h : s.containers[n.toNat]? = some k) (hs : k.state = .suspended) :
    bodyResumeContainer p [n] s = ({ s with
      containers := s.containers.set n.toNat { k with state := .serving } }, .reply .ok []) := by
  simp only [bodyResumeContainer, param0_singleton, h, if_pos hs, done]
  rw [updContainer_eq_set _ h]

theorem bodyResumeContainer_notNow (h : s.containers[n.toNat]? = some k) (hs : k.state ≠ .suspended) :
    bodyResumeContainer p [n] s = (s, .reply .notNow []) := by
  simp only [bodyResumeContainer, param0_singleton, h, if_neg hs, refuse]

theorem bodyClearHeat_none (h : s.containers[n.toNat]? = none) :
    bodyClearHeat p [n] s = (s, .reply .outOfRange []) := by
  simp only [bodyClearHeat, param0_singleton, h, refuse]

theorem bodyClearHeat_cool (h : s.containers[n.toNat]? = some k) (hh : k.hot = false) :
    bodyClearHeat p [n] s = (s, .reply .ok []) := by
  simp only [bodyClearHeat, param0_singleton, h, if_pos hh, done]

theorem bodyClearHeat_cooled (h : s.containers[n.toNat]? = some k) (hh : k.hot = true) (hc : k.cooled = true) :
    bodyClearHeat p [n] s = ({ s with
      containers := s.containers.set n.toNat
        { k with hot := false, nextDue := s.now + k.cfg.pingMinutes * 60000 } }.raise .heat, .reply .ok []) := by
  have hm : s.now + seconds (60 * k.cfg.pingMinutes) = s.now + k.cfg.pingMinutes * 60000 := by
    simp only [seconds]
    omega
  simp only [bodyClearHeat, param0_singleton, h, if_neg (show ¬ k.hot = false by simp [hh]), if_pos hc, done]
  rw [updContainer_eq_set _ h, hm]

theorem bodyClearHeat_hot (h : s.containers[n.toNat]? = some k) (hh : k.hot = true) (hc : k.cooled = false) :
    bodyClearHeat p [n] s = (s, .reply .hot []) := by
  simp only [bodyClearHeat, param0_singleton, h, if_neg (show ¬ k.hot = false by simp [hh]), refuse,
    if_neg (show ¬ k.cooled = true by simp [hc])]

/-- The condition of Clear Heat (R70). -/
theorem cooled_iff (k : Container) : k.cooled = true ↔
    k.tempStatus = .valid ∧ ∃ l, k.lastTemp = some l ∧ l.tHalf ≤ 2 * ((k.cfg.heatLimit : Int) - 10) := by
  unfold Container.cooled
  cases k.lastTemp <;> simp

theorem not_cooled (h : k.tempStatus ≠ .valid ∨ k.lastTemp = none ∨
    ∃ l, k.lastTemp = some l ∧ 2 * ((k.cfg.heatLimit : Int) - 10) < l.tHalf) : k.cooled = false := by
  rw [← Bool.not_eq_true, cooled_iff]
  rintro ⟨hv, l, hl, ht⟩
  rcases h with h | h | ⟨l', hl', h⟩
  · exact h hv
  · simp [hl] at h
  · rw [hl] at hl'
    cases hl'
    omega

end

/-- Settles O29: each request by the container it names. -/
theorem containerRequests : Obligations.ContainerRequests := by
  intro s p tag n h hc hv
  have allowed : ∀ r : IndexRow, r.ports = portsNS → r.lengths = oneByte → r.refusal p [n].length s.configured = none :=
    fun r hp hl => refusal_none (by rw [IndexRow.allows, hl]; rfl) (by rw [hp]; exact portsNS_contains hv) (.inl hc)
  have suspend : reqSuspendContainer.row.refusal p [n].length s.configured = none := allowed _ rfl rfl
  have resume : reqResumeContainer.row.refusal p [n].length s.configured = none := allowed _ rfl rfl
  have clear : reqClearHeat.row.refusal p [n].length s.configured = none := allowed _ rfl rfl
  refine ⟨fun hk => ⟨?_, ?_, ?_⟩, fun k hk => ⟨fun hs => ?_, fun hs => ?_, fun hs => ?_, fun hs => ?_, fun hh => ?_,
    fun hh l hl hs ht => ?_, fun hh hn => ?_⟩⟩
  · exact (arrive_reported h reqSuspendContainer tag [n] suspend
      (bodySuspendContainer_none (p := p) (s := s.taken p 0x11 tag) hk) :)
  · exact (arrive_reported h reqResumeContainer tag [n] resume
      (bodyResumeContainer_none (p := p) (s := s.taken p 0x12 tag) hk) :)
  · exact (arrive_reported h reqClearHeat tag [n] clear (bodyClearHeat_none (p := p) (s := s.taken p 0x15 tag) hk) :)
  · exact answered_replied (arrive_answered h reqSuspendContainer tag [n] suspend
      (bodySuspendContainer_serving (p := p) (s := s.taken p 0x11 tag) hk hs) :) rfl
  · exact (arrive_reported h reqSuspendContainer tag [n] suspend
      (bodySuspendContainer_busy (p := p) (s := s.taken p 0x11 tag) hk hs) :)
  · exact answered_replied (arrive_answered h reqResumeContainer tag [n] resume
      (bodyResumeContainer_suspended (p := p) (s := s.taken p 0x12 tag) hk hs) :) rfl
  · exact (arrive_reported h reqResumeContainer tag [n] resume
      (bodyResumeContainer_notNow (p := p) (s := s.taken p 0x12 tag) hk hs) :)
  · exact (arrive_reported h reqClearHeat tag [n] clear (bodyClearHeat_cool (p := p) (s := s.taken p 0x15 tag) hk hh) :)
  · exact answered_replied (arrive_answered h reqClearHeat tag [n] clear (bodyClearHeat_cooled (p := p)
      (s := s.taken p 0x15 tag) hk hh ((cooled_iff k).mpr ⟨hs, l, hl, ht⟩)) :) (by cases p <;> rfl)
  · exact (arrive_reported h reqClearHeat tag [n] clear
      (bodyClearHeat_hot (p := p) (s := s.taken p 0x15 tag) hk hh (not_cooled hn)) :)

end Sys2Proof.Machine
end

section
/-! PROOFS. A container becomes hot, at a measurement too (R13, R22, R32, R67, R68, R148): O34. -/

namespace Sys2Proof.Machine

/-- The record of a container that has become hot: SERVING again where it was claimed (R13, R32, R68, R148). -/
def Container.hotRecord (k : Container) (now : Nat) : Container :=
  { k.becomeHot now with state := if k.state = .claimed ∨ k.state = .released then .serving else k.state }

/-- Becoming hot, whatever the record says beside its state. -/
theorem becomeHot_of_set {s : State} {c : Nat} {k m : Container} (hk : s.containers[c]? = some k) (hs : m.state = k.state) :
    ({ s with containers := s.containers.set c m } : State).becomeHot c =
      { s.becomeHot c with containers := s.containers.set c (m.hotRecord s.now) } := by
  by_cases hc : k.state = .claimed ∨ k.state = .released
  · have e : m.hotRecord s.now = { m.becomeHot s.now with state := .serving } := by rw [Container.hotRecord, hs, if_pos hc]
    rw [becomeHot_claimed (k := m) (set_get m hk) (hs ▸ hc), becomeHot_claimed hk hc, e, List.set_set]
    rfl
  · have e : m.hotRecord s.now = m.becomeHot s.now := by rw [Container.hotRecord, hs, if_neg hc, ← hs]; rfl
    obtain ⟨h1, h2⟩ := not_or.mp hc
    rw [becomeHot_unclaimed (k := m) (set_get m hk) (hs ▸ h1) (hs ▸ h2), becomeHot_unclaimed hk h1 h2, e, List.set_set]
    rfl

theorem becomeHot_containers {s : State} {c : Nat} {k : Container} (hk : s.containers[c]? = some k) :
    (s.becomeHot c).containers = s.containers.set c (k.hotRecord s.now) := by
  have h := congrArg State.containers (becomeHot_of_set (m := k) hk rfl)
  rwa [set_self hk] at h

theorem becomeHot_get {s : State} {c : Nat} {k : Container} (hk : s.containers[c]? = some k) :
    (s.becomeHot c).containers[c]? = some (k.hotRecord s.now) := by
  rw [becomeHot_containers hk]
  exact set_get _ hk

/-- The condition of R67, as the model judges it. -/
theorem heatCondition_iff (k : Container) (t : Int) (now : Nat) :
    k.heatCondition t now = true ↔ (2 * k.cfg.heatLimit : Int) ≤ t ∨
      ∃ l, k.lastTemp = some l ∧ now - l.time ≤ 1800000 ∧ l.tHalf + 2 * (k.cfg.riseLimit : Int) ≤ t := by
  unfold Container.heatCondition
  cases k.lastTemp <;> simp [seconds]

/-- A temperature that the heat watch has dealt with stands as the last valid one (R66). -/
def Container.withValid (k : Container) (t : Int) (clamped : Bool) (now : Nat) : Container :=
  { k with tempStatus := .valid, lastTemp := some ⟨t, clamped, now⟩ }

/-- A temperature at a container that it does not make hot (R23, R66). -/
theorem temperatureValid_cold {s : State} {c : Nat} {k : Container} {t : Int} {clamped : Bool}
    (hk : s.containers[c]? = some k) (hn : k.hot = true ∨ k.heatCondition t s.now = false) :
    s.temperatureValid c k t clamped =
      { s with containers := s.containers.set c (k.withValid t clamped s.now) } := by
  have h : ¬ (k.hot = false ∧ k.heatCondition t s.now = true) := by rcases hn with h | h <;> simp [h]
  simp only [State.temperatureValid, if_neg h]
  rw [updContainer_eq_set _ hk, updContainer_eq_set (k := { k with tempStatus := .valid }) _ (set_get _ hk), List.set_set]
  rfl

/-- A temperature that makes the container hot: what it is to the container that has become hot already (R22, R67). -/
theorem temperatureValid_heats {s : State} {c : Nat} {k : Container} {t : Int} {clamped : Bool}
    (hk : s.containers[c]? = some k) (hh : k.heats (some (t, clamped)) s.now) :
    s.temperatureValid c k t clamped =
      { s.becomeHot c with containers := s.containers.set c ((k.hotRecord s.now).withValid t clamped s.now) } := by
  obtain ⟨hcold, t', cl', he, hcond⟩ := hh
  cases he
  have h : k.hot = false ∧ k.heatCondition t s.now = true := ⟨hcold, (heatCondition_iff k t s.now).mpr hcond⟩
  simp only [State.temperatureValid, if_pos h]
  rw [updContainer_eq_set _ hk, becomeHot_of_set (m := { k with tempStatus := .valid }) hk rfl,
    updContainer_eq_set (k := ({ k with tempStatus := .valid } : Container).hotRecord s.now) _ (set_get _ hk), List.set_set]
  rfl

theorem temperatureValid_becomeHot {s : State} {c : Nat} {k : Container} {t : Int} {clamped : Bool}
    (hk : s.containers[c]? = some k) (hh : k.heats (some (t, clamped)) s.now) :
    s.temperatureValid c k t clamped = (s.becomeHot c).temperatureValid c (k.hotRecord s.now) t clamped := by
  rw [temperatureValid_heats hk hh, temperatureValid_cold (becomeHot_get hk) (.inl rfl), becomeHot_containers hk,
    List.set_set]
  simp

/-! ## Completions -/

/-- A conversion's temperature, as its result gives it (R20, R41, R43). -/
theorem resultTemp_of_gives {s : State} {conv : Conversion} {temp : Option (Int × Bool)}
    (h : s.conversionGives conv temp) : s.resultTemp (some (conversionResult conv)) = temp := by
  rcases h with ⟨rfl, rfl | ⟨gate, n, rfl, hn⟩⟩ | ⟨gate, n, g, rfl, hg, h1, h2, hr, rfl⟩
  · rfl
  · have hsat : saturate 65535 n = min n 65535 := rfl
    simp only [conversionResult]
    rcases hn with hn | hn | hn
    · rw [if_pos (show longestGate < gate from hn)]
      rfl
    · rw [if_pos (show saturate 65535 n ≤ 128 by omega)]
      split <;> rfl
    · rw [if_neg (show ¬ saturate 65535 n ≤ 128 by omega), if_pos (show saturate 65535 n = 65535 by omega)]
      split <;> rfl
  · have hsat : saturate 65535 n = n := by
      simp only [saturate]
      omega
    simp only [conversionResult, hsat]
    rw [if_neg (show ¬ longestGate < gate from Nat.not_lt.mpr hg), if_neg (show ¬ n ≤ 128 by omega),
      if_neg (show ¬ n = 65535 by omega)]
    simp [State.resultTemp, hr]

/-- What a reading takes of a state and of a container's record (R22, R40). -/
theorem completionReading_congr {s t : State} {k m : Container} (hs : t.store = s.store) (hc : m.cfg = k.cfg)
    (hf : m.floorRef = k.floorRef) (temp : Option (Int × Bool)) (echo : EchoSignal) :
    t.completionReading m temp echo = s.completionReading k temp echo := by
  simp only [State.completionReading, State.shapeOf, hs, hc, hf]

/-- A measurement that makes its container hot completes as it does for the container that has become hot already (R22,
R148). -/
theorem takeResult_becomeHot {s : State} {r : Run} {k : Container} {temp : Option (Int × Bool)} (echo : EchoSignal)
    (hk : s.containers[r.container]? = some k) (ht : s.resultTemp r.result = temp) (hh : k.heats temp s.now) :
    s.takeResult r echo = (s.becomeHot r.container).takeResult r echo := by
  obtain ⟨_, t, clamped, rfl, _⟩ := id hh
  have ht' : (s.becomeHot r.container).resultTemp r.result = some (t, clamped) := by
    simpa [State.resultTemp] using ht
  have hm := becomeHot_get hk
  have hr := completionReading_congr (s := s) (t := s.becomeHot r.container) (k := k) (m := k.hotRecord s.now) (by simp)
    rfl rfl (some (t, clamped)) echo
  have hv : ((s.becomeHot r.container).temperatureValid r.container (k.hotRecord s.now) t clamped).containers[r.container]? =
      some ((k.hotRecord s.now).withValid t clamped (s.becomeHot r.container).now) := by
    rw [temperatureValid_cold hm (.inl rfl)]
    exact set_get _ hm
  simp only [State.takeResult, hk, hm, ht, ht', hr, State.takeTemperature, temperatureValid_becomeHot hk hh, hv,
    Option.getD_some]

/-- The front end frees before or after a container becomes hot. -/
theorem becomeHot_freed {s : State} {c : Nat} {k : Container} (hk : s.containers[c]? = some k) :
    ({ s with run := none } : State).becomeHot c = { s.becomeHot c with run := none } := by
  by_cases hc : k.state = .claimed ∨ k.state = .released
  · rw [becomeHot_claimed (s := { s with run := none }) hk hc, becomeHot_claimed hk hc]
    rfl
  · obtain ⟨h1, h2⟩ := not_or.mp hc
    rw [becomeHot_unclaimed (s := { s with run := none }) hk h1 h2, becomeHot_unclaimed hk h1 h2]
    rfl

theorem exec_completion {s : State} (hp : s.power = .running) (conv : Conversion) (echo : EchoSignal) :
    exec (.measurementCompletion conv echo) s = .next (s.takeCompletion conv echo).judgeIdle := if_pos hp

/-- The completion of an attached measurement (R22). -/
theorem takeCompletion_attached {s : State} {r : Run} (hr : s.run = some r) (hd : r.detached = false) (conv : Conversion)
    (echo : EchoSignal) :
    s.takeCompletion conv echo = (State.takeResult { s with run := none } (r.convert conv) echo).arbitrate := by
  simp [State.takeCompletion, hr, hd]

theorem takeCompletion_becomeHot {s : State} {r : Run} {k : Container} {conv : Conversion} {temp : Option (Int × Bool)}
    (echo : EchoSignal) (hr : s.run = some r) (hd : r.detached = false) (hk : s.containers[r.container]? = some k)
    (hc : s.conversionGives conv temp) (hh : k.heats temp s.now) :
    s.takeCompletion conv echo = (s.becomeHot r.container).takeCompletion conv echo := by
  have hr' : (s.becomeHot r.container).run = some r := by simpa using hr
  rw [takeCompletion_attached hr hd, takeCompletion_attached hr' hd, ← becomeHot_freed hk,
    takeResult_becomeHot (s := { s with run := none }) (r := r.convert conv) echo hk (resultTemp_of_gives hc) hh]
  rfl

/-- A first measurement that makes its container hot and brings a reading (R22, R27). -/
theorem takeResult_heats_first {s : State} {r : Run} {k : Container} {t : Int} {clamped : Bool} {rd : Reading}
    {echo : EchoSignal} (hk : s.containers[r.container]? = some k) (hs : r.second = false)
    (ht : s.resultTemp r.result = some (t, clamped)) (hh : k.heats (some (t, clamped)) s.now)
    (hr : s.completionReading k (some (t, clamped)) echo = some rd) :
    s.takeResult r echo = { s.becomeHot r.container with
      containers := (s.becomeHot r.container).containers.set r.container { k.hotRecord s.now with
        tempStatus := .valid, lastTemp := some ⟨t, clamped, s.now⟩
        pair := { (k.hotRecord s.now).pair with
          stage := .awaitSecond, first := some rd.height, spacing := some (s.now + 2000) } } } := by
  have hv := temperatureValid_heats hk hh
  have hg : (s.temperatureValid r.container k t clamped).containers[r.container]? =
      some ((k.hotRecord s.now).withValid t clamped s.now) := by
    rw [hv]
    exact set_get _ hk
  simp only [State.takeResult, hk, ht, hr, State.takeTemperature, hg, Option.getD_some, hs, State.firstDone]
  have hn : (s.becomeHot r.container).now = s.now := by simp
  rw [if_neg (by decide), updContainer_eq_set _ hg, hv, becomeHot_containers hk, List.set_set, List.set_set]
  dsimp only
  rw [hn]
  rfl

/-- Settles O34: becoming hot in the two cases of R148; a measurement that heats does what it does for the hot container. -/
theorem becomingHot : Obligations.BecomingHot := by
  refine ⟨fun s c k hk => ?_, fun s conv echo c k t clamped run r hp hr hd hc hs hk hg hh hrd => ?_,
    fun s conv echo run k temp hp hr hd hk hg hh => ⟨fun m hm hm' => ?_, _, exec_completion hp conv echo, ?_⟩⟩
  · rw [← becomeHot_record]
    exact ⟨becomeHot_unclaimed hk, becomeHot_claimed hk⟩
  · subst hc
    refine ⟨k.hotRecord s.now, becomeHot_get (s := { s with run := none }) hk, ?_⟩
    rw [exec_completion hp, takeCompletion_attached hr hd]
    have h := takeResult_heats_first (s := { s with run := none }) (r := run.convert conv) hk hs (resultTemp_of_gives hg) hh hrd
    rw [h]
    rfl
  · rw [becomeHot_get hk] at hm
    cases hm
    cases hm'.1
  · rw [exec_completion (by simpa using hp), takeCompletion_becomeHot echo hr hd hk hg hh]

end Sys2Proof.Machine
end

section
/-! PROOFS. The warm restart by the reset line (R4, R17, R33, R61, R63, R75, R95, R126, R150, R160, R170, R179): O11. -/

namespace Sys2Proof.Machine

/-! ## Containers -/

/-- The pair that a warm restart leaves, the due events taken (R17, R33). -/
def Container.restartPair (k : Container) (now : Nat) : Pair :=
  if k.state = .verifying then requestedPair .verify now
  else if k.state = .lifted ∨ k.displaced = true then .idle
  else requestedPair (if k.hot then .demand else .scheduled) now

theorem warm_takeDue (k : Container) (now : Nat) :
    ({ k.warm now with nextDue := now }).takeDue now = k.restartedRecord now (k.restartPair now) := by
  have hu : (k.warm now).unmeasured = k.unmeasured := by
    unfold Container.unmeasured Container.warm
    cases k.state <;> rfl
  have hp : (if (k.warm now).unmeasured = true ∨ (k.warm now).pair.stage ≠ .none then (k.warm now).pair
      else requestedPair (k.warm now).dueClass now) = k.restartPair now := by
    rw [hu]
    unfold Container.warm Container.restartPair
    by_cases hv : k.state = .verifying
    · simp [hv, request_idle, requestedPair]
    · simp only [if_neg hv, unmeasured_iff]
      by_cases hm : k.state = .lifted ∨ k.displaced = true
      · rw [if_pos hm, if_pos (.inl hm)]
      · rw [if_neg hm, if_neg (by simp [hm, Pair.idle])]
        rfl
  rw [takeDue_atOnce, hp]
  rfl

/-! ## The blocks -/

/-- The state of a warm restart before the seats are reconciled: its values, the due events taken (R33, R179). -/
def State.warmed (v : State) : State := v.warmValues.allDue

theorem warmed_containers (v : State) :
    v.warmed.containers = v.containers.map fun k => k.restartedRecord v.now (k.restartPair v.now) := by
  simp only [State.warmed, State.allDue, State.warmValues, List.map_map]
  exact List.map_congr_left fun k _ => warm_takeDue k v.now

theorem warmed_port (v : State) (p : Port) : v.warmed.port p = (v.port p).restarted (kindSet .restart) := by
  cases p <;> rfl

theorem restarted_eq (b : PortBlock) (flags : KindSet) : b.restarted flags = { b with
    receiver := .hunting, gap := none, flags := flags
    state := match b.state with
      | .replying f => .replying f
      | .free | .holding _ _ => .free
    discarded := match b.receiver with
      | .receiving _ => min (b.discarded + 1) 255
      | .hunting | .skipping => b.discarded } := by
  unfold PortBlock.restarted
  cases b.state <;> cases b.receiver <;> rfl

/-- The container that a claim holds, if any, is the one in CLAIMED or RELEASED (R150). -/
theorem claimContainer_some {v : State} {c : Nat} (h : v.claimContainer = some c) :
    v.inState c .claimed = true ∨ v.inState c .released = true := by
  obtain ⟨k, hk, ht⟩ := findContainer_some h
  simpa [State.inState, hk] using ht

theorem claimContainer_none {v : State} (h : v.claimContainer = none) (c : Nat) :
    ¬ (v.inState c .claimed = true ∨ v.inState c .released = true) := by
  simp only [inState_eq]
  rintro (⟨k, hk, hs⟩ | ⟨k, hk, hs⟩) <;> simpa [hs] using findContainer_none h hk

theorem warmed_inlets_get (v : State) (i : Nat) : v.warmed.inlets[i]? = (v.inlets[i]?).map fun x => x.warm v.now := by
  simp [State.warmed, State.allDue, State.warmValues]

theorem warmed_last (v : State) : v.warmed.lift.last = match v.claimContainer with
    | some c => some ⟨c, .restart, v.clock.count⟩
    | none => v.lift.last := rfl

theorem warmed_blocks (v : State) : v.WarmBlocks v.warmed where
  frame := rfl
  ports p := (warmed_port v p).trans (restarted_eq _ _)
  inletCount := by simp [State.warmed, State.allDue, State.warmValues]
  inlets i x hx := by
    refine ⟨x.warm v.now, by rw [warmed_inlets_get, hx]; rfl, rfl, ?_, rfl⟩
    cases hl : x.lidOpen <;> simp [Inlet.warm, hl]
  lastKept h := by
    rw [warmed_last]
    split
    · next c hc => simpa [h c] using claimContainer_some hc
    · rfl
  lastRestart h := by
    rw [warmed_last]
    split
    · next c hc => exact ⟨c, claimContainer_some hc, rfl⟩
    · next hn =>
      obtain ⟨c, hc⟩ := h
      exact (claimContainer_none hn c hc).elim

/-- The arbiter and the idle judgement leave the blocks as they stand. -/
theorem State.WarmBlocks.settled {v u : State} (h : v.WarmBlocks u) : v.WarmBlocks u.arbitrate.judgeIdle := by
  have settled : u.arbitrate.judgeIdle = { u with
      containers := u.arbitrate.containers, run := u.arbitrate.run
      wake := { u.wake with idleTimer := u.arbitrate.nextIdleTimer } } := by
    rcases arbitrate_cases u with e | ⟨c, k, _, _, _, e⟩ <;> rw [e] <;> rfl
  rw [settled]
  refine ⟨?_, h.ports, h.inletCount, h.inlets, h.lastKept, h.lastRestart⟩
  rw [h.frame]

/-! ## The seats -/

theorem reconcileFrom_eq (l : FieldLines) (n k : Nat) (s : State) :
    reconcileFrom l n k s = (List.range' n k).foldl (fun w c => w.takeSeat c (l.seat.getLsbD c)) s := by
  induction k generalizing n s with
  | zero => rfl
  | succ k ih => rw [reconcileFrom, ih, List.range'_succ, List.foldl_cons, seatLevel]

/-- Seat lines that agree with the seat states change nothing (R17). -/
theorem reconcile_agreeing {l : FieldLines} {u : State} (cs : List Nat)
    (h : ∀ c k, u.containers[c]? = some k → k.seated = l.seat.getLsbD c) :
    cs.foldl (fun w c => w.takeSeat c (l.seat.getLsbD c)) u = u := by
  induction cs with
  | nil => rfl
  | cons c cs ih =>
    rw [List.foldl_cons]
    rcases hk : u.containers[c]? with _ | k
    · rw [takeSeat_none _ hk, ih]
    · rw [takeSeat_eq _ hk, if_pos (h c k hk), ih]

theorem exec_resetLineAssertion {s : State} (h : s.attends = true) (l : FieldLines) :
    exec (.resetLineAssertion l) s = .next
      (((List.range (s.moveLines l).containers.length).foldl (fun w c => w.takeSeat c (l.seat.getLsbD c))
        (s.moveLines l).warmed).arbitrate.judgeIdle) := by
  obtain ⟨hp, hw⟩ := attends_running h
  have e : exec (.resetLineAssertion l) s = .next (s.moveLines l).warmRestart.judgeIdle :=
    (if_pos hp).trans (by dsimp only; rw [if_pos hw])
  rw [e, State.warmRestart, reconcileFrom_eq, moveLines_lines, ← List.range_eq_range']
  rfl

/-! ## Where the seats agree -/

/-- What the arbiter leaves of a warm restart's pair (R17, R30, R33). -/
theorem restartPair_arbitrated {k : Container} {now : Nat} {p : Pair}
    (h : p = k.restartPair now ∨ (k.restartPair now).queued = true ∧ p = { k.restartPair now with
      stage := if (k.restartPair now).stage = .secondQueued then .secondRunning else .firstRunning, entry := none }) :
    (k.state = .verifying → p.cls = some .verify ∧ p.attempt = some 1 ∧ p.stage ≠ .none) ∧
    (k.state ≠ .verifying → k.unmeasured = true → p = .idle) ∧
    (k.state ≠ .verifying → k.unmeasured = false →
      p.cls = some (if k.hot then .demand else .scheduled) ∧ (p.stage = .firstQueued ∨ p.stage = .firstRunning)) := by
  refine ⟨fun hv => ?_, fun hv hu => ?_, fun hv hu => ?_⟩
  · have e : k.restartPair now = requestedPair .verify now := if_pos hv
    rw [e] at h
    rcases h with rfl | ⟨_, rfl⟩ <;> simp [requestedPair]
  · have e : k.restartPair now = .idle := by
      rw [Container.restartPair, if_neg hv, if_pos ((unmeasured_iff k).mp hu)]
    rw [e] at h
    rcases h with rfl | ⟨hq, _⟩
    · rfl
    · cases hq
  · have hm : ¬ (k.state = .lifted ∨ k.displaced = true) := by rw [← unmeasured_iff, hu]; decide
    have e : k.restartPair now = requestedPair (if k.hot then .demand else .scheduled) now := by
      rw [Container.restartPair, if_neg hv, if_neg hm]
    rw [e] at h
    rcases h with rfl | ⟨_, rfl⟩ <;> simp [requestedPair]

/-- A container's record after a warm restart in which no seat has changed. -/
theorem warmed_record {v : State} {c : Nat} {k : Container} (hk : v.containers[c]? = some k) :
    ∃ m, v.warmed.arbitrate.containers[c]? = some m ∧ m = k.restartedRecord v.now m.pair ∧
      (m.pair = k.restartPair v.now ∨ (k.restartPair v.now).queued = true ∧ m.pair = { k.restartPair v.now with
        stage := if (k.restartPair v.now).stage = .secondQueued then .secondRunning else .firstRunning, entry := none }) := by
  have hw : v.warmed.containers[c]? = some (k.restartedRecord v.now (k.restartPair v.now)) := by
    rw [warmed_containers, List.getElem?_map, hk, Option.map_some]
  obtain ⟨m, hm, rfl | ⟨hq, rfl, _⟩⟩ := arbitrate_record v.warmed hw
  · exact ⟨_, hm, rfl, .inl rfl⟩
  · exact ⟨_, hm, rfl, .inr ⟨hq, rfl⟩⟩

theorem restartedRecord_state (k : Container) (now : Nat) (p : Pair) : (k.restartedRecord now p).state =
    if k.state = .claimed ∨ k.state = .released then .serving else k.state := rfl

/-- Seat lines that agree with the kept seat states leave the state of the warm values to the arbiter. -/
theorem exec_resetLine_agreeing {s v : State} {l : FieldLines} (h : s.attends = true) (hv : v = s.moveLines l)
    (ha : ∀ (c : Nat) (k : Container), v.containers[c]? = some k → k.seated = l.seat.getLsbD c) :
    exec (.resetLineAssertion l) s = .next v.warmed.arbitrate.judgeIdle := by
  subst hv
  rw [exec_resetLineAssertion h, reconcile_agreeing _ fun c m hm => ?_]
  rw [warmed_containers, List.getElem?_map, Option.map_eq_some_iff] at hm
  obtain ⟨k, hk, rfl⟩ := hm
  exact ha c k hk

/-! ## A seat change in the reconciliation -/

theorem takeSeat_false {s : State} {c : Nat} {k : Container} (hk : s.containers[c]? = some k) (hs : k.seated = true) :
    s.takeSeat c false = s.takeUnseat c := by
  rw [takeSeat_eq _ hk, if_neg (by simp [hs]), if_neg (by decide)]

theorem takeSeat_true {s : State} {c : Nat} {k : Container} (hk : s.containers[c]? = some k) (hs : k.seated = false) :
    s.takeSeat c true = s.takeReseat c := by
  rw [takeSeat_eq _ hk, if_neg (by simp [hs]), if_pos rfl]

/-- Settles O11: the warm values, each seat line taken as a seat change, the arbiter. -/
theorem warmRestartByResetLine : Obligations.WarmRestartByResetLine := by
  refine ⟨fun s v l h hv ha => ⟨_, exec_resetLine_agreeing h hv ha, (warmed_blocks v).settled, ?_, fun c k hk => ?_⟩,
    fun s v l h hv => ⟨v.warmed, warmed_blocks v, rfl, rfl, warmed_containers v, ?_⟩, fun s c k hk => ?_⟩
  · simp [warmed_containers]
  · obtain ⟨m, hm, hr, hp⟩ := warmed_record hk
    refine ⟨m, hm, hr, fun hs => ?_, fun h1 h2 => ?_, restartPair_arbitrated hp⟩
    · rw [hr, restartedRecord_state, if_pos hs]
    · rw [hr, restartedRecord_state, if_neg (not_or.mpr ⟨h1, h2⟩)]
  · subst hv
    exact exec_resetLineAssertion h l
  · refine ⟨by rw [takeSeat_eq _ hk, if_pos rfl], fun hs hst => ?_, fun hs hst => ?_, fun hs hi hst => ?_,
      fun hs hi hst hd => ?_⟩
    · rw [takeSeat_false hk hs, takeUnseat_displaces hk hst, displace_eq hk]
      rfl
    · rw [takeSeat_false hk hs, takeUnseat_verifying hk hst]
      rfl
    · rw [takeSeat_true hk hs, takeReseat_eq hk, if_pos hst, reseatLifted_eq hk, hi, request_idle]
      rfl
    · rw [takeSeat_true hk hs, takeReseat_eq hk, if_neg hst, if_pos hd, reseatDisplaced_eq hk, hi, request_idle]

end Sys2Proof.Machine
end

section
/-! PROOFS. What the field lines move leaves every port's state, whatever attention it raises (R72, R157, R160): the reply of
a check that completes after it finds the port as it held it. -/

namespace Sys2Proof.Machine

@[simp] theorem raise_portState (s : State) (a : AttentionKind) (p : Port) :
    ((s.raise a).ports.get p).state = (s.ports.get p).state := by
  cases p <;> rfl

@[simp] theorem raiseIf_portState (s : State) (b : Bool) (a : AttentionKind) (p : Port) :
    ((s.raiseIf b a).ports.get p).state = (s.ports.get p).state := by
  unfold State.raiseIf
  split <;> simp

@[simp] theorem evaluate_portState (s : State) (c : Nat) (p : Port) :
    ((s.evaluate c).ports.get p).state = (s.ports.get p).state := by
  have due : ∀ k pe, ((s.judgeDue c k pe).ports.get p).state = (s.ports.get p).state := by
    intro k pe
    unfold State.judgeDue State.leaveDueList State.joinDueList
    repeat' split
    all_goals simp
  have full : ∀ (t : State) k pe, ((t.judgeFull c k pe).ports.get p).state = (t.ports.get p).state := by
    intro t k pe
    unfold State.judgeFull State.setFull
    repeat' split
    all_goals simp
  unfold State.evaluate
  repeat' split
  · rfl
  · rfl
  · rw [full, due]

@[simp] theorem journalRecord_portState (s : State) (n : Nat) (b : JournalBody) (p : Port) :
    ((s.journalRecord n b).ports.get p).state = (s.ports.get p).state := by
  unfold State.journalRecord State.makeEntry
  split <;> simp

@[simp] theorem journalDeposit_portState (s : State) (n card : Nat) (h : Option Nat) (b : Bool) (p : Port) :
    ((s.journalDeposit n card h b).ports.get p).state = (s.ports.get p).state := by
  unfold State.journalDeposit State.makeEntry
  split <;> simp

@[simp] theorem countClosing_portState (s : State) (i : Nat) (x : Inlet) (t : Nat) (p : Port) :
    ((s.countClosing i x t).ports.get p).state = (s.ports.get p).state := by
  unfold State.countClosing State.countDeposit State.countForced State.addVolume
  dsimp only
  repeat' split
  all_goals simp

@[simp] theorem judgeRelease_portState (s : State) (c : Nat) (p : Port) :
    ((s.judgeRelease c).ports.get p).state = (s.ports.get p).state := by
  unfold State.judgeRelease
  split <;> simp

@[simp] theorem takeLidOpening_portState (s : State) (i t : Nat) (p : Port) :
    ((s.takeLidOpening i t).ports.get p).state = (s.ports.get p).state := by
  unfold State.takeLidOpening
  repeat' split
  all_goals simp

@[simp] theorem takeLidClosing_portState (s : State) (i t : Nat) (p : Port) :
    ((s.takeLidClosing i t).ports.get p).state = (s.ports.get p).state := by
  unfold State.takeLidClosing
  dsimp only
  repeat' split
  all_goals simp

@[simp] theorem acceptLid_portState (s : State) (i : Nat) (b : Bool) (p : Port) :
    ((s.acceptLid i b).ports.get p).state = (s.ports.get p).state := by
  unfold State.acceptLid
  dsimp only
  repeat' split
  all_goals simp

@[simp] theorem endClaim_portState (s : State) (c : Nat) (e : LiftEnding) (p : Port) :
    ((s.endClaim c e).ports.get p).state = (s.ports.get p).state := by
  unfold State.endClaim
  simp

@[simp] theorem cleanUp_portState (s : State) (c : Nat) (p : Port) :
    ((s.cleanUp c).ports.get p).state = (s.ports.get p).state := by
  unfold State.cleanUp State.leaveDueList State.setFull
  dsimp only
  repeat' split
  all_goals simp

@[simp] theorem finishEmptying_portState (s : State) (c : Nat) (after : Option Nat) (v : Bool) (e : LiftEnding) (p : Port) :
    ((s.finishEmptying c after v e).ports.get p).state = (s.ports.get p).state := by
  unfold State.finishEmptying
  split <;> simp

@[simp] theorem displace_portState (s : State) (c : Nat) (p : Port) :
    ((s.displace c).ports.get p).state = (s.ports.get p).state := by
  simp [State.displace]

@[simp] theorem takeSeat_portState (s : State) (c : Nat) (b : Bool) (p : Port) :
    ((s.takeSeat c b).ports.get p).state = (s.ports.get p).state := by
  unfold State.takeSeat State.takeReseat State.takeUnseat
  repeat' split
  all_goals simp [State.takeLift, State.reseatLifted, State.reseatDisplaced, State.endUnverified]

@[simp] theorem acceptSeat_portState (s : State) (c : Nat) (b : Bool) (p : Port) :
    ((s.acceptSeat c b).ports.get p).state = (s.ports.get p).state := by
  unfold State.acceptSeat
  dsimp only
  repeat' split
  all_goals simp

@[simp] theorem acceptStood_portState (s : State) (p : Port) :
    (s.acceptStood.ports.get p).state = (s.ports.get p).state := by
  have lids : ∀ (es : List (Nat × Bool)) (v : State),
      ((es.foldl (fun v e => v.acceptLid e.1 e.2) v).ports.get p).state = (v.ports.get p).state := by
    intro es
    induction es with
    | nil => exact fun _ => rfl
    | cons e es ih => exact fun v => by rw [List.foldl_cons, ih, acceptLid_portState]
  have seats : ∀ (es : List (Nat × Bool)) (v : State),
      ((es.foldl (fun v e => v.acceptSeat e.1 e.2) v).ports.get p).state = (v.ports.get p).state := by
    intro es
    induction es with
    | nil => exact fun _ => rfl
    | cons e es ih => exact fun v => by rw [List.foldl_cons, ih, acceptSeat_portState]
  rw [State.acceptStood, seats, lids]

/-- A move of the lines leaves every port's state. -/
theorem moveLines_portState (s : State) (l : FieldLines) (p : Port) : ((s.moveLines l).port p).state = (s.port p).state := by
  simp [State.moveLines, State.port]

end Sys2Proof.Machine
end

section
/-! PROOFS. Apply Configuration: its request, and the end of its check (R4, R18, R33, R61, R75, R95, R116, R150, R160, R178,
R180): O28. -/

namespace Sys2Proof.Machine

/-! ## The request -/

/-- A request whose reply waits for a completion. -/
theorem arrive_awaiting {s t u : State} {p : Port} (h : s.listening p = true) (r : Request) (tag : Byte) (ps : List Byte)
    (hr : r.row.refusal p ps.length s.configured = none)
    (hb : r.body p ps (s.taken p r.row.code tag) = (u, .later)) (hu : u = { t with ports := (s.taken p r.row.code tag).ports })
    (ht : t.ports = s.ports) (hn : t.now = s.now) :
    whenRunning s (r.arrive p tag ps) = .next (t.awaiting p r.row.code tag).judgeIdle := by
  have hb' : r.body p ps ((s.startGap p).holdPort p r.row.code tag) = _ := hb
  have hr' : r.row.refusal p ps.length (s.startGap p).configured = none := hr
  have hports : (s.taken p r.row.code tag).ports = (t.awaiting p r.row.code tag).ports := by
    simp only [State.awaiting, State.updPort, State.taken, State.holdPort, State.startGap, ht, hn]
    cases p <;> rfl
  have htake : r.take p tag ps (s.startGap p) = { t with ports := (s.taken p r.row.code tag).ports } := by
    simp only [Request.take, hr', hb', answerRequest, hu]
  rw [whenRunning_running ((listening_iff s p).mp h).1, arrive_listening h, htake, hports]
  rfl

section
variable {s : State} {p : Port}

theorem bodyApplyConfiguration_busy (ps : List Byte)
    (h : ∃ q, q ≠ p ∧ (s.store.writer = some q ∨ s.store.check = some q)) :
    bodyApplyConfiguration p ps s = (s, .reply .busy []) := by
  obtain ⟨q, hq, h⟩ := h
  have hb : (s.store.writer.any (fun w => decide (w ≠ p)) || s.store.check.any fun w => decide (w ≠ p)) = true := by
    rcases h with h | h <;> simp [h, hq]
  rw [bodyApplyConfiguration, if_pos hb, refuse]

/-- The check begins (R178). -/
theorem bodyApplyConfiguration_check (ps : List Byte) (hw : s.store.writer = none ∨ s.store.writer = some p)
    (hc : s.store.check = none ∨ s.store.check = some p) :
    bodyApplyConfiguration p ps s = ({ s with
      store := { s.store with
        check := some p
        writerIdle := if s.store.writer = some p then some (s.now + 60000) else s.store.writerIdle } }, .later) := by
  have hb : ¬ (s.store.writer.any (fun w => decide (w ≠ p)) || s.store.check.any fun w => decide (w ≠ p)) = true := by
    rcases hw with hw | hw <;> rcases hc with hc | hc <;> simp [hw, hc]
  rw [bodyApplyConfiguration, if_neg hb]
  rfl

end

/-! ## The end of the check -/

theorem inHand_iff (s : State) : s.inHand = true ↔
    ∃ k ∈ s.containers, k.state = .claimed ∨ k.state = .released ∨ k.state = .lifted ∨ k.state = .verifying := by
  simp [State.inHand]

/-- The state in which a completed check is judged (R72, R178). -/
def State.atCheckEnd (s : State) (l : FieldLines) : State :=
  { s.moveLines l with drawn := if s.store.writes = [] then s.drawn else s.drawn + 1 }

theorem exec_applyCheckCompletion {s : State} {p : Port} (hp : s.power = .running) (hc : s.store.check = some p)
    (l : FieldLines) : exec (.applyCheckCompletion l) s =
      .next ((s.atCheckEnd l).endCheck p (judgeImage s.settledMemory)).judgeIdle := by
  refine (if_pos hp).trans ?_
  dsimp only
  rw [hc]
  rfl

section
variable {s : State} {p : Port} {code tag : Byte}

theorem endCheck_badImage (h : (s.port p).state = .holding code tag) :
    s.endCheck p none = { s with store := { s.store with check := none, writer := none, writerIdle := none } }.updPort p
      fun b => { b with state := .replying (replyFrame code tag 0x27 []) } := by
  simp only [State.endCheck, h]
  rfl

theorem endCheck_busy (h : (s.port p).state = .holding code tag) (g : StationConfig) (hh : s.inHand = true) :
    s.endCheck p (some g) = { s with store := { s.store with check := none } }.updPort p
      fun b => { b with state := .replying (replyFrame code tag 0x20 []) } := by
  have hh' : State.inHand { s with store := { s.store with check := none } } = true := hh
  simp only [State.endCheck, h, if_pos hh']
  rfl

/-- The state that a configuration restart hands to the arbiter (R180). -/
def State.reconfigured (s : State) (g : StationConfig) : State :=
  ({ s with
      ports := s.ports.map fun b => b.restarted (kindSet .restart ||| kindSet .config)
      store := { s.store.restarted with running := some g }
      run := none
      containers := rebuiltContainers s.lines s.now 0 s.containers g.containers
      outcomes := s.outcomes ++ slotOutcomes (fun _ => true) .noAnswer 0 s.inlets
      inlets := freshInlets s.lines s.now 0 g.inlets
      dueList := []
      cards := s.cards.rebase s.clock.count (s.store.running.map StationConfig.periodDays) g.periodDays
      lift := { s.lift.endSession with lidWait := none, releaseWait := none, last := none }
      wake := { s.wake with idleTimer := none } } : State).allDue

theorem configRestart_eq (s : State) (g : StationConfig) : s.configRestart g = (s.reconfigured g).arbitrate := rfl

theorem endCheck_applied (h : (s.port p).state = .holding code tag) (g : StationConfig) (hh : s.inHand = false) :
    s.endCheck p (some g) = (s.reconfigured g).arbitrate.updPort p
      fun b => { b with state := .replying (replyFrame code tag 0x00 []) } := by
  have hh' : ¬ State.inHand { s with store := { s.store with check := none } } = true := by
    simpa [State.inHand] using hh
  simp only [State.endCheck, h, if_neg hh', configRestart_eq]
  rfl

end

/-! ## The records of a configuration restart -/

/-- A TEMPORARY entry that has expired (R115). -/
theorem expiredAt_eq (k : Card) (clock : Nat) :
    k.expiredAt clock = (decide (k.kind = .temporary) && k.expiry.any fun e => decide (e ≤ clock)) := by
  unfold Card.expiredAt
  cases k.kind <;> cases k.expiry <;> simp

theorem roll_rolledTo (t : CardTable) (clock index : Nat) : t.RolledTo (t.roll clock index) clock index where
  period := rfl
  loaded := rfl
  entries := by simp only [CardTable.roll, expiredAt_eq]

/-- The record of a container that a configuration restart rebuilds (R4, R18), the due events taken. -/
theorem rebuilt_due (cfg : ContainerSettings) (b hot : Bool) (st : ServiceState) (now : Nat) (hs : st ≠ .lifted) :
    ({ freshContainer cfg b now with state := st, hot := hot, nextDue := now } : Container).takeDue now =
      { cfg := cfg, state := st, seated := b, seatHold := none, displaced := !b, hot := hot, note := none, level := none,
        levelStatus := .noReading, tempStatus := .none, lastTemp := none, added := 0, floorRef := cfg.floor,
        residue := false, misses := 0, mismatches := 0, full := false
        pair := if b then requestedPair (if hot then .demand else .scheduled) now else .idle
        nextDue := now + if hot then 60000 else cfg.pingMinutes * 60000 } := by
  rw [takeDue_atOnce (k := { freshContainer cfg b now with state := st, hot := hot }), pingInterval_eq]
  have hu : ({ freshContainer cfg b now with state := st, hot := hot } : Container).unmeasured = !b := by
    simp [Container.unmeasured, hs, freshContainer]
  rw [hu]
  cases b <;> rfl

theorem reconfigured_container {v : State} {g : StationConfig} {c : Nat} {cfg : ContainerSettings}
    (hc : g.containers[c]? = some cfg) :
    (v.reconfigured g).containers[c]? =
      some (({ freshContainer cfg (v.lines.seat.getLsbD c) v.now with
        state := ((v.containers[c]?).map Container.state).getD .serving
        hot := ((v.containers[c]?).map Container.hot).getD false, nextDue := v.now } : Container).takeDue v.now) := by
  rw [State.reconfigured, allDue_get, rebuiltContainers_get, hc, Nat.zero_add]
  cases v.containers[c]? <;> rfl

theorem reconfigured_port (v : State) (g : StationConfig) (q : Port) :
    (v.reconfigured g).port q = (v.port q).restarted (kindSet .restart ||| kindSet .config) := by
  cases q <;> rfl

theorem reconfigured_inlets (v : State) (g : StationConfig) :
    (v.reconfigured g).inlets = freshInlets v.lines v.now 0 g.inlets := rfl

theorem reconfigured_cards (v : State) (g : StationConfig) : (v.reconfigured g).cards =
    v.cards.rebase v.clock.count (v.store.running.map StationConfig.periodDays) g.periodDays := rfl

section
variable {v : State} {g : StationConfig}

/-- The card table is rolled where the new period length has come to a later period (R116). -/
theorem reconfigured_rolled (h : v.cards.period < v.clock.count / (86400 * g.periodDays)) :
    v.cards.RolledTo (v.reconfigured g).cards v.clock.count (v.clock.count / (86400 * g.periodDays)) := by
  have h' : v.cards.period < computedPeriod v.clock.count g.periodDays := h
  rw [reconfigured_cards, CardTable.rebase, if_pos h']
  exact roll_rolledTo _ _ _

theorem reconfigured_cards_kept (h : v.clock.count / (86400 * g.periodDays) ≤ v.cards.period)
    (hd : v.store.running.map StationConfig.periodDays = some g.periodDays) : (v.reconfigured g).cards = v.cards := by
  have h' : ¬ v.cards.period < computedPeriod v.clock.count g.periodDays := Nat.not_lt.mpr h
  rw [reconfigured_cards, CardTable.rebase, if_neg h', if_pos hd]

theorem reconfigured_cards_rebased (h : v.clock.count / (86400 * g.periodDays) ≤ v.cards.period)
    (hd : v.store.running.map StationConfig.periodDays ≠ some g.periodDays) :
    (v.reconfigured g).cards = { v.cards with period := v.clock.count / (86400 * g.periodDays) } := by
  have h' : ¬ v.cards.period < computedPeriod v.clock.count g.periodDays := Nat.not_lt.mpr h
  rw [reconfigured_cards, CardTable.rebase, if_neg h', if_neg hd]
  rfl

end

theorem state_of_not_inHand {v : State} (h : v.inHand = false) (c : Nat) :
    ((v.containers[c]?).map Container.state).getD .serving ≠ .lifted := by
  rcases hk : v.containers[c]? with _ | k
  · decide
  · rcases notInHand h hk with hs | hs <;> simp [hs]

/-- Settles O28: the request by writer and check; the check's end by the image and the containers. -/
theorem applyConfiguration : Obligations.ApplyConfiguration := by
  refine ⟨fun s p tag h hv => ?_, fun s v l p code tag hp hc hst hv => ?_⟩
  · have open' := refusal_none (r := reqApplyConfiguration.row) (n := ([] : List Byte).length) (b := s.configured) rfl
      (portsNS_contains hv) (.inr rfl)
    refine ⟨fun hq => ?_, fun hw hc => ?_⟩
    · exact (arrive_reported h reqApplyConfiguration tag [] open'
        (bodyApplyConfiguration_busy (s := s.taken p 0x08 tag) [] hq) :)
    · exact arrive_awaiting h reqApplyConfiguration tag [] open'
        (bodyApplyConfiguration_check (s := s.taken p 0x08 tag) [] hw hc :) rfl rfl rfl
  · have hst' : ((s.atCheckEnd l).port p).state = .holding code tag := (moveLines_portState s l p).trans hst
    have hex := exec_applyCheckCompletion hp hc l
    have hl : (s.atCheckEnd l).lines = l := moveLines_lines s l
    subst hv
    refine ⟨s.settledMemory, if s.store.writes = [] then s.drawn else s.drawn + 1,
      fun a ha => readByte_tornMemory _ _ _ ha, fun hw => ⟨by rw [State.settledMemory, hw, tornMemory], if_pos hw⟩, ?_⟩
    refine ⟨fun hj => ?_, fun hj hh => ?_, fun g hj hh => ?_⟩
    · rw [hex, hj, endCheck_badImage hst']
      rfl
    · obtain ⟨g, hg⟩ := Option.ne_none_iff_exists'.mp hj
      rw [hex, hg, endCheck_busy hst' g ((inHand_iff _).mpr hh)]
      rfl
    · have hh' : (s.atCheckEnd l).inHand = false := by
        rw [← Bool.not_eq_true, inHand_iff]
        exact hh
      refine ⟨(s.atCheckEnd l).reconfigured g, by rw [hex, hj, endCheck_applied hst' g hh'], rfl,
        fun q => (reconfigured_port _ g q).trans (restarted_eq _ _), fun hper => ?_, fun hper hd => ?_, fun hper hd => ?_,
        ?_, ?_, fun c cfg hcfg => ?_, fun i cfg hcfg => ?_⟩
      · exact reconfigured_rolled hper
      · exact reconfigured_cards_kept hper hd
      · exact reconfigured_cards_rebased hper hd
      · simp [State.reconfigured, rebuiltContainers_length]
      · exact freshInlets_length ..
      · rw [reconfigured_container hcfg, rebuilt_due _ _ _ _ _ (state_of_not_inHand hh' c), hl]
        rfl
      · have hx := freshInlets_get l (s.atCheckEnd l).now 0 g.inlets i
        rw [hcfg, Option.map_some, Nat.zero_add] at hx
        exact ⟨freshInlet cfg (lidLevel l i cfg) (s.atCheckEnd l).now, by rw [reconfigured_inlets, hl, hx], rfl,
          freshInlet_lid _ _ _⟩

end Sys2Proof.Machine
end

section
/-! PROOFS. Numbers in bytes (R153, R169): what a field spells, the fields of a run of parts one after another, the bits of a
flag byte. -/

namespace Sys2Proof.Machine

/-! ## One number -/

@[simp] theorem be_length (k n : Nat) : (be k n).length = k := by
  induction k with
  | zero => rfl
  | succ k ih => rw [be, List.length_cons, ih]

theorem foldl_unbe (bs : List Byte) (a : Nat) :
    bs.foldl (fun acc b => acc * 256 + b.toNat) a = a * 256 ^ bs.length + unbe bs := by
  induction bs generalizing a with
  | nil => simp [unbe]
  | cons b bs ih =>
    rw [unbe, List.foldl_cons, List.foldl_cons, ih, ih (0 * 256 + b.toNat), List.length_cons, Nat.pow_succ']
    rw [Nat.zero_mul, Nat.zero_add, Nat.add_mul, Nat.mul_assoc, Nat.add_assoc]

theorem unbe_cons (b : Byte) (bs : List Byte) : unbe (b :: bs) = b.toNat * 256 ^ bs.length + unbe bs := by
  rw [unbe, List.foldl_cons, foldl_unbe, Nat.zero_mul, Nat.zero_add]

/-- The bytes of a number spell it, modulo what they can hold. -/
theorem unbe_be (k n : Nat) : unbe (be k n) = n % 256 ^ k := by
  induction k with
  | zero => simp [be, unbe, Nat.mod_one]
  | succ k ih =>
    rw [be, unbe_cons, ih, be_length, BitVec.toNat_ofNat, show (2 : Nat) ^ 8 = 256 from rfl,
      show 256 ^ (k + 1) = 256 ^ k * 256 from Nat.pow_succ .., Nat.mod_mul, Nat.mul_comm, Nat.add_comm]

/-! ## Parts one after another -/

/-- A field that starts past the first part. -/
theorem field_append_right (a r : List Byte) (off size : Nat) (h : a.length ≤ off) :
    field (a ++ r) off size = field r (off - a.length) size := by
  rw [field, field, List.drop_append, List.drop_eq_nil_of_le h, List.nil_append]

/-- A field within the first part. -/
theorem field_append_left (a r : List Byte) (off size : Nat) (h : off + size ≤ a.length) :
    field (a ++ r) off size = field a off size := by
  rw [field, field, List.drop_append_of_le_length (by omega), List.take_append_of_le_length (by simp; omega)]

@[simp] theorem field_be_skip (k n : Nat) (r : List Byte) (off size : Nat) (h : k ≤ off) :
    field (be k n ++ r) off size = field r (off - k) size := by
  rw [field_append_right _ _ _ _ (by rwa [be_length]), be_length]

@[simp] theorem field_be_here (k n : Nat) (r : List Byte) : field (be k n ++ r) 0 k = n % 256 ^ k := by
  rw [field_append_left _ _ _ _ (by simp), field, List.drop_zero, List.take_of_length_le (by simp), unbe_be]

@[simp] theorem field_be_last (k n : Nat) : field (be k n) 0 k = n % 256 ^ k := by
  simpa using field_be_here k n []

@[simp] theorem getD_be_skip (k n : Nat) (r : List Byte) (i : Nat) (d : Byte) (h : k ≤ i) :
    (be k n ++ r).getD i d = r.getD (i - k) d := by
  rw [List.getD_append_right _ _ _ _ (by rwa [be_length]), be_length]

@[simp] theorem getD_be_one (n : Nat) (r : List Byte) (d : Byte) : (be 1 n ++ r).getD 0 d = BitVec.ofNat 8 n := by
  simp [be]

/-- Two bytes side by side are a word. -/
@[simp] theorem getD_be_two (n : Nat) (r : List Byte) (d : Byte) :
    ((be 2 n ++ r).getD 0 d ++ (be 2 n ++ r).getD 1 d : BitVec (8 + 8)) = BitVec.ofNat 16 n := by
  have h : ((be 2 n ++ r).getD 0 d ++ (be 2 n ++ r).getD 1 d : BitVec (8 + 8)) =
      BitVec.ofNat 8 (n / 256) ++ BitVec.ofNat 8 n := by simp [be]
  rw [h]
  apply BitVec.eq_of_toNat_eq
  rw [BitVec.toNat_append, BitVec.toNat_ofNat, BitVec.toNat_ofNat, BitVec.toNat_ofNat,
    ← Nat.shiftLeft_add_eq_or_of_lt (Nat.mod_lt _ (by decide)), Nat.shiftLeft_eq]
  omega

/-! ## Signed numbers and flag bytes -/

@[simp] theorem beSigned_length (t : Int) : (beSigned t).length = 2 := be_length 2 _

@[simp] theorem field_beSigned_skip (t : Int) (r : List Byte) (off size : Nat) (h : 2 ≤ off) :
    field (beSigned t ++ r) off size = field r (off - 2) size := field_be_skip 2 _ r off size h

@[simp] theorem field_beSigned_here (t : Int) (r : List Byte) : (field (beSigned t ++ r) 0 2 : Int) = t % 65536 := by
  have h : (BitVec.ofInt 16 t).toNat < 256 ^ 2 := (BitVec.ofInt 16 t).isLt
  rw [beSigned, field_be_here, Nat.mod_eq_of_lt h, BitVec.toNat_ofInt]
  have : (0 : Int) ≤ t % 65536 := Int.emod_nonneg _ (by decide)
  simpa using this

/-- A flag byte has the given bits, bit 0 first. -/
theorem bitsByte_testBit (bs : List Bool) (n : Nat) : (bitsByte bs).testBit n = bs.getD n false := by
  induction bs generalizing n with
  | nil => simp [bitsByte]
  | cons b bs ih =>
    have hb : (if b then 1 else 0) + 2 * bitsByte bs = Nat.bit b (bitsByte bs) := by
      cases b <;> simp [Nat.bit_val, Nat.add_comm]
    rw [bitsByte, hb]
    cases n with
    | zero => simp
    | succ n => rw [Nat.testBit_bit_succ, ih, List.getD_cons_succ]

theorem flagByte_getLsbD (bs : List Bool) (n : Nat) (h : bs.length ≤ 8) :
    (BitVec.ofNat 8 (bitsByte bs)).getLsbD n = bs.getD n false := by
  rw [BitVec.getLsbD_ofNat, bitsByte_testBit]
  by_cases hn : n < 8
  · simp [hn]
  · rw [List.getD_eq_default _ _ (by omega), Bool.and_false]

end Sys2Proof.Machine
end

section
/-! PROOFS. The record layouts (R16, R65, R92, R94, R110, R149, R165, R169): O24. -/

namespace Sys2Proof.Machine

theorem markerCode_lt (b : Bool) : markerCode b % 256 = if b then 1 else 0 := by cases b <;> rfl

theorem byte_mod (b : Byte) : b.toNat % 256 = b.toNat := Nat.mod_eq_of_lt b.isLt

/-! ## Card entries -/

theorem cardBytes_length (k : Card) : (cardBytes k).length = 18 := by simp [cardBytes]

theorem cardBytes_fields (k : Card) :
    let b := cardBytes k
    field b 0 5 = k.number % 1099511627776 ∧ field b 5 2 = k.household % 65536 ∧
    [CardKind.resident, .temporary, .service][field b 7 1]? = some k.kind ∧
    field b 8 1 = (if k.blocked then 1 else 0) ∧ field b 9 1 = k.rights.toNat ∧ field b 10 1 = k.quota % 256 ∧
    field b 11 1 = k.used % 256 ∧ field b 12 2 = k.overflow % 65536 ∧ field b 14 4 = k.expiry.getD 0 % 4294967296 := by
  simp only [cardBytes, List.append_assoc]
  refine ⟨by simp, by simp, ?_, by simp [markerCode_lt], by simpa using k.rights.isLt, by simp, by simp, by simp, by simp⟩
  cases h : k.kind <;> simp [cardKindCode]

/-! ## Containers -/

theorem containerBytes_length (s : State) (c : Nat) (k : Container) : (containerBytes s c k).length = 34 := by
  unfold containerBytes
  dsimp only
  simp only [List.length_append, be_length, beSigned_length]

theorem containerBytes_fields (s : State) (c : Nat) (k : Container) :
    let b := containerBytes s c k
    let estimate := k.level.map fun l => min (l.volume + k.added) (s.capacity k)
    field b 0 1 = c % 256 ∧
    [ServiceState.serving, .claimed, .released, .lifted, .verifying, .suspended][field b 1 1]? = some k.state ∧
    (∀ n, (b.getD 2 0).getLsbD n = [k.seated, k.displaced, k.hot, k.full, k.residue,
      s.dueList.any fun e => decide (e.container = c), k.level.isSome, (k.level.map Level.assumed).getD false].getD n
        false) ∧
    (∀ n, (b.getD 3 0).getLsbD n = [k.lastTemp.isSome, (k.lastTemp.map LastTemp.clamped).getD false].getD n false) ∧
    [LevelStatus.noReading, .good, .unsure, .sensorFault][field b 4 1]? = some k.levelStatus ∧
    [TempStatus.none, .valid, .fault][field b 5 1]? = some k.tempStatus ∧
    [Stage.none, .firstQueued, .firstRunning, .awaitSecond, .secondQueued, .secondRunning][field b 6 1]? =
      some k.pair.stage ∧
    [none, some PairClass.scheduled, some .demand, some .verify][field b 7 1]? = some k.pair.cls ∧
    field b 8 2 = (k.level.map Level.height).getD 0 % 65536 ∧ field b 10 2 = (k.level.map Level.volume).getD 0 % 65536 ∧
    field b 12 2 = (k.level.map Level.perMille).getD 0 % 65536 ∧
    (field b 14 2 : Int) = (k.level.map Level.tHalf).getD 0 % 65536 ∧
    field b 16 4 = (k.level.map Level.time).getD 0 % 4294967296 ∧ field b 20 2 = k.added % 65536 ∧
    field b 22 2 = estimate.getD 0 % 65536 ∧
    field b 24 2 = (estimate.map fun e => e * 1000 / s.capacity k).getD 0 % 65536 ∧
    field b 26 2 = k.floorRef % 65536 ∧ (field b 28 2 : Int) = (k.lastTemp.map LastTemp.tHalf).getD 0 % 65536 ∧
    field b 30 2 = (k.lastTemp.map fun t => min ((s.now - t.time) / 1000) 65535).getD 0 ∧
    field b 32 1 = k.misses % 256 ∧ field b 33 1 = k.mismatches % 256 := by
  unfold containerBytes
  dsimp only
  simp only [List.append_assoc]
  refine ⟨by simp, ?_, fun n => ?_, fun n => ?_, ?_, ?_, ?_, ?_, ?_, ?_, ?_, ?_, ?_, by simp, ?_, ?_, by simp, by simp, ?_, by simp,
    by simp⟩
  · cases h : k.state <;> simp [serviceStateCode]
  · simp only [getD_be_skip, Nat.reduceLeDiff, Nat.reduceSub, getD_be_one]
    rw [flagByte_getLsbD _ _ (by simp), State.isDue]
    cases k.level <;> rfl
  · simp only [getD_be_skip, Nat.reduceLeDiff, Nat.reduceSub, getD_be_one]
    rw [flagByte_getLsbD _ _ (by simp)]
  · cases h : k.levelStatus <;> simp [levelStatusCode]
  · cases h : k.tempStatus <;> simp [tempStatusCode]
  · cases h : k.pair.stage <;> simp [stageCode]
  · rcases h : k.pair.cls with _ | cls
    · simp [classCode]
    · cases cls <;> simp [classCode]
  · cases k.level <;> simp
  · cases k.level <;> simp
  · cases k.level <;> simp
  · cases k.level <;> simp
  · cases k.level <;> simp
  · simp [Container.estimate]
  · cases h : k.level <;> simp [Container.estimatePerMille, Container.estimate, perMille, h]
  · cases k.lastTemp with
    | none => simp
    | some t => simp [saturate]

end Sys2Proof.Machine
end

section
/-! PROOFS. The layouts of the inlet, status and lift replies, of the lists and of the journal entry (R65, R92, R110, R149,
R165, R169): O24. -/

namespace Sys2Proof.Machine

/-! ## Inlets -/

theorem inletBytes_length (s : State) (i : Nat) (x : Inlet) : (inletBytes s i x).length = 23 := by
  unfold inletBytes
  simp only [List.length_append, be_length]

theorem inletBytes_fields {s : State} {i : Nat} {x : Inlet} (hx : s.inlets[i]? = some x) :
    let b := inletBytes s i x
    field b 0 1 = i % 256 ∧ field b 1 1 = x.cfg.container % 256 ∧ field b 2 1 = x.cfg.nominal % 256 ∧
    [InletState.locked, .unlocked, .inUse, .serviceOpen][field b 3 1]? = some x.state ∧
    (∀ n, (b.getD 4 0).getLsbD n = [decide (x.state ≠ .locked), x.lidOpen, x.stuck, x.runOut, x.window.isSome,
      (x.window.map WindowRecord.unverified).getD false].getD n false) ∧
    [none, some LidCause.window, some .service, some .forced, some .uncounted][field b 5 1]? =
      some (x.lid.map LidOpen.cause) ∧
    [none, some OpeningCause.card, some .anonymous, some .service][field b 6 1]? =
      some (x.window.map WindowRecord.cause) ∧
    field b 7 5 = (x.window.bind WindowRecord.card).getD 0 % 1099511627776 ∧
    field b 12 2 = (x.window.bind WindowRecord.household).getD 0 % 65536 ∧
    field b 14 2 = (match x.state with
      | .unlocked => (x.windowTimer.map fun t => (t - s.now) / 1000).getD 0
      | .serviceOpen => (x.serviceTimer.map fun t => (t - s.now) / 1000).getD 0
      | .locked | .inUse => 0) % 65536 ∧
    field b 16 5 = x.slot.getD 0 % 1099511627776 ∧ field b 21 1 = x.forced % 256 ∧ field b 22 1 = x.cycles % 256 := by
  unfold inletBytes
  simp only [List.append_assoc]
  refine ⟨by simp, by simp, by simp, ?_, fun n => ?_, ?_, ?_, by simp, by simp, ?_, by simp, by simp, by simp⟩
  · cases h : x.state <;> simp [inletStateCode]
  · simp only [getD_be_skip, Nat.reduceLeDiff, Nat.reduceSub, getD_be_one]
    rw [flagByte_getLsbD _ _ (by simp), State.inletLockReleased, hx]
  · rcases x.lid with _ | ⟨cause, _⟩
    · simp [lidCauseCode]
    · cases cause <;> simp [lidCauseCode]
  · rcases x.window with _ | ⟨cause, _, _, _⟩
    · simp [openingCauseCode]
    · cases cause <;> simp [openingCauseCode]
  · simp only [field_be_skip, Nat.reduceLeDiff, Nat.reduceSub, Nat.le_refl, Nat.sub_self, field_be_here]
    unfold inletSecondsLeft
    cases x.state <;> rfl

/-! ## The status -/

theorem statusBytes_length (s : State) (p : Port) : (statusBytes s p).length = 22 := by
  unfold statusBytes
  simp only [List.length_append, be_length]

/-- The kinds that a port's attention line goes by: its mask's, and HEAT (R162). -/
theorem enabled_getLsbD (b : PortBlock) (n : Nat) :
    (BitVec.ofNat 16 b.enabled.toNat).getLsbD n = (b.mask.getLsbD n || decide (n = 6)) := by
  have h : b.enabled.getLsbD n = (b.mask.getLsbD n || (decide (n < 12) && decide (6 = n))) := by
    rw [← getLsbD_ofNat_two_pow, ← BitVec.getLsbD_or]
    rfl
  rw [BitVec.getLsbD_ofNat, BitVec.testBit_toNat, h]
  by_cases hn : n < 12
  · have h16 : n < 16 := by omega
    simp [hn, h16, eq_comm]
  · have h6 : n ≠ 6 := by omega
    simp [hn, h6, BitVec.getLsbD_of_ge _ _ (Nat.le_of_not_lt hn)]

theorem statusBytes_fields (s : State) (p : Port) :
    let b := statusBytes s p
    field b 0 1 = (if s.store.running.isSome then 0 else 1) ∧
    field b 1 1 = (s.store.running.map fun g => g.version.toNat).getD 0 ∧
    field b 2 1 = s.containers.length % 256 ∧ field b 3 1 = s.inlets.length % 256 ∧
    field b 4 1 = (if s.cards.loaded then 1 else 0) ∧ field b 5 2 = s.cards.entries.length % 65536 ∧
    field b 7 1 = (if s.clock.set then 1 else 0) ∧ field b 8 2 = s.journal.entries.length % 65536 ∧
    field b 10 2 = s.journal.overflow % 65536 ∧ field b 12 2 = s.journal.lost % 65536 ∧
    field b 14 1 = (if s.lift.session.isSome then 1 else 0) ∧ field b 15 1 = s.dueList.length % 256 ∧
    field b 16 1 = (match s.store.writer with
      | none => 255
      | some .network => 0
      | some .vehicle => 1
      | some .service => 2) ∧
    field b 17 2 = (s.port p).flags.toNat ∧
    (∀ n, (b.getD 19 0 ++ b.getD 20 0).getLsbD n = ((s.port p).mask.getLsbD n || decide (n = 6))) ∧
    field b 21 1 = (s.port p).discarded % 256 := by
  unfold statusBytes
  dsimp only
  simp only [List.append_assoc]
  refine ⟨?_, ?_, by simp, by simp, by simp [markerCode_lt], by simp, by simp [markerCode_lt], by simp, by simp, by simp,
    by simp [markerCode_lt], by simp, ?_, ?_, fun n => ?_, by simp⟩
  · cases h : s.store.running <;> simp [markerCode_lt, State.configured, h]
  · cases s.store.running with
    | none => simp
    | some g => simpa using byte_mod g.version
  · rcases s.store.writer with _ | p
    · simp
    · cases p <;> simp [portCode]
  · have := (s.port p).flags.isLt
    simp
    omega
  · simp only [getD_be_skip, Nat.reduceLeDiff, Nat.reduceSub, getD_be_two]
    exact enabled_getLsbD _ n

/-! ## The journal -/

theorem journalEntryBytes_length (e : JournalEntry) : (journalEntryBytes e).length = 18 := by
  unfold journalEntryBytes
  cases e.body <;> simp [journalBodyBytes]

theorem journalEntryBytes_fields (e : JournalEntry) :
    let b := journalEntryBytes e
    field b 0 4 = e.seq % 4294967296 ∧ field b 6 4 = e.time % 4294967296 ∧ field b 10 1 = e.place % 256 ∧
    (∀ card household unverified, e.body = .deposit card household unverified →
      field b 4 1 = 1 ∧ (∀ n, (b.getD 5 0).getLsbD n = [e.clockUnset, unverified].getD n false) ∧
      field b 11 5 = card % 1099511627776 ∧ field b 16 2 = household.getD 0 % 65536) ∧
    (∀ seconds, e.body = .forced seconds →
      field b 4 1 = 2 ∧ (∀ n, (b.getD 5 0).getLsbD n = [e.clockUnset].getD n false) ∧
      field b 11 2 = seconds % 65536 ∧ field b 13 5 = 0) ∧
    (∀ vehicle before after attended verified, e.body = .emptying vehicle before after attended verified →
      field b 4 1 = 3 ∧ (∀ n, (b.getD 5 0).getLsbD n = [e.clockUnset, false, attended, verified].getD n false) ∧
      field b 11 2 = vehicle.getD 0 % 65536 ∧ field b 13 2 = before.getD 65535 % 65536 ∧
      field b 15 2 = after.getD 65535 % 65536 ∧ field b 17 1 = 0) := by
  unfold journalEntryBytes journalMarkers
  simp only [List.append_assoc]
  refine ⟨by simp, by simp, by simp, fun card household unverified h => ?_, fun secs h => ?_,
    fun vehicle before after attended verified h => ?_⟩ <;> simp only [h, journalKindCode, journalBodyBytes, List.append_assoc]
  · refine ⟨by simp, fun n => ?_, by simp, by simp⟩
    simp only [getD_be_skip, Nat.reduceLeDiff, Nat.reduceSub, getD_be_one]
    rw [flagByte_getLsbD _ _ (by simp)]
    rcases n with _ | _ | _ | _ | n <;> rfl
  · refine ⟨by simp, fun n => ?_, by simp, by simp⟩
    simp only [getD_be_skip, Nat.reduceLeDiff, Nat.reduceSub, getD_be_one]
    rw [flagByte_getLsbD _ _ (by simp)]
    rcases n with _ | _ | _ | _ | n <;> rfl
  · refine ⟨by simp, fun n => ?_, by simp, by simp, by simp, by simp⟩
    simp only [getD_be_skip, Nat.reduceLeDiff, Nat.reduceSub, getD_be_one]
    rw [flagByte_getLsbD _ _ (by simp)]

end Sys2Proof.Machine
end

section
/-! PROOFS. The replies that are lists of records, and the lift reply (R65, R110, R149, R169): O24. -/

namespace Sys2Proof.Machine

/-! ## Records of one size, one after another -/

theorem flatten_length {ls : List (List Byte)} {n : Nat} (h : ∀ l ∈ ls, l.length = n) :
    ls.flatten.length = n * ls.length := by
  induction ls with
  | nil => rfl
  | cons l ls ih =>
    rw [List.flatten_cons, List.length_append, h l (by simp), ih fun m hm => h m (by simp [hm]), List.length_cons]
    ring

/-- The record of number j begins after j records. -/
theorem flatten_drop {ls : List (List Byte)} {n j : Nat} {b : List Byte} (h : ∀ l ∈ ls, l.length = n)
    (hb : ls[j]? = some b) : ∃ r, ls.flatten.drop (n * j) = b ++ r := by
  induction ls generalizing j with
  | nil => cases hb
  | cons l ls ih =>
    have hl : l.length = n := h l (by simp)
    cases j with
    | zero =>
      cases hb
      exact ⟨ls.flatten, rfl⟩
    | succ j =>
      obtain ⟨r, hr⟩ := ih (fun m hm => h m (by simp [hm])) (by simpa using hb)
      refine ⟨r, ?_⟩
      rw [List.flatten_cons, Nat.mul_succ, Nat.add_comm, ← List.drop_drop, ← hl, List.drop_left, hl, hr]

theorem drop_be_one (n m : Nat) (r : List Byte) : (be 1 n ++ r).drop (1 + m) = r.drop m := by
  rw [← List.drop_drop, List.drop_left' (be_length 1 n)]

/-- The record of number j in a counted list. -/
theorem counted_drop {ls : List (List Byte)} {n j : Nat} {b : List Byte} (c : Nat) (h : ∀ l ∈ ls, l.length = n)
    (hb : ls[j]? = some b) : ∃ r, (be 1 c ++ ls.flatten).drop (1 + n * j) = b ++ r := by
  rw [drop_be_one]
  exact flatten_drop h hb

/-! ## The due list -/

theorem dueEntryBytes_length (s : State) (e : DueEntry) : (dueEntryBytes s e).length = 11 := by
  simp [dueEntryBytes]

theorem dueListBytes_length (s : State) : (dueListBytes s).length = 1 + 11 * s.dueList.length := by
  rw [dueListBytes, List.length_append, be_length, flatten_length (n := 11), List.length_map]
  intro l hl
  obtain ⟨e, _, rfl⟩ := List.mem_map.mp hl
  exact dueEntryBytes_length s e

theorem dueListBytes_fields (s : State) : field (dueListBytes s) 0 1 = s.dueList.length % 256 ∧
    (∀ j e, s.dueList[j]? = some e →
      let b := (dueListBytes s).drop (1 + 11 * j)
      field b 0 1 = e.container % 256 ∧ field b 1 4 = e.reached % 4294967296 ∧
      field b 5 1 = (if e.clockUnset then 1 else 0) ∧ field b 6 2 = e.perMille % 65536 ∧
      (∀ k, s.containers[e.container]? = some k →
        field b 8 2 = (k.level.map fun l =>
          min (l.volume + k.added) (s.capacity k) * 1000 / s.capacity k).getD 0 % 65536 ∧
        field b 10 1 = if k.full then 1 else 0)) := by
  refine ⟨by simp [dueListBytes], fun j e hj => ?_⟩
  obtain ⟨r, hr⟩ := counted_drop (n := 11) (j := j) (b := dueEntryBytes s e) s.dueList.length
    (ls := s.dueList.map (dueEntryBytes s)) (fun l hl => by
      obtain ⟨e, _, rfl⟩ := List.mem_map.mp hl
      exact dueEntryBytes_length s e) (by rw [List.getElem?_map, hj]; rfl)
  simp only [dueListBytes, hr, dueEntryBytes, List.append_assoc]
  refine ⟨by simp, by simp, by simp [markerCode_lt], by simp, fun k hk => ⟨?_, ?_⟩⟩
  · cases h : k.level <;> simp [hk, Container.estimatePerMille, Container.estimate, perMille, h]
  · simp [hk, markerCode_lt]

/-! ## The pending queries -/

/-- One item of the queries reply (R110). -/
def queryItem (s : State) (i : Nat) (q : CardQuery) : List Byte :=
  be 1 i ++ be 5 q.card ++ be 4 q.posted ++ be 1 (s.secondsLeft q.waitEnd)

/-- The item of an inlet that has a query. -/
def queryItemOf (s : State) (x : Inlet × Nat) : List Byte := (x.1.query.map (queryItem s x.2)).getD []

theorem queryItems_eq (s : State) (n : Nat) (xs : List Inlet) :
    queryItems s n xs = ((xs.zipIdx n).filter fun x => x.1.query.isSome).map (queryItemOf s) := by
  induction xs generalizing n with
  | nil => rfl
  | cons x xs ih =>
    rw [queryItems, ih, List.zipIdx_cons, List.filter_cons]
    cases h : x.query <;> simp [h, queryItemOf, queryItem]

theorem queryItems_lengths (s : State) (n : Nat) (xs : List Inlet) : ∀ l ∈ queryItems s n xs, l.length = 11 := by
  intro l hl
  rw [queryItems_eq] at hl
  obtain ⟨x, hx, rfl⟩ := List.mem_map.mp hl
  obtain ⟨q, hq⟩ := Option.isSome_iff_exists.mp (List.mem_filter.mp hx).2
  simp [queryItemOf, hq, queryItem]

theorem filter_zipIdx_length {α : Type} (p : α → Bool) (xs : List α) (n : Nat) :
    ((xs.zipIdx n).filter fun x => p x.1).length = (xs.filter p).length := by
  induction xs generalizing n with
  | nil => rfl
  | cons x xs ih =>
    rw [List.zipIdx_cons, List.filter_cons, List.filter_cons]
    split <;> simp [ih]

theorem queriesBytes_length (s : State) :
    (queriesBytes s).length = 1 + 11 * (s.inlets.filter fun x => x.query.isSome).length := by
  rw [queriesBytes, List.length_append, be_length, flatten_length (queryItems_lengths s 0 s.inlets), queryItems_eq,
    List.length_map, filter_zipIdx_length fun x : Inlet => x.query.isSome]

theorem queriesBytes_fields (s : State) :
    let asked := s.inlets.zipIdx.filter fun x => x.1.query.isSome
    field (queriesBytes s) 0 1 = asked.length % 256 ∧
    (∀ j x i q, asked[j]? = some (x, i) → x.query = some q →
      let b := (queriesBytes s).drop (1 + 11 * j)
      field b 0 1 = i % 256 ∧ field b 1 5 = q.card % 1099511627776 ∧ field b 6 4 = q.posted % 4294967296 ∧
      field b 10 1 = (q.waitEnd - s.now) / 1000 % 256) := by
  refine ⟨by simp [queriesBytes, queryItems_eq], fun j x i q hj hq => ?_⟩
  obtain ⟨r, hr⟩ := counted_drop (n := 11) (j := j) (b := queryItem s i q) (queryItems s 0 s.inlets).length
    (queryItems_lengths s 0 s.inlets) (by rw [queryItems_eq, List.getElem?_map, hj]; simp [queryItemOf, hq])
  simp only [queriesBytes, hr, queryItem, List.append_assoc]
  exact ⟨by simp, by simp, by simp, by simp [State.secondsLeft]⟩

/-! ## The lift -/

/-- The item of a VERIFYING container in the lift reply (R149). -/
def verifyingItem (x : Container × Nat) : List Byte :=
  be 1 x.2 ++ be 1 (x.1.pair.attempt.getD 0) ++ be 2 ((x.1.note.bind EmptyingNote.before).getD 0xFFFF) ++
    be 2 ((x.1.note.bind EmptyingNote.vehicle).getD 0) ++
    be 1 (markerCode ((x.1.note.bind EmptyingNote.attended).getD false))

theorem verifyingBytes_eq (n : Nat) (ks : List Container) :
    verifyingBytes n ks = ((ks.zipIdx n).filter fun x => decide (x.1.state = .verifying)).map verifyingItem := by
  induction ks generalizing n with
  | nil => rfl
  | cons k ks ih =>
    rw [verifyingBytes, ih, List.zipIdx_cons, List.filter_cons]
    by_cases h : k.state = .verifying
    · cases hn : k.note <;> simp [h, hn, verifyingItem]
    · simp [h]

theorem verifyingBytes_lengths (n : Nat) (ks : List Container) : ∀ l ∈ verifyingBytes n ks, l.length = 7 := by
  intro l hl
  rw [verifyingBytes_eq] at hl
  obtain ⟨x, _, rfl⟩ := List.mem_map.mp hl
  simp [verifyingItem]

@[simp] theorem liftContainerBytes_length (s : State) : (liftContainerBytes s).length = 6 := by
  unfold liftContainerBytes
  split <;> simp

theorem liftBytes_length (s : State) :
    (liftBytes s).length = 23 + 7 * (s.containers.filter fun k => decide (k.state = .verifying)).length := by
  have hv : (verifyingBytes 0 s.containers).flatten.length =
      7 * (s.containers.filter fun k => decide (k.state = .verifying)).length := by
    rw [flatten_length (verifyingBytes_lengths 0 s.containers), verifyingBytes_eq, List.length_map,
      filter_zipIdx_length fun k : Container => decide (k.state = .verifying)]
  unfold liftBytes
  dsimp only
  simp only [List.length_append, be_length, liftContainerBytes_length, hv]

/-- The set of inlets that hold the release off has a bit for each (R140, R149). -/
theorem holdOffBits_testBit (c : Nat) (xs : List Inlet) (n : Nat) : (holdOffBits c xs).testBit n =
    (xs[n]?).any fun y => decide (y.cfg.container = c ∧ (y.state ≠ .locked ∨ y.lidOpen = true)) := by
  induction xs generalizing n with
  | nil => simp [holdOffBits]
  | cons x xs ih =>
    have hb : ∀ b : Prop, [Decidable b] → (if b then 1 else 0) + 2 * holdOffBits c xs =
        Nat.bit (decide b) (holdOffBits c xs) := by
      intro b _
      by_cases h : b <;> simp [h, Nat.bit_val, Nat.add_comm]
    rw [holdOffBits, hb]
    cases n with
    | zero => simp [Inlet.holdsOff]
    | succ n => rw [Nat.testBit_bit_succ, ih, List.getElem?_cons_succ]

theorem field_drop (b : List Byte) (a off size : Nat) : field (b.drop a) off size = field b (a + off) size := by
  rw [field, field, List.drop_drop]

@[simp] theorem field_liftContainer_skip (s : State) (r : List Byte) (off size : Nat) (h : 6 ≤ off) :
    field (liftContainerBytes s ++ r) off size = field r (off - 6) size := by
  rw [field_append_right _ _ _ _ (by rwa [liftContainerBytes_length]), liftContainerBytes_length]

theorem liftContainerBytes_none {s : State} (h : ∀ k ∈ s.containers,
    decide (k.state = .claimed ∨ k.state = .released ∨ k.state = .lifted) = false) :
    liftContainerBytes s = be 1 0xFF ++ (be 1 0 ++ (be 2 0 ++ be 2 0)) := by
  have hn : s.liftContainer = none := by
    rw [State.liftContainer, findContainer_eq, List.findIdx?_eq_none_iff]
    exact h
  simp only [liftContainerBytes, hn, List.append_assoc]

theorem liftContainerBytes_some {s : State} {c : Nat} {k : Container} (hk : s.containers[c]? = some k)
    (hl : decide (k.state = .claimed ∨ k.state = .released ∨ k.state = .lifted) = true)
    (hf : ∀ (d : Nat) (m : Container), d < c → s.containers[d]? = some m →
      decide (m.state = .claimed ∨ m.state = .released ∨ m.state = .lifted) = false) :
    liftContainerBytes s = be 1 c ++ (be 1 (serviceStateCode k.state) ++ (be 2 (liftSecondsLeft s k.state) ++
      be 2 (if k.state = .claimed then holdOffBits c s.inlets else 0))) := by
  have hs : s.liftContainer = some c := by
    rw [State.liftContainer, findContainer_eq, List.findIdx?_eq_some_iff_getElem]
    obtain ⟨hlt, rfl⟩ := List.getElem?_eq_some_iff.mp hk
    refine ⟨hlt, hl, fun d hd => ?_⟩
    rw [hf d s.containers[d] hd (List.getElem?_eq_getElem _)]
    decide
  simp only [liftContainerBytes, hs, hk, Option.map_some, Option.getD_some, List.append_assoc]

/-- The items of the VERIFYING containers stand after 23 bytes (R149). -/
theorem liftBytes_drop {s : State} {j : Nat} {x : Container × Nat}
    (hj : (s.containers.zipIdx.filter fun x => decide (x.1.state = .verifying))[j]? = some x) :
    ∃ r, (liftBytes s).drop (23 + 7 * j) = verifyingItem x ++ r := by
  obtain ⟨head, hlen, hb⟩ : ∃ head : List Byte, head.length = 23 ∧
      liftBytes s = head ++ (verifyingBytes 0 s.containers).flatten := by
    unfold liftBytes
    exact ⟨_, by simp only [List.length_append, be_length, liftContainerBytes_length], rfl⟩
  rw [hb, ← List.drop_drop, List.drop_left' hlen]
  exact flatten_drop (verifyingBytes_lengths 0 s.containers) (by rw [verifyingBytes_eq, List.getElem?_map, hj]; rfl)

/-- The fields of the lift reply that stand whatever the containers are. -/
theorem liftBytes_fields (s : State) :
    let b := liftBytes s
    (∀ n, (b.getD 0 0).getLsbD n = [s.lift.session.isSome, s.lift.carrier, s.lift.last.isSome].getD n false) ∧
    field b 1 2 = (s.lift.session.map Session.vehicle).getD 0 % 65536 ∧
    field b 3 1 = (s.lift.session.map fun x => x.fractions.toNat).getD 0 ∧
    field b 4 4 = (s.lift.session.map Session.opened).getD 0 % 4294967296 ∧
    field b 8 1 = (s.lift.session.bind Session.claimed).getD 255 % 256 ∧
    field b 9 1 = (s.lift.carrierLoss.map fun t => (t - s.now) / 1000).getD 255 % 256 ∧
    field b 16 1 = (s.lift.last.map LiftResult.container).getD 0 % 256 ∧
    [none, some LiftEnding.lidTimeout, some .releaseTimeout, some .cancelled, some .carrierLost, some .hot,
      some .displaced, some .restart, some .verified, some .verifyFailed, some .verifyUnseated][field b 17 1]? =
        some (s.lift.last.map LiftResult.ending) ∧
    field b 18 4 = (s.lift.last.map LiftResult.time).getD 0 % 4294967296 ∧
    field b 22 1 = (s.containers.zipIdx.filter fun x => decide (x.1.state = .verifying)).length % 256 := by
  unfold liftBytes
  dsimp only
  simp only [List.append_assoc]
  refine ⟨fun n => ?_, by simp, ?_, by simp, by simp, ?_, by simp, ?_, by simp, ?_⟩
  · rw [getD_be_one, flagByte_getLsbD _ _ (by simp)]
  · cases s.lift.session with
    | none => simp
    | some x => simpa using byte_mod x.fractions
  · cases s.lift.carrierLoss <;> simp [State.secondsLeft]
  · rcases s.lift.last with _ | ⟨_, e, _⟩
    · simp
    · cases e <;> simp [liftEndingCode]
  · simp [verifyingBytes_eq]

end Sys2Proof.Machine
end

section
/-! PROOFS. The container of the lift reply, and the record layouts as one statement (R149, R169): O24. -/

namespace Sys2Proof.Machine

theorem getD_drop (b : List Byte) (a i : Nat) (d : Byte) : (b.drop a).getD i d = b.getD (a + i) d := by
  rw [List.getD_eq_getElem?_getD, List.getElem?_drop, List.getD_eq_getElem?_getD]

theorem drop_be_skip (k n : Nat) (r : List Byte) (off : Nat) (h : k ≤ off) : (be k n ++ r).drop off = r.drop (off - k) := by
  rw [List.drop_append, be_length, List.drop_eq_nil_of_le (by rwa [be_length]), List.nil_append]

/-- The six bytes of the container being lifted stand after ten (R149). -/
theorem liftBytes_drop_ten (s : State) : ∃ r, (liftBytes s).drop 10 = liftContainerBytes s ++ r := by
  unfold liftBytes
  simp only [List.append_assoc, drop_be_skip, Nat.reduceLeDiff, Nat.reduceSub, Nat.le_refl, Nat.sub_self, List.drop_zero]
  exact ⟨_, rfl⟩

theorem liftBytes_noContainer {s : State} (h : ∀ k ∈ s.containers,
    decide (k.state = .claimed ∨ k.state = .released ∨ k.state = .lifted) = false) :
    field (liftBytes s) 10 1 = 255 ∧ field (liftBytes s) 11 1 = 0 ∧ field (liftBytes s) 12 2 = 0 ∧
      field (liftBytes s) 14 2 = 0 := by
  obtain ⟨r, hr⟩ := liftBytes_drop_ten s
  have at' : ∀ o size, field (liftBytes s) (10 + o) size = field (liftContainerBytes s ++ r) o size := fun o size => by
    rw [← field_drop, hr]
  rw [liftContainerBytes_none h] at at'
  simp only [List.append_assoc] at at'
  exact ⟨by simpa using at' 0 1, by simpa using at' 1 1, by simpa using at' 2 2, by simpa using at' 4 2⟩

theorem liftBytes_container {s : State} {c : Nat} {k : Container} (hk : s.containers[c]? = some k)
    (hl : decide (k.state = .claimed ∨ k.state = .released ∨ k.state = .lifted) = true)
    (hf : ∀ (d : Nat) (m : Container), d < c → s.containers[d]? = some m →
      decide (m.state = .claimed ∨ m.state = .released ∨ m.state = .lifted) = false) :
    field (liftBytes s) 10 1 = c % 256 ∧
    [ServiceState.serving, .claimed, .released, .lifted][field (liftBytes s) 11 1]? = some k.state ∧
    field (liftBytes s) 12 2 = liftSecondsLeft s k.state % 65536 ∧
    (∀ n, n < 16 → ((liftBytes s).getD 14 0 ++ (liftBytes s).getD 15 0).getLsbD n =
      (decide (k.state = .claimed) && (s.inlets[n]?).any fun y =>
        decide (y.cfg.container = c ∧ (y.state ≠ .locked ∨ y.lidOpen = true)))) := by
  obtain ⟨r, hr⟩ := liftBytes_drop_ten s
  have at' : ∀ o size, field (liftBytes s) (10 + o) size = field (liftContainerBytes s ++ r) o size := fun o size => by
    rw [← field_drop, hr]
  have byte' : ∀ i, (liftBytes s).getD (10 + i) 0 = (liftContainerBytes s ++ r).getD i 0 := fun i => by
    rw [← getD_drop, hr]
  rw [liftContainerBytes_some hk hl hf] at at' byte'
  simp only [List.append_assoc] at at' byte'
  refine ⟨by simpa using at' 0 1, ?_, by simpa using at' 2 2, fun n hn => ?_⟩
  · have hcode : field (liftBytes s) 11 1 = serviceStateCode k.state % 256 := by simpa using at' 1 1
    rw [hcode]
    cases h : k.state <;> simp_all [serviceStateCode]
  · have hword : ((liftBytes s).getD 14 0 ++ (liftBytes s).getD 15 0 : BitVec (8 + 8)) =
        BitVec.ofNat 16 (if k.state = .claimed then holdOffBits c s.inlets else 0) := by
      rw [byte' 4, byte' 5]
      simp only [getD_be_skip, Nat.reduceLeDiff, Nat.reduceSub, getD_be_two]
    rw [hword, BitVec.getLsbD_ofNat]
    by_cases hc : k.state = .claimed
    · simp [hc, hn, holdOffBits_testBit]
    · simp [hc]

theorem liftBytes_items (s : State) :
    ∀ j k c, (s.containers.zipIdx.filter fun x => decide (x.1.state = .verifying))[j]? = some (k, c) →
      field (liftBytes s) (23 + 7 * j) 1 = c % 256 ∧ field (liftBytes s) (24 + 7 * j) 1 = k.pair.attempt.getD 0 % 256 ∧
      field (liftBytes s) (25 + 7 * j) 2 = (k.note.bind EmptyingNote.before).getD 65535 % 65536 ∧
      field (liftBytes s) (27 + 7 * j) 2 = (k.note.bind EmptyingNote.vehicle).getD 0 % 65536 ∧
      field (liftBytes s) (29 + 7 * j) 1 = if (k.note.bind EmptyingNote.attended).getD false then 1 else 0 := by
  intro j k c hj
  obtain ⟨r, hr⟩ := liftBytes_drop hj
  have at' : ∀ o size, field (liftBytes s) (23 + 7 * j + o) size = field (verifyingItem (k, c) ++ r) o size :=
    fun o size => by rw [← field_drop, hr]
  simp only [verifyingItem, List.append_assoc] at at'
  rw [show 24 + 7 * j = 23 + 7 * j + 1 by omega, show 25 + 7 * j = 23 + 7 * j + 2 by omega,
    show 27 + 7 * j = 23 + 7 * j + 4 by omega, show 29 + 7 * j = 23 + 7 * j + 6 by omega, at', at', at', at']
  exact ⟨by simpa using at' 0 1, by simp, by simp, by simp, by simp [markerCode_lt]⟩

/-- Settles O24: each record is its parts one after another. -/
theorem recordLayouts : Obligations.RecordLayouts := by
  refine ⟨⟨containerBytes_length, inletBytes_length, statusBytes_length, cardBytes_length, journalEntryBytes_length,
    liftBytes_length, dueListBytes_length, queriesBytes_length⟩, containerBytes_fields, fun s i x hx => inletBytes_fields hx,
    fun s => ?_, statusBytes_fields, dueListBytes_fields, queriesBytes_fields, journalEntryBytes_fields, cardBytes_fields⟩
  obtain ⟨hflags, hvehicle, hfractions, hopened, hclaimed, hloss, hlast, hending, htime, hcount⟩ := liftBytes_fields s
  refine ⟨hflags, hvehicle, hfractions, hopened, hclaimed, hloss, liftBytes_noContainer, fun c k hk hl hf => ?_, hlast,
    hending, htime, hcount, liftBytes_items s⟩
  obtain ⟨hnumber, hstate, hseconds, hbits⟩ := liftBytes_container hk hl hf
  refine ⟨hnumber, hstate, hseconds.trans ?_, hbits⟩
  cases k.state <;> rfl

end Sys2Proof.Machine
end

section
/-! PROOFS. Write Image Block, its completion and the writer's idle expiry (R177): O27. -/

namespace Sys2Proof.Machine

/-! ## The bytes of a run -/

/-- A run of bytes inside a memory whose addresses rise stands as it was written, and nothing else changes. -/
theorem readByte_writeBytes {m : List Host.Cell} (a : Nat) (bs : List Byte) (h : m.Pairwise fun x y => x.1 < y.1) (b : Nat) :
    readByte (writeBytes m a bs) b = if a ≤ b ∧ b < a + bs.length then bs.getD (b - a) 0 else readByte m b := by
  induction bs generalizing m a with
  | nil => rw [if_neg (by simp)]; rfl
  | cons v bs ih =>
    rw [writeBytes, ih _ (writeByte_ascending a v h), List.length_cons]
    by_cases hb : b = a
    · subst hb
      rw [if_neg (by omega), if_pos (by omega), readByte_writeByte_same b v h, Nat.sub_self, List.getD_cons_zero]
    · rw [readByte_writeByte_other m v hb]
      by_cases hin : a + 1 ≤ b ∧ b < a + 1 + bs.length
      · rw [if_pos hin, if_pos (by omega), show b - a = b - (a + 1) + 1 by omega, List.getD_cons_succ]
      · rw [if_neg hin, if_neg (by omega)]

/-! ## The request -/

theorem field_pair (hi lo : Byte) (data : List Byte) : field (hi :: lo :: data) 0 2 = (hi ++ lo).toNat := by
  have h : (hi ++ lo).toNat = hi.toNat * 256 + lo.toNat := by
    rw [BitVec.toNat_append, ← Nat.shiftLeft_add_eq_or_of_lt lo.isLt, Nat.shiftLeft_eq]
  rw [h, field, List.drop_zero, List.take_succ_cons, List.take_succ_cons, List.take_zero, unbe_cons, unbe_cons]
  simp [unbe]

section
variable {s : State} {p : Port} {hi lo : Byte} {data : List Byte}

theorem bodyWriteImageBlock_outOfRange (h : 4096 < (hi ++ lo).toNat + data.length) :
    bodyWriteImageBlock p (hi :: lo :: data) s = (s, .reply .outOfRange []) := by
  have h' : memorySize < field (hi :: lo :: data) 0 2 + ((hi :: lo :: data).drop 2).length := by
    rw [field_pair]
    exact h
  simp only [bodyWriteImageBlock, if_pos h', refuse]

theorem bodyWriteImageBlock_busy (h : (hi ++ lo).toNat + data.length ≤ 4096)
    (hb : s.store.check ≠ none ∨ ∃ q, s.store.writer = some q ∧ q ≠ p) :
    bodyWriteImageBlock p (hi :: lo :: data) s = (s, .reply .busy []) := by
  have h' : ¬ memorySize < field (hi :: lo :: data) 0 2 + ((hi :: lo :: data).drop 2).length := by
    rw [field_pair]
    exact Nat.not_lt.mpr h
  simp only [bodyWriteImageBlock, if_neg h', refuse]
  by_cases hc : s.store.check.isSome = true
  · rw [if_pos hc]
  · obtain ⟨q, hq, hne⟩ := hb.resolve_left (by simpa using hc)
    rw [if_neg hc, if_pos (by simp [hq, hne])]

/-- The write begins, and the writer's 60 s (R177). -/
theorem bodyWriteImageBlock_begins (h : (hi ++ lo).toNat + data.length ≤ 4096) (hc : s.store.check = none)
    (hw : s.store.writer = none ∨ s.store.writer = some p) :
    bodyWriteImageBlock p (hi :: lo :: data) s = ({ s with
      store := { s.store with
        writer := some p, writerIdle := some (s.now + 60000)
        writes := s.store.writes ++ [BlockWrite.mk (hi ++ lo).toNat data (some p)] } }, .later) := by
  have h' : ¬ memorySize < field (hi :: lo :: data) 0 2 + ((hi :: lo :: data).drop 2).length := by
    rw [field_pair]
    exact Nat.not_lt.mpr h
  have hw' : ¬ (s.store.writer.any fun w => decide (w ≠ p)) = true := by rcases hw with hw | hw <;> simp [hw]
  simp only [bodyWriteImageBlock, if_neg h']
  rw [if_neg (by simp [hc]), if_neg hw', field_pair]
  rfl

end

/-- The request, by where its bytes would end and by who writes (R177). -/
theorem writeImageBlock_request (s : State) (p : Port) (tag hi lo : Byte) (data : List Byte) (h : s.listening p = true)
    (hv : p ≠ .vehicle) (h1 : 1 ≤ data.length) (h2 : data.length ≤ 244) :
    (4096 < (hi ++ lo).toNat + data.length →
      exec (.writeImageBlock p tag (hi :: lo :: data)) s = .next ((s.replied p 0x07 tag 0x12 []).judgeIdle)) ∧
    ((hi ++ lo).toNat + data.length ≤ 4096 →
      (s.store.check ≠ none ∨ ∃ q, s.store.writer = some q ∧ q ≠ p) →
      exec (.writeImageBlock p tag (hi :: lo :: data)) s = .next ((s.replied p 0x07 tag 0x20 []).judgeIdle)) ∧
    ((hi ++ lo).toNat + data.length ≤ 4096 → s.store.check = none →
      (s.store.writer = none ∨ s.store.writer = some p) →
      exec (.writeImageBlock p tag (hi :: lo :: data)) s = .next (({ s with
        store := { s.store with
          writer := some p, writerIdle := some (s.now + 60000)
          writes := s.store.writes ++ [BlockWrite.mk (hi ++ lo).toNat data (some p)] } }.awaiting p 0x07 tag).judgeIdle)) := by
  have hl : reqWriteImageBlock.row.allows (hi :: lo :: data).length = true := by
    simp [reqWriteImageBlock, IndexRow.allows]
    omega
  have open' := refusal_none (b := s.configured) hl (portsNS_contains hv) (.inr rfl)
  refine ⟨fun ho => ?_, fun ho hb => ?_, fun ho hc hw => ?_⟩
  · exact (arrive_reported h reqWriteImageBlock tag _ open'
      (bodyWriteImageBlock_outOfRange (s := s.taken p 0x07 tag) (p := p) ho) :)
  · exact (arrive_reported h reqWriteImageBlock tag _ open'
      (bodyWriteImageBlock_busy (s := s.taken p 0x07 tag) ho hb) :)
  · exact arrive_awaiting h reqWriteImageBlock tag _ open'
      (bodyWriteImageBlock_begins (s := s.taken p 0x07 tag) ho hc hw :) rfl rfl rfl

/-! ## The completion and the idle expiry -/

/-- The state in which the oldest write under way has completed (R177). -/
def State.written (s : State) (w : BlockWrite) (ws : List BlockWrite) : State :=
  { s with store := { s.store with memory := writeBytes s.store.memory w.offset w.data, writes := ws } }

theorem completeWrite_noPort {s : State} {w : BlockWrite} {ws : List BlockWrite} (hw : s.store.writes = w :: ws)
    (hp : w.port = none) : s.completeWrite = s.written w ws := by
  simp only [State.completeWrite, hw, hp]
  rfl

theorem completeWrite_port {s : State} {w : BlockWrite} {ws : List BlockWrite} {p : Port} {code tag : Byte}
    (hw : s.store.writes = w :: ws) (hp : w.port = some p) (hh : (s.port p).state = .holding code tag) :
    s.completeWrite = (s.written w ws).updPort p fun b => { b with state := .replying (replyFrame code tag 0x00 []) } := by
  simp only [State.completeWrite, hw, hp, hh]
  rfl

theorem writeCompletion_stores (s : State) (w : BlockWrite) (ws : List BlockWrite) (hp : s.power = .running)
    (hs : s.store.Sound) (hw : s.store.writes = w :: ws) :
    ∃ m : List Host.Cell,
      (∀ a, readByte m a =
        if w.offset ≤ a ∧ a < w.offset + w.data.length then w.data.getD (a - w.offset) 0
        else readByte s.store.memory a) ∧
      (∀ (p : Port) (code tag : Byte), w.port = some p → (s.port p).state = .holding code tag →
        exec .writeCompletion s = .next ((({ s with store := { s.store with memory := m, writes := ws } }.updPort p
          fun b => { b with state := .replying (replyFrame code tag 0x00 []) })).judgeIdle)) ∧
      (w.port = none →
        exec .writeCompletion s = .next ({ s with store := { s.store with memory := m, writes := ws } }.judgeIdle)) := by
  have hex : exec .writeCompletion s = .next s.completeWrite.judgeIdle := if_pos hp
  refine ⟨writeBytes s.store.memory w.offset w.data,
    readByte_writeBytes _ _ ((memoryWf_iff _).mp hs.memory).1, fun p code tag hport hh => ?_, fun hport => ?_⟩
  · rw [hex, completeWrite_port hw hport hh]
    rfl
  · rw [hex, completeWrite_noPort hw hport]
    rfl

theorem writerIdle_expires (s : State) (t : Nat) (hp : s.power = .running) (ht : s.store.writerIdle = some t) :
    exec .writerIdleExpiry s = .next ({ s with
      now := max s.now t, store := { s.store with writer := none, writerIdle := none } }.judgeIdle) := by
  refine (if_pos hp).trans ?_
  dsimp only
  rw [ht]
  rfl

end Sys2Proof.Machine
end

section
/-! PROOFS. The parts of an image: each run of blocks by its places, and each block's bytes as the memory holds them (R173). -/

namespace Sys2Proof.Machine

/-! ## Bytes of the memory -/

theorem readBytes_length (m : List Host.Cell) (a n : Nat) : (readBytes m a n).length = n := by
  induction n generalizing a with
  | zero => rfl
  | succ n ih => rw [readBytes, List.length_cons, ih]

theorem readBytes_getD (m : List Host.Cell) (a n i : Nat) (h : i < n) : (readBytes m a n).getD i 0 = readByte m (a + i) := by
  induction n generalizing a i with
  | zero => omega
  | succ n ih =>
    cases i with
    | zero => rfl
    | succ i => rw [readBytes, List.getD_cons_succ, ih _ _ (by omega), show a + 1 + i = a + (i + 1) by omega]

theorem field_one (bs : List Byte) (o : Nat) : field bs o 1 = (bs.getD o 0).toNat := by
  rw [field]
  rcases h : bs.drop o with _ | ⟨b, r⟩
  · have : bs.length ≤ o := List.drop_eq_nil_iff.mp h
    rw [List.getD_eq_default _ _ this]
    rfl
  · have hb : bs.getD o 0 = b := by
      have := getD_drop bs o 0 0
      rw [h] at this
      exact this.symm
    rw [hb]
    simp [unbe]

theorem field_two (bs : List Byte) (o : Nat) (h : o + 1 < bs.length) :
    field bs o 2 = (bs.getD o 0).toNat * 256 + (bs.getD (o + 1) 0).toNat := by
  have h1 := getD_drop bs o 0 0
  have h2 := getD_drop bs o 1 0
  rw [field]
  rcases hd : bs.drop o with _ | ⟨b, _ | ⟨c, r⟩⟩
  · have : bs.length ≤ o := List.drop_eq_nil_iff.mp hd
    omega
  · have := congrArg List.length hd
    simp at this
    omega
  · rw [hd] at h1 h2
    rw [← h2, ← Nat.add_zero o, ← h1]
    simp [unbe]

/-- A field within the first bytes of a run. -/
theorem field_take (bs : List Byte) (n o size : Nat) (h : o + size ≤ n) : field (bs.take n) o size = field bs o size := by
  rw [field, field, List.drop_take, List.take_take, Nat.min_eq_left (by omega)]

section
variable {m : List Host.Cell} {len : Nat}

theorem image_one {b o : Nat} (h : b + o < len) : field ((readBytes m 0 len).drop b) o 1 = byteAt m (b + o) := by
  rw [field_one, getD_drop, readBytes_getD _ _ _ _ h, Nat.zero_add, byteAt]

theorem image_two {b o : Nat} (h : b + o + 1 < len) : field ((readBytes m 0 len).drop b) o 2 = pairAt m (b + o) := by
  rw [field_two _ _ (by rw [List.length_drop, readBytes_length]; omega), getD_drop, getD_drop,
    readBytes_getD _ _ _ _ (by omega), readBytes_getD _ _ _ _ (by omega), Nat.zero_add, Nat.zero_add, pairAt, byteAt, byteAt,
    Nat.add_assoc]

end

/-! ## Runs of blocks -/

theorem containerBlocks_iff (n : Nat) (bs : List Byte) (ks : List ContainerSettings) :
    containerBlocks n bs = some ks ↔
      ks.length = n ∧ ∀ c k, ks[c]? = some k → containerBlock ((bs.drop (16 * c)).take 16) = some k := by
  induction n generalizing bs ks with
  | zero =>
    rw [containerBlocks, Option.some.injEq, List.length_eq_zero_iff]
    exact ⟨fun h => ⟨h.symm, fun c k hk => by simp [← h] at hk⟩, fun h => h.1.symm⟩
  | succ n ih =>
    have tail : ∀ (ks : List ContainerSettings), (∀ c k, ks[c]? = some k →
        containerBlock (((bs.drop 16).drop (16 * c)).take 16) = some k) ↔
        ∀ c k, ks[c]? = some k → containerBlock ((bs.drop (16 * (c + 1))).take 16) = some k := by
      intro ks
      simp only [List.drop_drop, Nat.mul_succ, Nat.add_comm]
    rw [containerBlocks]
    constructor
    · intro h
      split at h
      · next k ks' hk hks =>
        cases h
        obtain ⟨hl, hg⟩ := (ih _ _).mp hks
        refine ⟨by rw [List.length_cons, hl], fun c x hx => ?_⟩
        cases c with
        | zero =>
          cases hx
          exact hk
        | succ c => exact (tail ks').mp hg c x hx
      · cases h
    · rintro ⟨hl, hg⟩
      rcases ks with _ | ⟨k, ks⟩
      · cases hl
      · have hk := hg 0 k rfl
        have hks := (ih (bs.drop 16) ks).mpr ⟨by simpa using hl, (tail ks).mpr fun c x hx => hg (c + 1) x hx⟩
        rw [Nat.mul_zero, List.drop_zero] at hk
        rw [hk, hks]

/-- A run of n blocks of one size, each read by itself. -/
theorem blocks_get {α : Type} (f : List Byte → α) (size : Nat) (run : Nat → List Byte → List α)
    (h0 : ∀ bs, run 0 bs = []) (hs : ∀ n bs, run (n + 1) bs = f bs :: run n (bs.drop size)) (n : Nat) (bs : List Byte)
    (i : Nat) : (run n bs)[i]? = if i < n then some (f (bs.drop (size * i))) else none := by
  induction n generalizing bs i with
  | zero => simp [h0]
  | succ n ih =>
    rw [hs]
    cases i with
    | zero => simp
    | succ i =>
      rw [List.getElem?_cons_succ, ih, List.drop_drop, Nat.mul_succ, Nat.add_comm size]
      simp

theorem inletBlocks_get (n : Nat) (bs : List Byte) (i : Nat) :
    (inletBlocks n bs)[i]? = if i < n then some (inletBlock ((bs.drop (8 * i)).take 8)) else none :=
  blocks_get (fun bs => inletBlock (bs.take 8)) 8 inletBlocks (fun _ => rfl) (fun _ _ => rfl) n bs i

theorem thermistorPoints_get (n : Nat) (bs : List Byte) (i : Nat) : (thermistorPoints n bs)[i]? =
    if i < n then some (field (bs.drop (4 * i)) 0 2,
      clampInt (-80) 160 (unbeSigned (((bs.drop (4 * i)).drop 2).take 2))) else none :=
  blocks_get (fun bs => (field bs 0 2, clampInt (-80) 160 (unbeSigned ((bs.drop 2).take 2)))) 4 thermistorPoints
    (fun _ => rfl) (fun _ _ => rfl) n bs i

theorem shapePoints_get (n : Nat) (bs : List Byte) (i : Nat) : (shapePoints n bs)[i]? =
    if i < n then some (field (bs.drop (4 * i)) 0 2, field (bs.drop (4 * i)) 2 2) else none :=
  blocks_get (fun bs => (field bs 0 2, field bs 2 2)) 4 shapePoints (fun _ => rfl) (fun _ _ => rfl) n bs i

theorem vehicleEntries_get (n : Nat) (bs : List Byte) (i : Nat) : (vehicleEntries n bs)[i]? =
    if i < n then some ⟨field (bs.drop (3 * i)) 0 2, BitVec.ofNat 8 (field (bs.drop (3 * i)) 2 1)⟩ else none :=
  blocks_get (fun bs => (⟨field bs 0 2, BitVec.ofNat 8 (field bs 2 1)⟩ : Vehicle)) 3 vehicleEntries (fun _ => rfl)
    (fun _ _ => rfl) n bs i

/-- A list given by its places has them all. -/
theorem length_of_get {α : Type} {xs : List α} {n : Nat} {f : Nat → α}
    (h : ∀ i : Nat, xs[i]? = if i < n then some (f i) else none) : xs.length = n := by
  apply Nat.le_antisymm
  · rw [← List.getElem?_eq_none_iff, h, if_neg (Nat.lt_irrefl n)]
  · rcases Nat.eq_zero_or_pos n with rfl | hn
    · exact Nat.zero_le _
    · have := h (n - 1)
      rw [if_pos (by omega)] at this
      have := (List.getElem?_eq_some_iff.mp this).1
      omega

/-- A list is the one given by its places. -/
theorem eq_places_iff {α : Type} {xs ys : List α} {n : Nat} {f : Nat → α} {P : Nat → α → Prop}
    (hy : ∀ i : Nat, ys[i]? = if i < n then some (f i) else none) (hf : ∀ i x, i < n → (x = f i ↔ P i x)) :
    xs = ys ↔ xs.length = n ∧ ∀ i x, xs[i]? = some x → P i x := by
  constructor
  · rintro rfl
    refine ⟨length_of_get hy, fun i x hx => ?_⟩
    rw [hy] at hx
    split at hx
    · next hi => exact (hf i x hi).mp (Option.some.inj hx).symm
    · cases hx
  · rintro ⟨hl, hx⟩
    apply List.ext_getElem?
    intro i
    rw [hy]
    split
    · next hi =>
      have hget := List.getElem?_eq_getElem (hl ▸ hi)
      rw [hget, (hf i _ hi).mpr (hx i _ hget)]
    · next hi => rw [List.getElem?_eq_none (by omega)]

/-! ## Shape tables -/

/-- The bytes that shape tables take (R173). -/
def tablesSize (ts : List (List (Nat × Nat))) : Nat := (ts.map fun t => 1 + 4 * t.length).sum

theorem shapePoints_length (n : Nat) (bs : List Byte) : (shapePoints n bs).length = n := length_of_get (shapePoints_get n bs)

theorem shapeTables_iff (n : Nat) (bs : List Byte) (ts : List (List (Nat × Nat))) (rest : List Byte) :
    shapeTables n bs = some (ts, rest) ↔ ts.length = n ∧ rest = bs.drop (tablesSize ts) ∧
      ∀ j t, ts[j]? = some t → 2 ≤ t.length ∧ t.length ≤ 12 ∧
        t.length = field (bs.drop (tablesSize (ts.take j))) 0 1 ∧
        t = shapePoints t.length ((bs.drop (tablesSize (ts.take j))).drop 1) := by
  induction n generalizing bs ts rest with
  | zero =>
    rw [shapeTables, Option.some.injEq, Prod.mk.injEq, List.length_eq_zero_iff]
    constructor
    · rintro ⟨rfl, rfl⟩
      exact ⟨rfl, rfl, fun j t h => by simp at h⟩
    · rintro ⟨rfl, rfl, _⟩
      exact ⟨rfl, rfl⟩
  | succ n ih =>
    have size_cons : ∀ t ts, tablesSize (t :: ts) = 1 + 4 * t.length + tablesSize ts := fun t ts => by simp [tablesSize]
    rw [shapeTables]
    constructor
    · intro h
      split at h
      · cases h
      · next hp =>
        split at h
        · next ts' rest' hts =>
          cases h
          obtain ⟨hl, hr, hg⟩ := (ih _ _ _).mp hts
          have hlen := shapePoints_length (field bs 0 1) (bs.drop 1)
          refine ⟨by rw [List.length_cons, hl], by rw [hr, size_cons, hlen, List.drop_drop], fun j t ht => ?_⟩
          cases j with
          | zero =>
            cases ht
            rw [hlen]
            exact ⟨by omega, by omega, rfl, rfl⟩
          | succ j =>
            rw [List.take_succ_cons, size_cons, hlen, ← List.drop_drop]
            exact hg j t ht
        · cases h
    · rintro ⟨hl, hr, hg⟩
      rcases ts with _ | ⟨t, ts⟩
      · cases hl
      · obtain ⟨h2, h12, hf, ht⟩ := hg 0 t rfl
        rw [List.take_zero] at hf ht
        have hb : bs.drop (tablesSize []) = bs := List.drop_zero
        rw [hb] at hf ht
        have htail := (ih (bs.drop (1 + 4 * t.length)) ts rest).mpr ⟨by simpa using hl,
          by rw [hr, size_cons, List.drop_drop], fun j x hx => by
            have := hg (j + 1) x hx
            rwa [List.take_succ_cons, size_cons, ← List.drop_drop] at this⟩
        rw [← hf, if_neg (by omega), htail, ← ht]

/-! ## Bound inlets -/

theorem withBound_get (xs : List InletSettings) (n : Nat) (ks : List ContainerSettings) (c : Nat) :
    (withBound xs n ks)[c]? = (ks[c]?).map fun k => { k with bound := boundInlets (n + c) 0 xs } := by
  induction ks generalizing n c with
  | nil => simp [withBound]
  | cons k ks ih =>
    cases c with
    | zero => simp [withBound]
    | succ c => simp [withBound, ih, Nat.add_assoc, Nat.add_comm 1 c]

theorem withBound_length (xs : List InletSettings) (n : Nat) (ks : List ContainerSettings) :
    (withBound xs n ks).length = ks.length := by
  induction ks generalizing n with
  | nil => rfl
  | cons k ks ih => rw [withBound, List.length_cons, ih, List.length_cons]

theorem boundInlets_shift (c n : Nat) (xs : List InletSettings) : boundInlets c n xs =
    ((List.range xs.length).filter fun i => ((xs[i]?).map InletSettings.container) == some c).map (n + ·) := by
  induction xs generalizing n with
  | nil => rfl
  | cons x xs ih =>
    rw [boundInlets, ih, List.length_cons, List.range_succ_eq_map, List.filter_cons, List.filter_map]
    by_cases h : x.container = c <;> simp [h, Function.comp_def, Nat.add_assoc, Nat.add_comm 1]

theorem boundInlets_eq (c : Nat) (xs : List InletSettings) : boundInlets c 0 xs =
    (List.range xs.length).filter fun i => ((xs[i]?).map InletSettings.container) == some c := by
  simp [boundInlets_shift]

end Sys2Proof.Machine
end

section
/-! PROOFS. Each block of an image as the memory holds it (R173, R174). -/

namespace Sys2Proof.Machine

section
variable {m : List Host.Cell} {len : Nat}

/-- A byte of a block inside the image. -/
theorem block_one {b size o : Nat} (h : b + size ≤ len) (ho : o + 1 ≤ size) :
    field (((readBytes m 0 len).drop b).take size) o 1 = byteAt m (b + o) := by
  rw [field_take _ _ _ _ ho, image_one (by omega)]

/-- A pair of bytes of a block inside the image. -/
theorem block_two {b size o : Nat} (h : b + size ≤ len) (ho : o + 2 ≤ size) :
    field (((readBytes m 0 len).drop b).take size) o 2 = pairAt m (b + o) := by
  rw [field_take _ _ _ _ ho, image_two (by omega)]

theorem eq_decide_iff {b : Bool} {p : Prop} [Decidable p] : b = decide p ↔ (b = true ↔ p) := by
  rw [Bool.eq_iff_iff, decide_eq_true_iff]

/-- A byte is the one at an address exactly when it is so as a number. -/
theorem toNat_eq_byteAt {m : List Host.Cell} {a : Nat} (b : Byte) :
    b.toNat = byteAt m a ↔ b = BitVec.ofNat 8 (byteAt m a) := by
  rw [byteAt, BitVec.ofNat_toNat, BitVec.setWidth_eq, BitVec.toNat_inj]

/-! ## Container blocks -/

/-- The settings that the bytes of container block c carry, the bound inlets apart. -/
def ContainerReads (m : List Host.Cell) (c : Nat) (k : ContainerSettings) : Prop :=
  k.fraction.val = byteAt m (17 + 16 * c) ∧ k.shape = byteAt m (18 + 16 * c) ∧
  k.floor = max 300 (min (pairAt m (19 + 16 * c)) 4000) ∧
  k.blanking = min (max 150 (min (pairAt m (21 + 16 * c)) 600)) (k.floor - 100) ∧
  k.floorBand = max 20 (min (byteAt m (23 + 16 * c)) 200) ∧
  k.confirmBand = max 10 (min (byteAt m (24 + 16 * c)) 255) ∧
  k.pingMinutes = max 5 (min (pairAt m (25 + 16 * c)) 1440) ∧
  k.dueAt = max 100 (min (pairAt m (27 + 16 * c)) 990) ∧
  k.fullAt = max k.dueAt (min (pairAt m (29 + 16 * c)) 1000) ∧
  k.heatLimit = max 40 (min (byteAt m (31 + 16 * c)) 90) ∧ k.riseLimit = max 4 (min (byteAt m (32 + 16 * c)) 40)

theorem containerBlock_iff {c : Nat} (k : ContainerSettings) (h : 17 + 16 * c + 16 ≤ len) :
    containerBlock (((readBytes m 0 len).drop (17 + 16 * c)).take 16) = some k ↔ ContainerReads m c k ∧ k.bound = [] := by
  have one : ∀ o, o + 1 ≤ 16 → field (((readBytes m 0 len).drop (17 + 16 * c)).take 16) o 1 = byteAt m (17 + o + 16 * c) :=
    fun o ho => by rw [block_one h ho, Nat.add_right_comm]
  have two : ∀ o, o + 2 ≤ 16 → field (((readBytes m 0 len).drop (17 + 16 * c)).take 16) o 2 = pairAt m (17 + o + 16 * c) :=
    fun o ho => by rw [block_two h ho, Nat.add_right_comm]
  rw [containerBlock, ContainerReads]
  simp only [one 0, one 1, two 2, two 4, one 6, one 7, two 8, two 10, two 12, one 14, one 15, Nat.reduceAdd, Nat.reduceLeDiff]
  split
  · rw [Option.some.injEq]
    constructor
    · rintro rfl
      exact ⟨⟨rfl, rfl, rfl, rfl, rfl, rfl, rfl, rfl, rfl, rfl, rfl⟩, rfl⟩
    · obtain ⟨⟨f, hf⟩, shape, floor, blanking, floorBand, confirmBand, ping, due, full, heat, rise, bound⟩ := k
      dsimp only
      rintro ⟨⟨rfl, rfl, rfl, rfl, rfl, rfl, rfl, rfl, rfl, rfl, rfl⟩, rfl⟩
      rfl
  · next hf =>
    refine ⟨fun h => (by cases h), fun ⟨⟨h, _⟩, _⟩ => ?_⟩
    exact absurd (h ▸ k.fraction.isLt) hf

/-- The container settings of an image whose container blocks lie inside it. -/
theorem containerRun_iff {n : Nat} (xs : List InletSettings) (ks : List ContainerSettings) (h : 17 + 16 * n ≤ len) :
    (∃ blocks, containerBlocks n ((readBytes m 0 len).drop 17) = some blocks ∧ ks = withBound xs 0 blocks) ↔
      ks.length = n ∧ ∀ c k, ks[c]? = some k → ContainerReads m c k ∧
        k.bound = (List.range xs.length).filter fun i => ((xs[i]?).map InletSettings.container) == some c := by
  constructor
  · rintro ⟨blocks, hb, rfl⟩
    obtain ⟨hl, hg⟩ := (containerBlocks_iff _ _ _).mp hb
    refine ⟨?_, fun c k hk => ?_⟩
    · rw [← hl]
      exact withBound_length xs 0 blocks
    · rw [withBound_get, Option.map_eq_some_iff] at hk
      obtain ⟨k', hk', rfl⟩ := hk
      have hc : c < n := hl ▸ (List.getElem?_eq_some_iff.mp hk').1
      have := hg c k' hk'
      rw [List.drop_drop, containerBlock_iff k' (by omega)] at this
      exact ⟨this.1, by rw [Nat.zero_add, boundInlets_eq]⟩
  · rintro ⟨hl, hg⟩
    refine ⟨ks.map fun k => { k with bound := [] }, (containerBlocks_iff _ _ _).mpr ⟨by rw [List.length_map, hl], ?_⟩, ?_⟩
    · intro c k' hk'
      rw [List.getElem?_map, Option.map_eq_some_iff] at hk'
      obtain ⟨k, hk, rfl⟩ := hk'
      have hc : c < n := hl ▸ (List.getElem?_eq_some_iff.mp hk).1
      rw [List.drop_drop, containerBlock_iff _ (by omega)]
      exact ⟨(hg c k hk).1, rfl⟩
    · apply List.ext_getElem?
      intro c
      rw [withBound_get, List.getElem?_map, Option.map_map]
      rcases hk : ks[c]? with _ | k
      · rfl
      · rw [Option.map_some, Function.comp_apply, Nat.zero_add, boundInlets_eq, ← (hg c k hk).2]

/-! ## Inlet blocks -/

/-- The settings that the bytes of an inlet block at an address carry. -/
def InletReads (m : List Host.Cell) (a : Nat) (x : InletSettings) : Prop :=
  x.container = byteAt m a ∧ x.nominal = min (byteAt m (a + 1)) 250 ∧
  x.windowSeconds = max 3 (min (byteAt m (a + 2)) 60) ∧ x.limitSeconds = max 30 (min (pairAt m (a + 3)) 300) ∧
  (x.activeHigh = true ↔ byteAt m (a + 5) ≠ 0) ∧
  [RejectWidth.off, .ms4, .ms16, .ms64][min (byteAt m (a + 6)) 3]? = some x.width ∧
  (x.reader = true ↔ byteAt m (a + 7) ≠ 0)

theorem rejectWidthOf_iff (n : Nat) (w : RejectWidth) :
    [RejectWidth.off, .ms4, .ms16, .ms64][min n 3]? = some w ↔ w = rejectWidthOf n := by
  match n with
  | 0 | 1 | 2 => simp [rejectWidthOf, eq_comm]
  | n + 3 => simp [rejectWidthOf, eq_comm]

theorem inletBlock_iff {a : Nat} (x : InletSettings) (h : a + 8 ≤ len) :
    x = inletBlock (((readBytes m 0 len).drop a).take 8) ↔ InletReads m a x := by
  rw [inletBlock, InletReads, rejectWidthOf_iff]
  rw [block_one h (by omega), block_one h (by omega), block_one h (by omega), block_two h (by omega), block_one h (by omega),
    block_one h (by omega), block_one h (by omega), Nat.add_zero]
  obtain ⟨container, nominal, window, limit, activeHigh, width, reader⟩ := x
  rw [InletSettings.mk.injEq, clamp, Nat.zero_max, eq_decide_iff, eq_decide_iff]
  rfl

theorem inletRun_iff {n a : Nat} (xs : List InletSettings) (h : a + 8 * n ≤ len) :
    xs = inletBlocks n ((readBytes m 0 len).drop a) ↔
      xs.length = n ∧ ∀ i x, xs[i]? = some x → InletReads m (a + 8 * i) x := by
  exact eq_places_iff (inletBlocks_get n _) fun i x hi => by rw [List.drop_drop, inletBlock_iff x (by omega)]

/-! ## Thermistor points -/

theorem thermistorRun_iff {n a : Nat} (ts : List (Nat × Int)) (h : a + 4 * n ≤ len) :
    ts = thermistorPoints n ((readBytes m 0 len).drop a) ↔
      ts.length = n ∧ ∀ i p, ts[i]? = some p → p = (pairAt m (a + 4 * i),
        max (-80) (min (BitVec.ofNat 16 (pairAt m (a + 4 * i + 2))).toInt 160)) := by
  refine eq_places_iff (thermistorPoints_get n _) fun i p hi => ?_
  have second := image_two (m := m) (len := len) (b := a + 4 * i) (o := 2) (by omega)
  rw [field] at second
  rw [List.drop_drop, image_two (by omega), clampInt, unbeSigned, second]
  rfl

/-! ## Shape tables -/

theorem shapePointsRun_iff {n a : Nat} (t : List (Nat × Nat)) (h : a + 4 * n ≤ len) :
    t = shapePoints n ((readBytes m 0 len).drop a) ↔
      t.length = n ∧ ∀ i p, t[i]? = some p → p = (pairAt m (a + 4 * i), pairAt m (a + 4 * i + 2)) := by
  refine eq_places_iff (shapePoints_get n _) fun i p hi => ?_
  rw [List.drop_drop, image_two (by omega), image_two (by omega)]
  rfl

theorem tablesSize_append (xs ys : List (List (Nat × Nat))) : tablesSize (xs ++ ys) = tablesSize xs + tablesSize ys := by
  simp [tablesSize]

/-- A table lies behind those before it, within the bytes of them all. -/
theorem tablesSize_take_add_le {ts : List (List (Nat × Nat))} {j : Nat} {t : List (Nat × Nat)} (h : ts[j]? = some t) :
    tablesSize (ts.take j) + (1 + 4 * t.length) ≤ tablesSize ts := by
  have hs : tablesSize (ts.take (j + 1)) = tablesSize (ts.take j) + (1 + 4 * t.length) := by
    rw [List.take_add_one, h, tablesSize_append]
    simp [tablesSize]
  have ha := congrArg tablesSize (List.take_append_drop (j + 1) ts)
  rw [tablesSize_append] at ha
  omega

/-- The table of at least two and at most twelve points that stands at an address. -/
def ShapeReads (m : List Host.Cell) (a : Nat) (t : List (Nat × Nat)) : Prop :=
  t.length = byteAt m a ∧ 2 ≤ t.length ∧ t.length ≤ 12 ∧
    ∀ i p, t[i]? = some p → p = (pairAt m (a + 1 + 4 * i), pairAt m (a + 1 + 4 * i + 2))

theorem shapeRun_iff {n a : Nat} (ts : List (List (Nat × Nat))) (rest : List Byte) (h : a + tablesSize ts ≤ len) :
    shapeTables n ((readBytes m 0 len).drop a) = some (ts, rest) ↔
      (ts.length = n ∧ rest = (readBytes m 0 len).drop (a + tablesSize ts)) ∧
        ∀ j t, ts[j]? = some t → ShapeReads m (a + tablesSize (ts.take j)) t := by
  rw [shapeTables_iff, List.drop_drop, ← and_assoc]
  refine and_congr_right fun _ => forall_congr' fun j => forall_congr' fun t =>
    forall_congr' fun ht => ?_
  have hj := tablesSize_take_add_le ht
  rw [List.drop_drop, List.drop_drop, image_one (by omega), shapePointsRun_iff t (by omega), ShapeReads, Nat.add_zero]
  tauto

/-! ## Vehicle entries -/

theorem vehicleRun_iff {n a : Nat} (vs : List Vehicle) (h : a + 3 * n ≤ len) :
    vs = vehicleEntries n ((readBytes m 0 len).drop a) ↔
      vs.length = n ∧ ∀ i v, vs[i]? = some v → v.id = pairAt m (a + 3 * i) ∧
        v.fractions.toNat = byteAt m (a + 3 * i + 2) := by
  refine eq_places_iff (vehicleEntries_get n _) fun i v hi => ?_
  rw [List.drop_drop, image_two (by omega), image_one (by omega), Nat.add_zero, toNat_eq_byteAt]
  cases v
  rw [Vehicle.mk.injEq]

end

end Sys2Proof.Machine
end

section
/-! PROOFS. The judgement of an image, and what its bytes give (R42, R48, R173, R174): O27. -/

namespace Sys2Proof.Machine

/-! ## The blocks, judged -/

/-- The parts of an image's bytes that `judgeBlocks` reads and checks, once it has found g in them. -/
structure BlocksJudged (img : List Byte) (g : StationConfig) : Prop where
  counts : ¬(field img 7 1 = 0 ∨ 8 < field img 7 1 ∨ field img 8 1 = 0 ∨ 16 < field img 8 1 ∨ 4 < field img 15 1 ∨
    16 < field img 16 1)
  containers : ∃ ks, containerBlocks (field img 7 1) (img.drop 17) = some ks ∧ g.containers = withBound g.inlets 0 ks
  shapeNumbers : ∀ k ∈ g.containers, k.shape < field img 15 1
  inlets : g.inlets = inletBlocks (field img 8 1) (img.drop (17 + 16 * field img 7 1))
  thermistor : g.thermistor = thermistorPoints 9 (img.drop (17 + 16 * field img 7 1 + 8 * field img 8 1))
  tables : ∃ rest, shapeTables (field img 15 1) (img.drop (53 + 16 * field img 7 1 + 8 * field img 8 1)) =
    some (g.shapes, rest) ∧ g.vehicles = vehicleEntries (field img 16 1) rest
  size : img.length = imageSize (field img 7 1) (field img 8 1) g.shapes (field img 16 1)
  inletContainers : ∀ x ∈ g.inlets, x.container < field img 7 1
  bounds : ∀ k ∈ g.containers, 1 ≤ k.bound.length ∧ k.bound.length ≤ 4
  shapesValid : ∀ t ∈ g.shapes, shapeValid t = true
  thermistorOrder : thermistorValid g.thermistor = true
  vehicleIds : ∀ v ∈ g.vehicles, v.id ≠ 0
  station : g.version = BitVec.ofNat 8 (field img 2 1) ∧ g.periodDays = clamp 1 31 (field img 9 1) ∧
    g.dozePermitted = decide (field img 10 1 ≠ 0) ∧ g.dozeSeconds = clamp 1 60 (field img 11 1) ∧
    g.queryWaitSeconds = clamp 1 10 (field img 12 1) ∧ g.queryEnabled = decide (field img 13 1 ≠ 0) ∧
    g.fallbackOpen = BitVec.ofNat 8 (field img 14 1)

/-- The shape numbers are judged before the bound inlets are known, to the same effect. -/
theorem withBound_shapes (xs : List InletSettings) (b : Nat) (n : Nat) (ks : List ContainerSettings) :
    (∀ k ∈ withBound xs n ks, k.shape < b) ↔ ∀ k ∈ ks, k.shape < b := by
  induction ks generalizing n with
  | nil => rfl
  | cons k ks ih => rw [withBound, List.forall_mem_cons, List.forall_mem_cons, ih]

theorem judgeBlocks_iff (img : List Byte) (g : StationConfig) : judgeBlocks img = some g ↔ BlocksJudged img g := by
  rw [judgeBlocks]
  simp only [List.drop_drop]
  rw [show ∀ a b, 17 + a + b + 36 = 53 + a + b by omega]
  constructor
  · intro h
    split at h
    · cases h
    · next hc =>
      split at h
      · next ks shapes rest hks hts =>
        split at h
        · next hall =>
          simp only [List.all_eq_true, decide_eq_true_eq] at hall
          obtain ⟨hsize, hshape, hinlet, hbound, hvalid, horder, hid⟩ := hall
          cases h
          exact {
            counts := hc, containers := ⟨ks, hks, rfl⟩, shapeNumbers := (withBound_shapes _ _ _ _).mpr hshape
            inlets := rfl, thermistor := rfl, tables := ⟨rest, hts, rfl⟩, size := hsize, inletContainers := hinlet
            bounds := hbound, shapesValid := hvalid, thermistorOrder := horder, vehicleIds := hid
            station := ⟨rfl, rfl, rfl, rfl, rfl, rfl, rfl⟩ }
        · cases h
      · cases h
  · intro ⟨hc, ⟨ks, hks, hg⟩, hshape, hi, ht, ⟨rest, hts, hv⟩, hsize, hinlet, hbound, hvalid, horder, hid, hst⟩
    obtain ⟨version, period, doze, dozeS, wait, query, open', containers, inlets, thermistor, shapes, vehicles⟩ := g
    dsimp only at *
    obtain ⟨rfl, rfl, rfl, rfl, rfl, rfl, rfl⟩ := hst
    subst hg ht hv hi
    rw [if_neg hc, hks, hts]
    dsimp only
    rw [if_pos]
    simp only [List.all_eq_true, decide_eq_true_eq]
    exact ⟨hsize, (withBound_shapes _ _ _ _).mp hshape, hinlet, hbound, hvalid, horder, hid⟩

/-! ## The tables' own rules -/

theorem forall_mem_iff_get {α : Type} {xs : List α} {P : α → Prop} :
    (∀ x ∈ xs, P x) ↔ ∀ (i : Nat) x, xs[i]? = some x → P x := by
  simp only [List.mem_iff_getElem?, forall_exists_index]
  exact forall_comm

theorem shapeValid_iff {t : List (Nat × Nat)} (ht : 2 ≤ t.length) : shapeValid t = true ↔
    (∀ p ∈ t, p.1 ≤ 4000) ∧ t[0]? = some (0, 0) ∧ t.Pairwise (fun x y => x.1 < y.1 ∧ x.2 < y.2) ∧
      ∀ l, t.getLast? = some l → 100 ≤ l.2 := by
  obtain ⟨l, hl⟩ : ∃ l, t.getLast? = some l := ⟨_, List.getLast?_eq_some_getLast (by rintro rfl; cases ht)⟩
  simp only [shapeValid, shapeCapacity, hl, Bool.and_eq_true, decide_eq_true_eq, List.all_eq_true, Option.getD_some,
    Option.some.injEq, forall_eq', List.head?_eq_getElem?]
  tauto

theorem thermistorValid_iff (t : List (Nat × Int)) : thermistorValid t = true ↔
    (∀ p ∈ t, p.1 ≠ 0) ∧ t.Pairwise fun x y => y.1 < x.1 ∧ x.2 < y.2 := by
  simp only [thermistorValid, Bool.and_eq_true, decide_eq_true_eq, List.all_eq_true]

/-! ## The image as its bytes give it -/

section
variable {m : List Host.Cell} {g : StationConfig}

/-- A byte of the header and station block. -/
theorem header_byte {len o : Nat} (h : o < len) : field (readBytes m 0 len) o 1 = byteAt m o := by
  have := image_one (m := m) (len := len) (b := 0) (o := o) (by omega)
  rwa [List.drop_zero, Nat.zero_add] at this

/-- A pair of bytes of the header. -/
theorem header_pair {len o : Nat} (h : o + 1 < len) : field (readBytes m 0 len) o 2 = pairAt m o := by
  have := image_two (m := m) (len := len) (b := 0) (o := o) (by omega)
  rwa [List.drop_zero, Nat.zero_add] at this

theorem shapeAddress_eq (j : Nat) : shapeAddress g j =
    53 + 16 * g.containers.length + 8 * g.inlets.length + tablesSize (g.shapes.take j) := rfl

/-- The header that `judgeImage` reads, and the sum that it forms. -/
structure HeaderFits (m : List Host.Cell) : Prop where
  marker : byteAt m 0 = 0x81 ∧ byteAt m 1 = 0x6E
  length : 17 ≤ pairAt m 3 ∧ pairAt m 3 ≤ 4096
  sum : pairAt m 5 = ((List.range (pairAt m 3 - 7)).map fun i => byteAt m (7 + i)).sum % 65536

theorem readBytes_eq (m : List Host.Cell) (a n : Nat) : readBytes m a n = (List.range n).map fun i => readByte m (a + i) := by
  induction n generalizing a with
  | zero => rfl
  | succ n ih =>
    rw [readBytes, ih, List.range_succ_eq_map, List.map_cons, List.map_map]
    simp [Function.comp_def, Nat.add_assoc, Nat.add_comm 1]

theorem readBytes_drop (m : List Host.Cell) (a n k : Nat) : (readBytes m a n).drop k = readBytes m (a + k) (n - k) := by
  induction k generalizing a n with
  | zero => rfl
  | succ k ih =>
    cases n with
    | zero => simp [readBytes]
    | succ n => rw [readBytes, List.drop_succ_cons, ih, Nat.add_sub_add_right, Nat.add_right_comm, Nat.add_assoc]

theorem imageSum_eq (m : List Host.Cell) (len : Nat) : imageSum (readBytes m 0 len) =
    ((List.range (len - 7)).map fun i => byteAt m (7 + i)).sum % 65536 := by
  rw [imageSum, readBytes_drop, Nat.zero_add, readBytes_eq, List.map_map]
  rfl

theorem judgeImage_iff : judgeImage m = some g ↔ HeaderFits m ∧ BlocksJudged (readBytes m 0 (pairAt m 3)) g := by
  rw [judgeImage]
  simp only [header_byte (m := m) (show 0 < 7 by decide), header_byte (m := m) (show 1 < 7 by decide),
    header_pair (m := m) (show 3 + 1 < 7 by decide), header_pair (m := m) (show 5 + 1 < 7 by decide), imageSum_eq]
  constructor
  · intro h
    split at h
    · cases h
    · next hh =>
      split at h
      · next hs => exact ⟨⟨by omega, by omega, hs.symm⟩, (judgeBlocks_iff _ _).mp h⟩
      · cases h
  · rintro ⟨⟨⟨hm0, hm1⟩, ⟨hl, hl'⟩, hs⟩, hj⟩
    rw [if_neg (by omega), if_pos hs.symm]
    exact (judgeBlocks_iff _ _).mpr hj

end

end Sys2Proof.Machine
end

section
/-! PROOFS. A memory's image is judged valid with settings g exactly where its bytes give g (R42, R48, R173, R174): O27. -/

namespace Sys2Proof.Machine

section
variable {m : List Host.Cell} {g : StationConfig} {len : Nat}

/-! ## Counts and size -/

/-- The counts and the size of an image are as its settings have them (R173). -/
structure SizesFit (m : List Host.Cell) (g : StationConfig) (len : Nat) : Prop where
  containers : g.containers.length = byteAt m 7 ∧ 1 ≤ g.containers.length ∧ g.containers.length ≤ 8
  inlets : g.inlets.length = byteAt m 8 ∧ 1 ≤ g.inlets.length ∧ g.inlets.length ≤ 16
  shapes : g.shapes.length = byteAt m 15 ∧ g.shapes.length ≤ 4
  vehicles : g.vehicles.length = byteAt m 16 ∧ g.vehicles.length ≤ 16
  size : len = 53 + 16 * g.containers.length + 8 * g.inlets.length + tablesSize g.shapes + 3 * g.vehicles.length

theorem BlocksJudged.sizesFit (h : BlocksJudged (readBytes m 0 len) g) (h17 : 17 ≤ len) : SizesFit m g len := by
  have hc := h.counts
  have hnc : g.containers.length = byteAt m 7 := by
    obtain ⟨ks, hks, hg⟩ := h.containers
    rw [hg, withBound_length, ((containerBlocks_iff _ _ _).mp hks).1, header_byte (by omega)]
  have hni : g.inlets.length = byteAt m 8 := by
    rw [h.inlets, length_of_get (inletBlocks_get _ _), header_byte (by omega)]
  obtain ⟨rest, hts, hvs⟩ := h.tables
  have hns : g.shapes.length = byteAt m 15 := by rw [((shapeTables_iff _ _ _ _).mp hts).1, header_byte (by omega)]
  have hnv : g.vehicles.length = byteAt m 16 := by
    rw [hvs, length_of_get (vehicleEntries_get _ _), header_byte (by omega)]
  have hs := h.size
  rw [imageSize, readBytes_length, ← tablesSize] at hs
  rw [header_byte (by omega), header_byte (by omega), header_byte (by omega), ← hnc, ← hni, ← hnv] at hs
  rw [header_byte (by omega), header_byte (by omega), header_byte (by omega), header_byte (by omega), ← hnc, ← hni, ← hns,
    ← hnv] at hc
  exact ⟨⟨hnc, by omega, by omega⟩, ⟨hni, by omega, by omega⟩, ⟨hns, by omega⟩, ⟨hnv, by omega⟩, by omega⟩

theorem ImageGives.sizesFit (h : ImageGives m g) : SizesFit m g (pairAt m 3) := by
  refine ⟨h.containerCount, h.inletCount, h.shapeCount, h.vehicleCount, ?_⟩
  rw [h.size, shapeAddress_eq, List.take_length]

namespace SizesFit

theorem containerCount (hz : SizesFit m g len) : field (readBytes m 0 len) 7 1 = g.containers.length := by
  have := hz.size
  rw [header_byte (by omega), hz.containers.1]

theorem inletCount (hz : SizesFit m g len) : field (readBytes m 0 len) 8 1 = g.inlets.length := by
  have := hz.size
  rw [header_byte (by omega), hz.inlets.1]

theorem shapeCount (hz : SizesFit m g len) : field (readBytes m 0 len) 15 1 = g.shapes.length := by
  have := hz.size
  rw [header_byte (by omega), hz.shapes.1]

theorem vehicleCount (hz : SizesFit m g len) : field (readBytes m 0 len) 16 1 = g.vehicles.length := by
  have := hz.size
  rw [header_byte (by omega), hz.vehicles.1]

/-! ## The parts of an image that has the right size -/

theorem containers_iff (hz : SizesFit m g len) :
    (∃ ks, containerBlocks (field (readBytes m 0 len) 7 1) ((readBytes m 0 len).drop 17) = some ks ∧
      g.containers = withBound g.inlets 0 ks) ↔
    ∀ c k, g.containers[c]? = some k → ContainerReads m c k ∧
      k.bound = (List.range g.inlets.length).filter fun i => ((g.inlets[i]?).map InletSettings.container) == some c := by
  have := hz.size
  rw [hz.containerCount, containerRun_iff _ _ (by omega), and_iff_right rfl]

theorem inlets_iff (hz : SizesFit m g len) :
    g.inlets = inletBlocks (field (readBytes m 0 len) 8 1)
      ((readBytes m 0 len).drop (17 + 16 * field (readBytes m 0 len) 7 1)) ↔
    ∀ i x, g.inlets[i]? = some x → InletReads m (17 + 16 * g.containers.length + 8 * i) x := by
  have := hz.size
  rw [hz.containerCount, hz.inletCount, inletRun_iff _ (by omega), and_iff_right rfl]

theorem thermistor_iff (hz : SizesFit m g len) :
    g.thermistor = thermistorPoints 9 ((readBytes m 0 len).drop
      (17 + 16 * field (readBytes m 0 len) 7 1 + 8 * field (readBytes m 0 len) 8 1)) ↔
    g.thermistor.length = 9 ∧ ∀ i p, g.thermistor[i]? = some p → p =
      (pairAt m (17 + 16 * g.containers.length + 8 * g.inlets.length + 4 * i), max (-80) (min
        (BitVec.ofNat 16 (pairAt m (17 + 16 * g.containers.length + 8 * g.inlets.length + 4 * i + 2))).toInt 160)) := by
  have := hz.size
  rw [hz.containerCount, hz.inletCount, thermistorRun_iff _ (by omega)]

theorem tables_iff (hz : SizesFit m g len) :
    (∃ rest, shapeTables (field (readBytes m 0 len) 15 1) ((readBytes m 0 len).drop
      (53 + 16 * field (readBytes m 0 len) 7 1 + 8 * field (readBytes m 0 len) 8 1)) = some (g.shapes, rest) ∧
      g.vehicles = vehicleEntries (field (readBytes m 0 len) 16 1) rest) ↔
    (∀ j t, g.shapes[j]? = some t → ShapeReads m (shapeAddress g j) t) ∧
      ∀ i v, g.vehicles[i]? = some v → v.id = pairAt m (shapeAddress g g.shapes.length + 3 * i) ∧
        v.fractions.toNat = byteAt m (shapeAddress g g.shapes.length + 3 * i + 2) := by
  have := hz.size
  simp only [hz.containerCount, hz.inletCount, hz.shapeCount, hz.vehicleCount, shapeAddress_eq, List.take_length]
  have vehicles := vehicleRun_iff (m := m) (len := len) (n := g.vehicles.length)
    (a := 53 + 16 * g.containers.length + 8 * g.inlets.length + tablesSize g.shapes) g.vehicles (by omega)
  rw [and_iff_right rfl] at vehicles
  rw [← vehicles]
  constructor
  · rintro ⟨rest, hts, hvs⟩
    obtain ⟨⟨-, rfl⟩, hg⟩ := (shapeRun_iff _ _ (by omega)).mp hts
    exact ⟨hg, hvs⟩
  · rintro ⟨hg, hvs⟩
    exact ⟨_, (shapeRun_iff _ _ (by omega)).mpr ⟨⟨rfl, rfl⟩, hg⟩, hvs⟩

end SizesFit

/-! ## The judgement and the bytes -/

/-- The settings of the station block, by its bytes. -/
theorem station_iff (h17 : 17 ≤ len) :
    (g.version = BitVec.ofNat 8 (field (readBytes m 0 len) 2 1) ∧
      g.periodDays = clamp 1 31 (field (readBytes m 0 len) 9 1) ∧
      g.dozePermitted = decide (field (readBytes m 0 len) 10 1 ≠ 0) ∧
      g.dozeSeconds = clamp 1 60 (field (readBytes m 0 len) 11 1) ∧
      g.queryWaitSeconds = clamp 1 10 (field (readBytes m 0 len) 12 1) ∧
      g.queryEnabled = decide (field (readBytes m 0 len) 13 1 ≠ 0) ∧
      g.fallbackOpen = BitVec.ofNat 8 (field (readBytes m 0 len) 14 1)) ↔
    g.version.toNat = byteAt m 2 ∧ g.periodDays = max 1 (min (byteAt m 9) 31) ∧
      (g.dozePermitted = true ↔ byteAt m 10 ≠ 0) ∧ g.dozeSeconds = max 1 (min (byteAt m 11) 60) ∧
      g.queryWaitSeconds = max 1 (min (byteAt m 12) 10) ∧ (g.queryEnabled = true ↔ byteAt m 13 ≠ 0) ∧
      g.fallbackOpen.toNat = byteAt m 14 := by
  rw [header_byte (by omega), header_byte (by omega), header_byte (by omega), header_byte (by omega),
    header_byte (by omega), header_byte (by omega), header_byte (by omega), toNat_eq_byteAt, toNat_eq_byteAt, eq_decide_iff,
    eq_decide_iff]
  rfl

theorem imageGives_of_judged (h : HeaderFits m) (hj : BlocksJudged (readBytes m 0 (pairAt m 3)) g) : ImageGives m g := by
  have hz := hj.sizesFit h.length.1
  have hcontainers := hz.containers_iff.mp hj.containers
  have hinlets := hz.inlets_iff.mp hj.inlets
  obtain ⟨htables, hvehicles⟩ := hz.tables_iff.mp hj.tables
  obtain ⟨hpoints, hpoint⟩ := hz.thermistor_iff.mp hj.thermistor
  obtain ⟨hnonzero, horder⟩ := (thermistorValid_iff _).mp hj.thermistorOrder
  have hnumbers := hj.shapeNumbers
  have hbound := hj.inletContainers
  rw [hz.shapeCount, forall_mem_iff_get] at hnumbers
  rw [hz.containerCount, forall_mem_iff_get] at hbound
  exact {
    marker := h.marker, length := h.length, sum := h.sum
    size := by rw [hz.size, shapeAddress_eq, List.take_length]
    containerCount := hz.containers, inletCount := hz.inlets, shapeCount := hz.shapes, vehicleCount := hz.vehicles
    station := (station_iff h.length.1).mp hj.station
    containers := fun c k hk => by
      obtain ⟨⟨fraction, shape, settings⟩, bound⟩ := hcontainers c k hk
      have counts := hj.bounds k (List.mem_of_getElem? hk)
      exact ⟨fraction, shape, hnumbers c k hk, by tauto⟩
    inlets := fun i x hx => by
      obtain ⟨container, settings⟩ := hinlets i x hx
      exact ⟨_, rfl, container, hbound i x hx, settings⟩
    thermistor := ⟨hpoints, fun i q t ht => by
      obtain ⟨hq, ht'⟩ := Prod.mk.inj (hpoint i (q, t) ht)
      exact ⟨_, rfl, hq, hnonzero _ (List.mem_of_getElem? ht), ht'⟩, horder⟩
    shapes := fun j t ht => by
      obtain ⟨hcount, hmin, hmax, hread⟩ := htables j t ht
      obtain ⟨hheight, hfirst, hascends, hcapacity⟩ := (shapeValid_iff hmin).mp (hj.shapesValid t (List.mem_of_getElem? ht))
      refine ⟨hcount, hmin, hmax, fun p h v hp => ?_, hfirst, hascends, hcapacity⟩
      obtain ⟨hh, hv⟩ := Prod.mk.inj (hread p (h, v) hp)
      refine ⟨hh, ?_, hheight _ (List.mem_of_getElem? hp)⟩
      rw [hv, Nat.add_right_comm _ _ 2]
    vehicles := fun v e he => ⟨hj.vehicleIds e (List.mem_of_getElem? he), hvehicles v e he⟩ }

theorem judged_of_imageGives (h : ImageGives m g) : BlocksJudged (readBytes m 0 (pairAt m 3)) g := by
  have hz := h.sizesFit
  obtain ⟨-, hcmin, hcmax⟩ := hz.containers
  obtain ⟨-, himin, himax⟩ := hz.inlets
  obtain ⟨-, hsmax⟩ := hz.shapes
  obtain ⟨-, hvmax⟩ := hz.vehicles
  obtain ⟨hpoints, hpoint, horder⟩ := h.thermistor
  exact {
    counts := by
      rw [hz.containerCount, hz.inletCount, hz.shapeCount, hz.vehicleCount]
      omega
    containers := hz.containers_iff.mpr fun c k hk => by
      obtain ⟨fraction, shape, -, floor, blanking, floorBand, confirmBand, ping, due, full, heat, rise, bound, -⟩ :=
        h.containers c k hk
      exact ⟨⟨fraction, shape, floor, blanking, floorBand, confirmBand, ping, due, full, heat, rise⟩, bound⟩
    shapeNumbers := by
      rw [hz.shapeCount, forall_mem_iff_get]
      intro c k hk
      obtain ⟨-, -, hlt, -⟩ := h.containers c k hk
      exact hlt
    inlets := hz.inlets_iff.mpr fun i x hx => by
      obtain ⟨a, rfl, container, -, settings⟩ := h.inlets i x hx
      exact ⟨container, settings⟩
    thermistor := hz.thermistor_iff.mpr ⟨hpoints, fun i p hp => by
      obtain ⟨a, rfl, hq, -, ht⟩ := hpoint i p.1 p.2 hp
      exact Prod.ext hq ht⟩
    tables := hz.tables_iff.mpr ⟨fun j t ht => by
      obtain ⟨hcount, hmin, hmax, hread, -⟩ := h.shapes j t ht
      refine ⟨hcount, hmin, hmax, fun p x hp => ?_⟩
      obtain ⟨hh, hv, -⟩ := hread p x.1 x.2 hp
      exact Prod.ext hh (hv.trans (congrArg (pairAt m) (by omega))), fun v e he => (h.vehicles v e he).2⟩
    size := by
      have := hz.size
      rw [hz.containerCount, hz.inletCount, hz.vehicleCount, imageSize, readBytes_length, ← tablesSize]
      omega
    inletContainers := by
      rw [hz.containerCount, forall_mem_iff_get]
      intro i x hx
      obtain ⟨a, -, -, hlt, -⟩ := h.inlets i x hx
      exact hlt
    bounds := forall_mem_iff_get.mpr fun c k hk => by
      obtain ⟨-, -, -, -, -, -, -, -, -, -, -, -, -, bounds⟩ := h.containers c k hk
      exact bounds
    shapesValid := forall_mem_iff_get.mpr fun j t ht => by
      obtain ⟨-, hmin, -, hread, hfirst, hascends, hcapacity⟩ := h.shapes j t ht
      refine (shapeValid_iff hmin).mpr ⟨forall_mem_iff_get.mpr fun p x hp => ?_, hfirst, hascends, hcapacity⟩
      obtain ⟨-, -, hheight⟩ := hread p x.1 x.2 hp
      exact hheight
    thermistorOrder := (thermistorValid_iff _).mpr ⟨forall_mem_iff_get.mpr fun i p hp => by
      obtain ⟨a, -, -, hq, -⟩ := hpoint i p.1 p.2 hp
      exact hq, horder⟩
    vehicleIds := forall_mem_iff_get.mpr fun v e he => (h.vehicles v e he).1
    station := (station_iff h.length.1).mpr h.station }

/-- The judgement of a memory's image is what its bytes give. -/
theorem judgeImage_iff_gives (m : List Host.Cell) (g : StationConfig) : judgeImage m = some g ↔ ImageGives m g := by
  rw [judgeImage_iff]
  exact ⟨fun ⟨h, hj⟩ => imageGives_of_judged h hj,
    fun h => ⟨⟨h.marker, h.length, h.sum⟩, judged_of_imageGives h⟩⟩

end

/-- Settles O27: the request, its completion and the writer's time by the rules of their bodies; the image part by part,
each run of blocks read at the places that the counts give it. -/
theorem imageWrites : Obligations.ImageWrites :=
  ⟨writeImageBlock_request, writeCompletion_stores, writerIdle_expires, judgeImage_iff_gives⟩

end Sys2Proof.Machine
end

section
/-! PROOFS. The arbiter's choice (R26, R29, R30), Measure Now, the due event and the spacing expiry (R25, R27, R31, R34, R35):
O31, O30. -/

namespace Sys2Proof.Machine

/-! ## The order of the queue (R30) -/

/-- Container c's pair p stands before container d's pair q: a higher class, then an earlier entry, then a lower number. -/
def Pair.Precedes (p : Pair) (c : Nat) (q : Pair) (d : Nat) : Prop :=
  pairRank q < pairRank p ∨ pairRank q = pairRank p ∧
    (p.entry.getD 0 < q.entry.getD 0 ∨ p.entry.getD 0 = q.entry.getD 0 ∧ c < d)

theorem Pair.Precedes.trans {p q r : Pair} {c d e : Nat} (h : p.Precedes c q d) (h' : q.Precedes d r e) :
    p.Precedes c r e := by
  unfold Pair.Precedes at *
  omega

theorem entryBefore_iff (p q : Pair) : entryBefore p q = true ↔
    pairRank q < pairRank p ∨ pairRank p = pairRank q ∧ p.entry.getD 0 < q.entry.getD 0 := by
  simp [entryBefore]

theorem precedes_of_entryBefore {p q : Pair} (h : entryBefore p q = true) (c d : Nat) : p.Precedes c q d := by
  rw [entryBefore_iff] at h
  unfold Pair.Precedes
  omega

/-- An entry that the later one does not come before precedes it. -/
theorem precedes_of_not_entryBefore {p q : Pair} (h : ¬ entryBefore q p = true) {c d : Nat} (hcd : c < d) :
    p.Precedes c q d := by
  rw [entryBefore_iff] at h
  unfold Pair.Precedes
  omega

theorem queued_iff (p : Pair) : p.queued = true ↔ p.stage = .firstQueued ∨ p.stage = .secondQueued := by
  simp [Pair.queued]

/-! ## The choice -/

section
variable {n : Nat} {k : Container} {ks : List Container}

theorem chooseQueued_skip (hq : k.pair.queued = false) : chooseQueued n (k :: ks) = chooseQueued (n + 1) ks := by
  simp [chooseQueued, hq]

theorem chooseQueued_alone (hq : k.pair.queued = true) (h : chooseQueued (n + 1) ks = none) :
    chooseQueued n (k :: ks) = some (n, k.pair) := by
  simp [chooseQueued, hq, h]

theorem chooseQueued_contest (hq : k.pair.queued = true) {m : Nat} {q : Pair} (h : chooseQueued (n + 1) ks = some (m, q)) :
    chooseQueued n (k :: ks) = if entryBefore q k.pair then some (m, q) else some (n, k.pair) := by
  simp [chooseQueued, hq, h]

end

theorem chooseQueued_none_iff (n : Nat) (ks : List Container) :
    chooseQueued n ks = none ↔ ∀ k ∈ ks, k.pair.queued = false := by
  induction ks generalizing n with
  | nil => simp [chooseQueued]
  | cons k ks ih =>
    rcases hq : k.pair.queued with _ | _
    · simp [chooseQueued_skip hq, ih, hq]
    · rcases hr : chooseQueued (n + 1) ks with _ | ⟨m, q⟩
      · simp [chooseQueued_alone hq hr, hq]
      · rw [chooseQueued_contest hq hr]
        split <;> simp [hq]

/-- The chosen entry precedes every other queued one. -/
theorem chooseQueued_precedes {n c : Nat} {p : Pair} {ks : List Container} (h : chooseQueued n ks = some (c, p))
    {i : Nat} {m : Container} (hm : ks[i]? = some m) (hi : n + i ≠ c) (hq : m.pair.queued = true) :
    p.Precedes c m.pair (n + i) := by
  induction ks generalizing n c p i with
  | nil => simp at hm
  | cons k ks ih =>
    rcases i with _ | i
    · obtain rfl : k = m := by simpa using hm
      rcases hr : chooseQueued (n + 1) ks with _ | ⟨d, q⟩
      · rw [chooseQueued_alone hq hr] at h
        cases h
        exact absurd rfl hi
      · rw [chooseQueued_contest hq hr] at h
        split at h
        · next hb =>
          cases h
          exact precedes_of_entryBefore hb _ _
        · cases h
          exact absurd rfl hi
    · have hm' : ks[i]? = some m := by simpa using hm
      rw [show n + (i + 1) = n + 1 + i by omega] at hi ⊢
      rcases hk : k.pair.queued with _ | _
      · exact ih (chooseQueued_skip hk ▸ h) hm' hi
      · rcases hr : chooseQueued (n + 1) ks with _ | ⟨d, q⟩
        · have hf := (chooseQueued_none_iff _ _).mp hr m (List.mem_of_getElem? hm')
          rw [hq] at hf
          cases hf
        · rw [chooseQueued_contest hk hr] at h
          split at h
          · cases h
            exact ih hr hm' hi
          · next hb =>
            cases h
            obtain ⟨x, hd, hx, rfl, -⟩ := chooseQueued_mem hr
            have hfirst : k.pair.Precedes n x.pair d := precedes_of_not_entryBefore hb (by omega)
            by_cases hid : n + 1 + i = d
            · rw [show d - (n + 1) = i by omega, hm'] at hx
              cases hx
              rwa [hid]
            · exact hfirst.trans (ih hr hm' hid)

/-! ## The arbiter -/

theorem arbitrate_busy {s : State} (h : s.run ≠ none) : s.arbitrate = s := by
  obtain ⟨r, hr⟩ := Option.ne_none_iff_exists'.mp h
  simp [State.arbitrate, hr]

theorem arbitrate_unqueued {s : State} (h : chooseQueued 0 s.containers = none) : s.arbitrate = s := by
  unfold State.arbitrate
  split
  · next hc =>
    rw [h] at hc
    cases hc
  · rfl

/-- The start of the chosen container's measurement (R19, R26). -/
theorem arbitrate_starts {s : State} {c : Nat} {k : Container} (hr : s.run = none)
    (hc : chooseQueued 0 s.containers = some (c, k.pair)) (hk : s.containers[c]? = some k) :
    s.arbitrate = { s with
      run := some (.started c (decide (k.pair.stage = .secondQueued)))
      containers := s.containers.set c { k with
        pair := { k.pair with
          entry := none
          stage := if k.pair.stage = .secondQueued then .secondRunning else .firstRunning } } } := by
  simp only [State.arbitrate, hr, hc, State.startMeasurement, updContainer_eq_set _ hk, decide_eq_true_eq]

/-- The arbiter neither reads nor writes a port: it chooses alike before and after a request has been taken. -/
theorem arbitrate_taken (s : State) (p : Port) (code tag : Byte) :
    ({ s with ports := (s.taken p code tag).ports } : State).arbitrate =
      { s.arbitrate with ports := (s.arbitrate.taken p code tag).ports } := by
  unfold State.arbitrate
  dsimp only
  split <;> rfl

/-- Settles O31: the choice goes through the list once, keeping the entry that precedes all it has met. -/
theorem arbiterChoice : Obligations.ArbiterChoice := by
  refine ⟨by decide, by decide, fun p cls h => by simp [pairRank, h], fun s => ⟨arbitrate_busy, fun hn => ?_,
    fun hr ⟨k, hk, hq⟩ => ?_⟩⟩
  · refine arbitrate_unqueued ((chooseQueued_none_iff _ _).mpr fun k hk => ?_)
    rw [← Bool.not_eq_true, queued_iff, not_or]
    exact hn k hk
  · rcases hc : chooseQueued 0 s.containers with _ | ⟨c, p⟩
    · have hf := (chooseQueued_none_iff _ _).mp hc k hk
      rw [(queued_iff _).mpr hq] at hf
      cases hf
    · obtain ⟨m, -, hm, rfl, hmq⟩ := chooseQueued_mem hc
      refine ⟨c, m, hm, (queued_iff _).mp hmq, fun d x hx hdc hxq => ?_, arbitrate_starts hr hc hm⟩
      have h := chooseQueued_precedes hc hx (by rwa [Nat.zero_add]) ((queued_iff _).mpr hxq)
      rwa [Nat.zero_add] at h

/-! ## Measure Now (R25, R34) -/

/-- What a DEMAND request does to a pair (R25, R34). -/
theorem request_demand (p : Pair) (now : Nat) : p.request .demand now =
    if p.stage = .none then requestedPair .demand now
    else if p.cls = some .demand ∨ p.cls = some .verify then p else { p with cls := some .demand } := by
  split
  · next h => exact request_none h _ _
  · next h => rw [Pair.request, if_neg h, raiseTo_demand]

section
variable {s : State} {p : Port} {n : Byte} {k : Container}

theorem bodyMeasureNow_none (h : s.containers[n.toNat]? = none) :
    bodyMeasureNow p [n] s = (s, .reply .outOfRange []) := by
  simp only [bodyMeasureNow, param0_singleton, h, refuse]

theorem bodyMeasureNow_notNow (h : s.containers[n.toNat]? = some k) (hu : k.unmeasured = true) :
    bodyMeasureNow p [n] s = (s, .reply .notNow []) := by
  simp only [bodyMeasureNow, param0_singleton, h, if_pos hu, refuse]

theorem bodyMeasureNow_requests (h : s.containers[n.toNat]? = some k) (hu : ¬ k.unmeasured = true) :
    bodyMeasureNow p [n] s = ((s.requestPair n.toNat .demand).arbitrate, .reply .ok []) := by
  simp only [bodyMeasureNow, param0_singleton, h, if_neg hu, done]

end

/-! ## The due event and the spacing expiry (R27, R31) -/

/-- A due event, by the record (R31, R35). -/
theorem takeDue_record (k : Container) (now : Nat) : k.takeDue now = { k with
    nextDue := k.nextDue + if k.hot then 60000 else k.cfg.pingMinutes * 60000
    pair :=
      if k.state = ServiceState.lifted ∨ k.displaced = true ∨ k.pair.stage ≠ Stage.none then k.pair
      else requestedPair (if k.hot then .demand else .scheduled) now } := by
  have hp : (if k.unmeasured = true ∨ k.pair.stage ≠ .none then k.pair else k.pair.request k.dueClass now) =
      if k.state = .lifted ∨ k.displaced = true ∨ k.pair.stage ≠ .none then k.pair
      else requestedPair k.dueClass now := by
    simp only [unmeasured_iff, or_assoc]
    split
    · rfl
    · next h => exact request_none (by tauto) _ _
  rw [Container.takeDue, hp, pingInterval_eq]
  rfl

theorem exec_dueEvent {s : State} {c : Fin 8} {k : Container} (ha : s.attends = true) (hk : s.containers[c.val]? = some k) :
    exec (.dueEvent c) s = .next (((s.advanceTo k.nextDue).takeDueEvent c).arbitrate).judgeIdle := by
  obtain ⟨hp, hw⟩ := attends_running ha
  have h : exec (.dueEvent c) s = execDueEvent c s := rfl
  rw [h, execDueEvent, whenRunning_running hp]
  simp only [hk, hw, if_true]

theorem exec_spacingExpiry {s : State} {c : Fin 8} {k : Container} {t : Nat} (hp : s.power = .running)
    (hk : s.containers[c.val]? = some k) (ht : k.pair.spacing = some t) :
    exec (.spacingExpiry c) s = .next (((s.advanceTo t).updContainer c fun x =>
      { x with pair := x.pair.spacingExpires (max s.now t) }).arbitrate).judgeIdle := by
  have h : exec (.spacingExpiry c) s = execSpacingExpiry c s := rfl
  rw [h, execSpacingExpiry, whenRunning_running hp]
  simp only [hk, Option.bind_some, ht]
  rfl

/-- Settles O30: the request by the container it names; each timer writes one record, and the arbiter follows. -/
theorem pairRequestsAndTimers : Obligations.PairRequestsAndTimers := by
  refine ⟨fun s p tag n h hc => ?_, fun s c k ha hk => ?_, fun s c k t hp hk ht => ?_⟩
  · have row : reqMeasureNow.row.refusal p [n].length s.configured = none :=
      refusal_none rfl (portsNVS_contains p) (.inl hc)
    refine ⟨fun hk => ?_, fun k hk => ⟨fun hu => ?_, fun hl hd => ?_⟩⟩
    · exact (arrive_reported h reqMeasureNow tag [n] row (bodyMeasureNow_none (p := p) (s := s.taken p 0x13 tag) hk) :)
    · exact (arrive_reported h reqMeasureNow tag [n] row
        (bodyMeasureNow_notNow (p := p) (s := s.taken p 0x13 tag) hk ((unmeasured_iff k).mpr hu)) :)
    · have hu : ¬ k.unmeasured = true := by simp [unmeasured_iff, hl, hd]
      rw [← request_demand, ← requestPair_eq _ hk]
      exact answered_replied (arrive_answered h reqMeasureNow tag [n] row
        (bodyMeasureNow_requests (p := p) (s := s.taken p 0x13 tag) hk hu) :)
        (arbitrate_taken (s.requestPair n.toNat .demand) p 0x13 tag)
  · rw [exec_dueEvent ha hk, State.takeDueEvent, updContainer_eq_set (s := s.advanceTo k.nextDue) _ hk, takeDue_record]
    rfl
  · rw [exec_spacingExpiry hp hk ht, updContainer_eq_set (s := s.advanceTo t) _ hk]
    rfl

end Sys2Proof.Machine
end

section
/-! PROOFS. The completion of a measurement that leaves its container cold: step 1, the reading, and the ends of a pair (R22,
R23, R27, R28, R36 to R39, R52, R53, R66). -/

namespace Sys2Proof.Machine

/-! ## Attention raised beside a record -/

theorem raiseIf_withContainers (s : State) (ks : List Container) (b : Bool) (a : AttentionKind) :
    ({ s with containers := ks } : State).raiseIf b a = { s.raiseIf b a with containers := ks } := by
  cases b <;> rfl

theorem raise_raise (s : State) (a : AttentionKind) : (s.raise a).raise a = s.raise a := by
  simp [State.raise, State.mapPorts, Ports.map, BitVec.or_assoc]

/-- Attention of one kind raised for two reasons in one event. -/
theorem raiseIf_raiseIf (s : State) (a b : Bool) (kind : AttentionKind) :
    (s.raiseIf a kind).raiseIf b kind = s.raiseIf (a || b) kind := by
  cases a
  · rfl
  · cases b
    · rfl
    · exact raise_raise s kind

/-! ## Step 1 (R22, R23, R66) -/

/-- The temperature's step writes the status and the last valid temperature, and nothing else of the record. -/
theorem withTemp_eq (k : Container) (temp : Option (Int × Bool)) (now : Nat) :
    ∃ st l, k.withTemp temp now = { k with tempStatus := st, lastTemp := l } := by
  rcases temp with _ | ⟨t, clamped⟩
  · exact ⟨.fault, k.lastTemp, rfl⟩
  · exact ⟨.valid, _, rfl⟩

theorem withTemp_pair (k : Container) (temp : Option (Int × Bool)) (now : Nat) : (k.withTemp temp now).pair = k.pair := by
  obtain ⟨st, l, h⟩ := withTemp_eq k temp now
  rw [h]

/-- The state in a completion that leaves container c cold: SENSOR raised for a new fault of the temperature, record m
written, and SENSOR raised where the pair's end has news for it. -/
def State.measured (s : State) (c : Nat) (k : Container) (temp : Option (Int × Bool)) (m : Container) (news : Bool) : State :=
  ({ s.raiseIf (k.newFault temp) .sensor with containers := s.containers.set c m } : State).raiseIf news .sensor

section
variable {s : State} {c : Nat} {k m : Container} {temp : Option (Int × Bool)} {news : Bool}

theorem measured_get (hk : s.containers[c]? = some k) : (s.measured c k temp m news).containers[c]? = some m := by
  simpa [State.measured] using set_get m hk

@[simp] theorem measured_now : (s.measured c k temp m news).now = s.now := by simp [State.measured]

@[simp] theorem measured_clock : (s.measured c k temp m news).clock = s.clock := by simp [State.measured]

/-- The record is written anew. -/
theorem measured_set (m' : Container) :
    { s.measured c k temp m news with containers := (s.measured c k temp m news).containers.set c m' } =
      s.measured c k temp m' news := by
  rw [State.measured, State.measured, raiseIf_withContainers _ (s.containers.set c m),
    raiseIf_withContainers _ (s.containers.set c m')]
  simp only [List.set_set]

theorem measured_updContainer (hk : s.containers[c]? = some k) (f : Container → Container) :
    (s.measured c k temp m news).updContainer c f = s.measured c k temp (f m) news := by
  rw [updContainer_eq_set _ (measured_get hk), measured_set]

theorem measured_raiseIf : (s.measured c k temp m false).raiseIf news .sensor = s.measured c k temp m news := rfl

/-- The two reasons for SENSOR together. -/
theorem measured_eq : s.measured c k temp m news =
    ({ s with containers := s.containers.set c m } : State).raiseIf (k.newFault temp || news) .sensor := by
  rw [State.measured, ← raiseIf_withContainers, raiseIf_raiseIf]

/-- Step 1 of a completion where the container does not become hot. -/
theorem takeTemperature_cold (hk : s.containers[c]? = some k) (hh : ¬ k.heats temp s.now) :
    s.takeTemperature c k temp = s.measured c k temp (k.withTemp temp s.now) false := by
  rcases temp with _ | ⟨t, clamped⟩
  · rw [State.takeTemperature, State.temperatureFault, updContainer_eq_set _ hk, raiseIf_withContainers]
    rfl
  · have cold : k.hot = true ∨ k.heatCondition t s.now = false := by
      rw [← Bool.not_eq_false, ← Bool.not_eq_true (k.heatCondition t s.now), heatCondition_iff]
      by_contra hc
      obtain ⟨hcold, hcond⟩ := not_or.mp hc
      exact hh ⟨not_not.mp hcold, t, clamped, rfl, not_not.mp hcond⟩
    exact temperatureValid_cold hk cold

end

/-! ## The reading (R22, R27, R28) -/

/-- A result that leaves its container cold: the pair goes on from the record of step 1, with the reading of the record as it
stood. -/
theorem takeResult_cold {s : State} {r : Run} {k : Container} {temp : Option (Int × Bool)} (echo : EchoSignal)
    (hk : s.containers[r.container]? = some k) (ht : s.resultTemp r.result = temp) (hh : ¬ k.heats temp s.now) :
    s.takeResult r echo = if r.second then
        (s.measured r.container k temp (k.withTemp temp s.now) false).secondDone r.container (k.withTemp temp s.now)
          (s.completionReading k temp echo)
      else (s.measured r.container k temp (k.withTemp temp s.now) false).firstDone r.container (k.withTemp temp s.now)
        (s.completionReading k temp echo) := by
  simp only [State.takeResult, hk, ht, takeTemperature_cold hk hh, measured_get hk, Option.getD_some]

section
variable {s : State} {r : Run} {k : Container} {conv : Conversion} {temp : Option (Int × Bool)} {echo : EchoSignal}
  (hp : s.power = .running) (hr : s.run = some r) (hd : r.detached = false) (hk : s.containers[r.container]? = some k)
  (hc : s.conversionGives conv temp) (hh : ¬ k.heats temp s.now)
include hp hr hd hk hc hh

theorem exec_completion_cold :
    let v := State.measured { s with run := none } r.container k temp (k.withTemp temp s.now) false
    exec (.measurementCompletion conv echo) s = .next ((if r.second then
        v.secondDone r.container (k.withTemp temp s.now) (s.completionReading k temp echo)
      else v.firstDone r.container (k.withTemp temp s.now) (s.completionReading k temp echo)).arbitrate).judgeIdle := by
  have h := takeResult_cold (s := { s with run := none }) (r := r.convert conv) echo hk (resultTemp_of_gives hc) hh
  rw [exec_completion hp, takeCompletion_attached hr hd, h]
  rfl

/-- A first measurement with a reading (R27). -/
theorem exec_completion_first (hs : r.second = false) {rd : Reading} (hrd : s.completionReading k temp echo = some rd) :
    exec (.measurementCompletion conv echo) s = .next ((State.firstDone
      (State.measured { s with run := none } r.container k temp (k.withTemp temp s.now) false) r.container
        (k.withTemp temp s.now) (some rd)).arbitrate).judgeIdle := by
  rw [exec_completion_cold hp hr hd hk hc hh, hs, hrd]
  rfl

/-- A second measurement with a reading (R28). -/
theorem exec_completion_second (hs : r.second = true) {rd : Reading} (hrd : s.completionReading k temp echo = some rd) :
    exec (.measurementCompletion conv echo) s = .next ((State.secondDone
      (State.measured { s with run := none } r.container k temp (k.withTemp temp s.now) false) r.container
        (k.withTemp temp s.now) (some rd)).arbitrate).judgeIdle := by
  rw [exec_completion_cold hp hr hd hk hc hh, hs, hrd]
  rfl

/-- A miss or BEYOND, at a first measurement or a second (R36). -/
theorem exec_completion_miss (hrd : s.completionReading k temp echo = none) :
    exec (.measurementCompletion conv echo) s = .next ((State.pairMiss
      (State.measured { s with run := none } r.container k temp (k.withTemp temp s.now) false) r.container
        (k.withTemp temp s.now)).arbitrate).judgeIdle := by
  rw [exec_completion_cold hp hr hd hk hc hh, hrd]
  cases r.second <;> rfl

end

theorem firstDone_measured {s : State} {c : Nat} {k m : Container} {temp : Option (Int × Bool)}
    (hk : s.containers[c]? = some k) (r : Reading) :
    (s.measured c k temp m false).firstDone c m (some r) = s.measured c k temp { m with
      pair := { m.pair with stage := .awaitSecond, first := some r.height, spacing := some (s.now + 2000) } } false := by
  rw [State.firstDone, measured_updContainer hk, measured_now]
  rfl

/-! ## Failed pairs (R36 to R38) -/

/-- The record of a container whose pair ends as a miss (R36). -/
def Container.missed (k : Container) (temp : Option (Int × Bool)) (now : Nat) : Container :=
  { k.withTemp temp now with
    misses := min (k.misses + 1) 4, levelStatus := if 3 ≤ k.misses then .sensorFault else k.levelStatus }

/-- The record of a container whose pair ends as a mismatch (R37). -/
def Container.mismatched (k : Container) (temp : Option (Int × Bool)) (now : Nat) : Container :=
  { k.withTemp temp now with
    mismatches := min (k.mismatches + 1) 6, misses := 0
    levelStatus := if 5 ≤ k.mismatches then .unsure else k.levelStatus }

section
variable {s : State} {c : Nat} {k m : Container} {temp : Option (Int × Bool)} {news : Bool}

theorem countMiss_withTemp (k : Container) (temp : Option (Int × Bool)) (now : Nat) :
    (k.withTemp temp now).countMiss = k.missed temp now := by
  obtain ⟨st, l, h⟩ := withTemp_eq k temp now
  simp [Container.missed, h, Container.countMiss, saturate]

theorem countMismatch_withTemp (k : Container) (temp : Option (Int × Bool)) (now : Nat) :
    (k.withTemp temp now).countMismatch = k.mismatched temp now := by
  obtain ⟨st, l, h⟩ := withTemp_eq k temp now
  simp [Container.mismatched, h, Container.countMismatch, saturate]

theorem pairMiss_measured (hk : s.containers[c]? = some k) :
    (s.measured c k temp (k.withTemp temp s.now) false).pairMiss c (k.withTemp temp s.now) =
      (s.measured c k temp (k.missed temp s.now)
        (decide (3 ≤ k.misses ∧ k.levelStatus ≠ .sensorFault))).endFailedPair c := by
  have news : decide (4 ≤ (k.withTemp temp s.now).misses + 1 ∧ (k.withTemp temp s.now).levelStatus ≠ .sensorFault) =
      decide (3 ≤ k.misses ∧ k.levelStatus ≠ .sensorFault) := by
    obtain ⟨st, l, h⟩ := withTemp_eq k temp s.now
    simp [h]
  rw [State.pairMiss, measured_updContainer hk, countMiss_withTemp, news, measured_raiseIf]

theorem pairMismatch_measured (hk : s.containers[c]? = some k) :
    (s.measured c k temp (k.withTemp temp s.now) false).pairMismatch c (k.withTemp temp s.now) =
      (s.measured c k temp (k.mismatched temp s.now)
        (decide (5 ≤ k.mismatches ∧ k.levelStatus ≠ .unsure))).endFailedPair c := by
  have news : decide (6 ≤ (k.withTemp temp s.now).mismatches + 1 ∧ (k.withTemp temp s.now).levelStatus ≠ .unsure) =
      decide (5 ≤ k.mismatches ∧ k.levelStatus ≠ .unsure) := by
    obtain ⟨st, l, h⟩ := withTemp_eq k temp s.now
    simp [h]
  rw [State.pairMismatch, measured_updContainer hk, countMismatch_withTemp, news, measured_raiseIf]

/-- A failed pair that is not VERIFY ends. -/
theorem endFailedPair_ends (hk : s.containers[c]? = some k) (hv : m.pair.cls ≠ some .verify) :
    (s.measured c k temp m news).endFailedPair c = s.measured c k temp { m with pair := .idle } news := by
  simp only [State.endFailedPair, measured_get hk, if_neg hv, measured_updContainer hk]

/-- A failed VERIFY attempt before the third is followed by the next. -/
theorem endFailedPair_again {n : Nat} (hk : s.containers[c]? = some k) (hv : m.pair.cls = some .verify)
    (ha : m.pair.attempt = some n) (hn : n < 3) :
    (s.measured c k temp m news).endFailedPair c = s.measured c k temp { m with
      pair := { requestedPair .verify s.now with attempt := some (n + 1) } } news := by
  simp only [State.endFailedPair, measured_get hk, if_pos hv, ha, Option.getD_some, if_pos hn, measured_updContainer hk,
    measured_now]
  rfl

/-- The third failed VERIFY attempt ends the emptying with the assumed-empty level (R57, R146). -/
theorem endFailedPair_last {n : Nat} (hk : s.containers[c]? = some k) (hv : m.pair.cls = some .verify)
    (ha : m.pair.attempt = some n) (hn : 3 ≤ n) :
    (s.measured c k temp m news).endFailedPair c = (s.measured c k temp { m with
      pair := .idle, level := some (assumedEmptyLevel m s.clock.count), added := 0 } news).finishEmptying c none false
        .verifyFailed := by
  simp only [State.endFailedPair, measured_get hk, if_pos hv, ha, Option.getD_some, if_neg (Nat.not_lt.mpr hn),
    measured_updContainer hk]
  rw [endUnverified_eq _ (measured_get hk), measured_set, measured_clock]
  rfl

end

/-! ## Agreement and adoption (R28, R39, R52, R53) -/

theorem agrees_iff (band h1 h2 : Nat) :
    agrees band h1 h2 = true ↔ (h1 : Int) - h2 ≤ band ∧ (h2 : Int) - h1 ≤ band := by
  simp only [agrees, decide_eq_true_eq]
  omega

/-- The second reading of a container agrees with the first (R28). -/
def Container.confirms (k : Container) (r : Reading) : Prop :=
  (k.pair.first.getD 0 : Int) - r.height ≤ k.cfg.confirmBand ∧ (r.height : Int) - k.pair.first.getD 0 ≤ k.cfg.confirmBand

/-- A verifying reading finds a container empty (R53). -/
def Container.foundEmpty (k : Container) (r : Reading) : Prop :=
  r.near = false ∧ (k.cfg.floor : Int) - r.distance ≤ k.cfg.floorBand

section
variable {s v : State} {c : Nat} {k : Container} {r : Reading} {temp : Option (Int × Bool)}

theorem agrees_withTemp (now : Nat) : agrees (k.withTemp temp now).cfg.confirmBand ((k.withTemp temp now).pair.first.getD 0)
    r.height = true ↔ k.confirms r := by
  obtain ⟨st, l, h⟩ := withTemp_eq k temp now
  rw [h, agrees_iff]
  rfl

theorem secondDone_confirms {now : Nat} (h : k.confirms r) :
    v.secondDone c (k.withTemp temp now) (some r) = v.adoptPair c (k.withTemp temp now) r :=
  if_pos ((agrees_withTemp now).mpr h)

theorem secondDone_differs {now : Nat} (h : ¬ k.confirms r) :
    v.secondDone c (k.withTemp temp now) (some r) = v.pairMismatch c (k.withTemp temp now) :=
  if_neg (mt (agrees_withTemp now).mp h)

/-- Adoption of a SCHEDULED or DEMAND pair (R52). -/
theorem adoptPair_measured (hk : s.containers[c]? = some k) {m : Container} (hv : m.pair.cls ≠ some .verify) :
    (s.measured c k temp m false).adoptPair c m r =
      ((s.measured c k temp (m.adopt r s.clock.count) false).raise .level).evaluate c := by
  rw [State.adoptPair, if_neg hv, measured_updContainer hk, measured_clock]

/-- Adoption of a VERIFY pair, and the end of the emptying (R53, R146). -/
theorem adoptPair_verified (hk : s.containers[c]? = some k) {m : Container} (hv : m.pair.cls = some .verify) :
    (s.measured c k temp m false).adoptPair c m r =
      ((s.measured c k temp (m.adoptVerify r s.clock.count) false).raise .level).finishEmptying c
        (some (m.verifiedPerMille r)) true .verified := by
  rw [State.adoptPair, if_pos hv, measured_updContainer hk, measured_clock]

theorem judgedEmpty_withTemp (now : Nat) : (k.withTemp temp now).judgedEmpty r = true ↔ k.foundEmpty r := by
  obtain ⟨st, l, h⟩ := withTemp_eq k temp now
  simp only [h, Container.judgedEmpty, Bool.and_eq_true, Bool.not_eq_true', decide_eq_true_eq]
  exact and_congr_right fun _ => by omega

theorem adoptVerify_empty {now clock : Nat} (h : k.foundEmpty r) :
    (k.withTemp temp now).adoptVerify r clock = { (k.withTemp temp now).adoptCounts with
      level := some { height := 0, volume := 0, perMille := 0, tHalf := r.tHalf, time := clock, assumed := false }
      added := 0, floorRef := min r.distance k.cfg.floor, residue := false } := by
  rw [Container.adoptVerify, if_pos ((judgedEmpty_withTemp now).mpr h)]
  obtain ⟨st, l, hw⟩ := withTemp_eq k temp now
  rw [hw]

theorem adoptVerify_residue {now clock : Nat} (h : ¬ k.foundEmpty r) :
    (k.withTemp temp now).adoptVerify r clock = { (k.withTemp temp now).adoptCounts with
      level := some (r.toLevel clock), added := 0, residue := true } :=
  if_neg (mt (judgedEmpty_withTemp now).mp h)

theorem verifiedPerMille_empty {now : Nat} (h : k.foundEmpty r) : (k.withTemp temp now).verifiedPerMille r = 0 :=
  if_pos ((judgedEmpty_withTemp now).mpr h)

theorem verifiedPerMille_residue {now : Nat} (h : ¬ k.foundEmpty r) :
    (k.withTemp temp now).verifiedPerMille r = r.perMille :=
  if_neg (mt (judgedEmpty_withTemp now).mp h)

end

end Sys2Proof.Machine
end

section
/-! PROOFS. A completion's statements: first readings and misses (O32), second readings and VERIFY attempts (O33). -/

namespace Sys2Proof.Machine

/-- Settles O32: nothing measured and a detached run by the front end; a reading and a miss go on from step 1. -/
theorem measurementFirstAndMiss : Obligations.MeasurementFirstAndMiss := by
  intro s conv echo hp
  refine ⟨fun hr => ?_, fun r hr hd => ?_, fun run c k temp hr hd hc hk hg hh => ?_⟩
  · rw [exec_completion hp, State.takeCompletion, hr]
  · rw [exec_completion hp, State.takeCompletion, hr]
    simp only [hd, if_true]
  · subst hc
    have hk' : ({ s with run := none } : State).containers[run.container]? = some k := hk
    have hpair := withTemp_pair k temp s.now
    refine ⟨fun r hs hrd => ?_, fun hrd hv => ?_⟩
    · rw [exec_completion_first hp hr hd hk hg hh hs hrd, firstDone_measured hk', hpair, measured_eq, Bool.or_false]
    · have hv' : (k.missed temp s.now).pair.cls ≠ some .verify := hpair ▸ hv
      rw [exec_completion_miss hp hr hd hk hg hh hrd, pairMiss_measured hk', endFailedPair_ends hk' hv', measured_eq]
      rfl

/-- Settles O33: a second reading by its agreement and its class; a failed VERIFY attempt by its number. -/
theorem measurementSecondAndVerify : Obligations.MeasurementSecondAndVerify := by
  intro s conv echo run c b k temp hp hr hd hc hb hk hg hh s1 agree missed mismatched adopted levelOf
  subst hc hb
  have hk' : ({ s with run := none } : State).containers[run.container]? = some k := hk
  have hpair := withTemp_pair k temp s.now
  refine ⟨fun r hs hrd hv => ⟨fun ha => ?_, fun ha => ?_⟩, fun r hs hrd hv ha => ⟨fun hnear hfloor => ?_, fun he => ?_⟩,
    fun n m news hv hn hm => ?_⟩
  · rw [exec_completion_second hp hr hd hk hg hh hs hrd, secondDone_confirms ha, adoptPair_measured hk' (hpair ▸ hv)]
    rfl
  · have hv' : (k.mismatched temp s.now).pair.cls ≠ some .verify := hpair ▸ hv
    rw [exec_completion_second hp hr hd hk hg hh hs hrd, secondDone_differs ha, pairMismatch_measured hk',
      endFailedPair_ends hk' hv']
    rfl
  · have he : k.foundEmpty r := ⟨hnear, hfloor⟩
    rw [exec_completion_second hp hr hd hk hg hh hs hrd, secondDone_confirms ha, adoptPair_verified hk' (hpair ▸ hv),
      adoptVerify_empty he, verifiedPerMille_empty he]
    rfl
  · have hn : ¬ k.foundEmpty r := by
      rintro ⟨hnear, hfloor⟩
      rcases he with h | h
      · exact absurd (hnear.symm.trans h) (by decide)
      · omega
    rw [exec_completion_second hp hr hd hk hg hh hs hrd, secondDone_confirms ha, adoptPair_verified hk' (hpair ▸ hv),
      adoptVerify_residue hn, verifiedPerMille_residue hn]
    rfl
  · have failed : exec (.measurementCompletion conv echo) s = .next ((State.endFailedPair
          (State.measured { s with run := none } run.container k temp m news) run.container).arbitrate).judgeIdle ∧
        m.pair = k.pair ∧ m.lastTemp = (k.withTemp temp s.now).lastTemp := by
      rcases hm with ⟨hrd, rfl, rfl⟩ | ⟨hs, ⟨r, hrd, ha⟩, rfl, rfl⟩
      · rw [exec_completion_miss hp hr hd hk hg hh hrd, pairMiss_measured hk']
        exact ⟨rfl, hpair, rfl⟩
      · rw [exec_completion_second hp hr hd hk hg hh hs hrd, secondDone_differs ha, pairMismatch_measured hk']
        exact ⟨rfl, hpair, rfl⟩
    obtain ⟨hexec, hmp, hml⟩ := failed
    refine ⟨fun hlt => ?_, fun hle => ?_⟩
    · rw [hexec, endFailedPair_again hk' (hmp ▸ hv) (hmp ▸ hn) hlt]
      rfl
    · have hlevel : assumedEmptyLevel m s.clock.count = assumedEmptyLevel (k.withTemp temp s.now) s.clock.count := by
        simp only [assumedEmptyLevel, hml]
      rw [hexec, endFailedPair_last hk' (hmp ▸ hv) (hmp ▸ hn) hle, hlevel]
      rfl

end Sys2Proof.Machine
end

section
/-! PROOFS. The fill arithmetic (R21, R41, R43, R45 to R50) and the reading of a completion (R22, R40, R44): O35. -/

namespace Sys2Proof.Machine

/-! ## Rounding (R41, R45, R46) -/

/-- Halves up: the quotient lies within half a divisor of the exact one, and takes the half from below. -/
theorem roundUp_bounds (n : Nat) {d : Nat} (hd : 0 < d) :
    2 * d * roundUp n d ≤ 2 * n + d ∧ 2 * n + d < 2 * d * (roundUp n d + 1) :=
  ⟨Nat.mul_div_le _ _, Nat.lt_mul_div_succ _ (by omega)⟩

/-- Away from zero is up, where the value is not negative. -/
theorem roundAway_bounds {n : Int} {d : Nat} (hd : 0 < d) (hn : 0 ≤ n) :
    2 * (d : Int) * roundAway n d ≤ 2 * n + d ∧ 2 * n + d < 2 * (d : Int) * (roundAway n d + 1) := by
  lift n to Nat using hn
  obtain ⟨low, high⟩ := roundUp_bounds n hd
  have h : roundAway n d = (roundUp n d : Int) := by simp [roundAway]
  rw [h]
  exact ⟨by exact_mod_cast low, by exact_mod_cast high⟩

/-- A negative value rounds as its opposite does. -/
theorem roundAway_of_neg {n : Int} (d : Nat) (hn : n < 0) : roundAway n d = -roundAway (-n) d := by
  rw [roundAway, roundAway, if_neg (by omega), if_pos (by omega)]

/-! ## Tables (R43, R49) -/

/-- A point of an ordered table is its first one or comes after it. -/
theorem first_or_after {α : Type} {R : α → α → Prop} {x y : α} {l : List α} (hl : (x :: l).Pairwise R)
    (hy : y ∈ x :: l) : y = x ∨ R x y :=
  (List.mem_cons.mp hy).imp_right (List.rel_of_pairwise_cons hl)

/-- The search stops at the segment that holds q: in a descending table, those before it lie wholly at q or above. -/
theorem interpolate_segment {table : List (Nat × Int)} {q : Nat} {a b : Nat × Int} (i : Nat)
    (ht : table.Pairwise fun x y => y.1 < x.1 ∧ x.2 < y.2) (ha : table[i]? = some a) (hb : table[i + 1]? = some b)
    (hqa : q ≤ a.1) (hbq : b.1 < q) :
    interpolate table q = a.2 + roundAway (((a.1 - q : Nat) : Int) * (b.2 - a.2)) (a.1 - b.1) := by
  induction table generalizing i with
  | nil => simp at ha
  | cons x rest ih =>
    cases rest with
    | nil => simp at hb
    | cons y rest =>
      cases i with
      | zero =>
        obtain rfl : x = a := by simpa using ha
        obtain rfl : y = b := by simpa using hb
        exact if_pos ⟨hqa, hbq⟩
      | succ i =>
        have hay : q ≤ y.1 := by
          rcases first_or_after ht.of_cons (List.mem_of_getElem? ha) with rfl | h
          · exact hqa
          · exact hqa.trans h.1.le
        exact (if_neg fun h => absurd h.2 (Nat.not_lt.mpr hay)).trans (ih i ht.of_cons ha hb)

/-- Temperatures at and above the table's first ratio are clamped to its first point (R43). -/
theorem temperature_first {table : List (Nat × Int)} {q : Nat} {p : Nat × Int} (hp : table[0]? = some p) (hq : p.1 ≤ q) :
    temperature table q = (p.2, true) := by
  simp [temperature, List.head?_eq_getElem?, hp, hq]

/-- Temperatures at and below the table's last ratio are clamped to its last point (R43). -/
theorem temperature_last {table : List (Nat × Int)} {q : Nat} {p f : Nat × Int} (hp : table.getLast? = some p)
    (hf : table[0]? = some f) (hqf : q < f.1) (hq : q ≤ p.1) : temperature table q = (p.2, true) := by
  simp [temperature, List.head?_eq_getElem?, hp, hf, Nat.not_le.mpr hqf, hq]

/-- Between the table's ends the temperature is interpolated (R43). -/
theorem temperature_inside {table : List (Nat × Int)} {q : Nat} {l f : Nat × Int} (hl : table.getLast? = some l)
    (hf : table[0]? = some f) (hqf : q < f.1) (hlq : l.1 < q) : temperature table q = (interpolate table q, false) := by
  simp [temperature, List.head?_eq_getElem?, hl, hf, Nat.not_le.mpr hqf, Nat.not_le.mpr hlq]

/-- In its segment the temperature climbs from the upper ratio's point by the rounded share of the segment (R43). -/
theorem temperature_segment {table : List (Nat × Int)} {q : Nat} {a b f l : Nat × Int} (i : Nat)
    (ht : table.Pairwise fun x y => y.1 < x.1 ∧ x.2 < y.2) (ha : table[i]? = some a) (hb : table[i + 1]? = some b)
    (hf : table[0]? = some f) (hl : table.getLast? = some l) (hqf : q < f.1) (hlq : l.1 < q) (hqa : q ≤ a.1)
    (hbq : b.1 < q) :
    ∃ n : Int, temperature table q = (a.2 + n, false) ∧
      2 * ((a.1 : Int) - b.1) * n ≤ 2 * (((a.1 : Int) - q) * (b.2 - a.2)) + ((a.1 : Int) - b.1) ∧
      2 * (((a.1 : Int) - q) * (b.2 - a.2)) + ((a.1 : Int) - b.1) < 2 * ((a.1 : Int) - b.1) * (n + 1) := by
  have hab : a.2 < b.2 := by
    obtain ⟨hi, rfl⟩ := List.getElem?_eq_some_iff.mp ha
    obtain ⟨hj, rfl⟩ := List.getElem?_eq_some_iff.mp hb
    exact (List.pairwise_iff_getElem.mp ht i (i + 1) hi hj i.lt_succ_self).2
  have hrise : (0 : Int) ≤ ((a.1 - q : Nat) : Int) * (b.2 - a.2) := Int.mul_nonneg (by omega) (by omega)
  have hbounds := roundAway_bounds (d := a.1 - b.1) (by omega) hrise
  rw [Nat.cast_sub (hbq.trans_le hqa).le, Nat.cast_sub hqa] at hbounds
  refine ⟨_, ?_, hbounds⟩
  rw [temperature_inside hl hf hqf hlq, interpolate_segment i ht ha hb hqa hbq, Nat.cast_sub hqa]

/-- The search goes past a point that the height has reached (R49). -/
theorem shapeVolume_reached {x y : Nat × Nat} {rest : List (Nat × Nat)} {h : Nat} (hy : y.1 ≤ h) :
    shapeVolume (x :: y :: rest) h = shapeVolume (y :: rest) h :=
  if_neg (Nat.not_lt.mpr hy)

/-- The volume in the segment that holds the height (R49): the points up to it are reached. -/
theorem shapeVolume_segment {shape : List (Nat × Nat)} {h : Nat} {a b : Nat × Nat} (i : Nat)
    (hs : shape.Pairwise fun x y => x.1 < y.1 ∧ x.2 < y.2) (ha : shape[i]? = some a) (hb : shape[i + 1]? = some b)
    (hah : a.1 ≤ h) (hhb : h < b.1) : shapeVolume shape h = a.2 + (h - a.1) * (b.2 - a.2) / (b.1 - a.1) := by
  induction shape generalizing i with
  | nil => simp at ha
  | cons x rest ih =>
    cases rest with
    | nil => simp at hb
    | cons y rest =>
      cases i with
      | zero =>
        obtain rfl : x = a := by simpa using ha
        obtain rfl : y = b := by simpa using hb
        exact if_pos hhb
      | succ i =>
        have hy : y.1 ≤ h := by
          rcases first_or_after hs.of_cons (List.mem_of_getElem? ha) with rfl | hya
          · exact hah
          · exact hya.1.le.trans hah
        exact (shapeVolume_reached hy).trans (ih i hs.of_cons ha hb)

/-- The volume at the last point of the table and above it (R49). -/
theorem shapeVolume_last {shape : List (Nat × Nat)} {h : Nat} {l : Nat × Nat}
    (hs : shape.Pairwise fun x y => x.1 < y.1 ∧ x.2 < y.2) (hl : shape.getLast? = some l) (hlh : l.1 ≤ h) :
    shapeVolume shape h = l.2 := by
  induction shape with
  | nil => simp at hl
  | cons x rest ih =>
    cases rest with
    | nil =>
      obtain rfl : x = l := by simpa using hl
      rfl
    | cons y rest =>
      have hl' : (y :: rest).getLast? = some l := by simpa using hl
      have hy : y.1 ≤ h := by
        rcases first_or_after hs.of_cons (List.mem_of_getLast? hl') with rfl | hyl
        · exact hlh
        · exact hyl.1.le.trans hlh
      exact (shapeVolume_reached hy).trans (ih hs.of_cons hl')

/-! ## Speed of sound, distance, height, per-mille (R45 to R47, R50) -/

/-- From 0 °C up the speed lies above 3,313 by the rounded quotient (R45). -/
theorem speedOfSound_of_nonneg {t : Int} (ht : 0 ≤ t) :
    ∃ n : Int, (speedOfSound t : Int) = 3313 + n ∧ 200 * n ≤ 606 * t + 100 ∧ 606 * t + 100 < 200 * (n + 1) := by
  obtain ⟨low, high⟩ := roundAway_bounds (n := 303 * t) (d := 100) (by decide) (by omega)
  refine ⟨roundAway (303 * t) 100, ?_, by omega, by omega⟩
  rw [speedOfSound, Int.toNat_of_nonneg (by omega)]

/-- Below 0 °C the speed lies under 3,313 by the rounded quotient of the opposite temperature (R45). -/
theorem speedOfSound_of_neg {t : Int} (hlow : -80 ≤ t) (ht : t < 0) :
    ∃ n : Int, (speedOfSound t : Int) = 3313 - n ∧ 200 * n ≤ 606 * (-t) + 100 ∧
      606 * (-t) + 100 < 200 * (n + 1) := by
  obtain ⟨low, high⟩ := roundAway_bounds (n := -(303 * t)) (d := 100) (by decide) (by omega)
  refine ⟨roundAway (-(303 * t)) 100, ?_, by omega, by omega⟩
  rw [speedOfSound, roundAway_of_neg 100 (by omega), Int.toNat_of_nonneg (by omega)]
  rfl

theorem distance_bounds (t c : Nat) :
    40000 * distance t c ≤ 2 * (t * c) + 20000 ∧ 2 * (t * c) + 20000 < 40000 * (distance t c + 1) :=
  roundUp_bounds (t * c) (d := 20000) (by decide)

theorem fillHeight_near {d b f : Nat} {blanked : Bool} (h : blanked = true ∨ d < b) :
    fillHeight d b f blanked = some (f - b, true) :=
  if_pos h

/-- Past the NEAR case the height is judged by the floor reference alone (R47). -/
theorem fillHeight_clear {d b f : Nat} (hb : b ≤ d) :
    fillHeight d b f false =
      if d ≤ f then some (f - d, false) else if d ≤ f + 150 then some (0, false) else none :=
  if_neg (by simpa using hb)

/-- The four cases of the fill height (R47). -/
theorem fillHeight_cases (d b f : Nat) (blanked : Bool) (hbf : b ≤ f) :
    (blanked = true ∨ d < b → fillHeight d b f blanked = some (f - b, true)) ∧
    (blanked = false → b ≤ d → d ≤ f → fillHeight d b f blanked = some (f - d, false)) ∧
    (blanked = false → b ≤ d → f < d → d ≤ f + 150 → fillHeight d b f blanked = some (0, false)) ∧
    (blanked = false → f + 150 < d → fillHeight d b f blanked = none) := by
  refine ⟨fillHeight_near, ?_, ?_, ?_⟩
  · rintro rfl hb hd
    rw [fillHeight_clear hb, if_pos hd]
  · rintro rfl hb hf hd
    rw [fillHeight_clear hb, if_neg (by omega), if_pos hd]
  · rintro rfl hd
    rw [fillHeight_clear (by omega), if_neg (by omega), if_neg (by omega)]

theorem perMille_bounds (v : Nat) {c : Nat} (hc : 0 < c) :
    perMille v c * c ≤ v * 1000 ∧ v * 1000 < (perMille v c + 1) * c :=
  ⟨Nat.div_mul_le_self _ _, (Nat.div_lt_iff_lt_mul hc).mp (Nat.lt_succ_self _)⟩

/-! ## The echo capture (R21) -/

/-- In an ascending list the first element that passes is the least one that does. -/
theorem find?_eq_least {l : List Nat} {p : Nat → Bool} {t : Nat} (hl : l.Pairwise (· < ·)) (ht : t ∈ l)
    (hp : p t = true) (hmin : ∀ u ∈ l, p u = true → t ≤ u) : l.find? p = some t := by
  obtain ⟨u, hu⟩ := Option.isSome_iff_exists.mp (List.find?_isSome.mpr ⟨t, ht, hp⟩)
  obtain ⟨hpu, front, back, rfl, hfront⟩ := List.find?_eq_some_iff_append.mp hu
  have htu : t ≤ u := hmin u (by simp) hpu
  rcases List.mem_append.mp ht with hf | hb
  · simpa [hp] using hfront t hf
  · rcases first_or_after (List.pairwise_append.mp hl).2.1 hb with rfl | hlt
    · exact hu
    · exact absurd htu (Nat.not_le.mpr hlt)

theorem echoCapture_blanked (b : Nat) {e : EchoSignal} (he : e.aboveAtBlankingEnd = true) :
    echoCapture b e = some (blankingTime b, true) :=
  if_pos he

/-- With no signal at the end of the blanking the crossings are searched in order (R21). -/
theorem echoCapture_search (b : Nat) {e : EchoSignal} (he : e.aboveAtBlankingEnd = false) :
    echoCapture b e =
      (e.crossings.find? fun t => decide (blankingTime b ≤ t ∧ t ≤ 30000)).map fun t => (t, false) :=
  if_neg (he ▸ Bool.false_ne_true)

/-- The capture takes the earliest crossing from the end of the blanking to 30,000 µs (R21). -/
theorem echoCapture_crossing {b : Nat} {e : EchoSignal} {t : Nat} (he : e.aboveAtBlankingEnd = false)
    (hs : e.crossings.Pairwise (· < ·)) (ht : t ∈ e.crossings) (hbt : blankingTime b ≤ t) (ht' : t ≤ 30000)
    (hmin : ∀ u ∈ e.crossings, blankingTime b ≤ u → t ≤ u) : echoCapture b e = some (t, false) := by
  rw [echoCapture_search b he, find?_eq_least hs ht (decide_eq_true ⟨hbt, ht'⟩)
    fun u hu hp => hmin u hu (of_decide_eq_true hp).1]
  rfl

/-- Crossings outside that window are passed over (R21). -/
theorem echoCapture_miss {b : Nat} {e : EchoSignal} (he : e.aboveAtBlankingEnd = false)
    (hout : ∀ t ∈ e.crossings, t < blankingTime b ∨ 30000 < t) : echoCapture b e = none := by
  have hnone : ∀ t ∈ e.crossings, ¬ decide (blankingTime b ≤ t ∧ t ≤ 30000) = true := fun t ht hp =>
    (hout t ht).elim (Nat.not_lt.mpr (of_decide_eq_true hp).1) (Nat.not_lt.mpr (of_decide_eq_true hp).2)
  rw [echoCapture_search b he, List.find?_eq_none.mpr hnone]
  rfl

/-! ## The reading of a completion (R22, R40, R44) -/

/-- The shape table that a container names in the running configuration (R3, R48). -/
theorem shapeOf_named {s : State} {k : Container} {g : StationConfig} {shape : List (Nat × Nat)}
    (hg : s.store.running = some g) (hs : g.shapes[k.cfg.shape]? = some shape) : s.shapeOf k = shape := by
  simp [State.shapeOf, hg, hs]

theorem shapeCapacity_eq {shape : List (Nat × Nat)} {last : Nat × Nat} (hl : shape.getLast? = some last) :
    shapeCapacity shape = last.2 := by
  simp [shapeCapacity, hl]

theorem completionReading_miss {k : Container} {echo : EchoSignal} (s : State) (temp : Option (Int × Bool))
    (he : echoCapture k.cfg.blanking echo = none) : s.completionReading k temp echo = none := by
  simp [State.completionReading, he]

/-- The reading of a captured echo, at the conversion's temperature or the substitute (R44). -/
theorem completionReading_echo {k : Container} {echo : EchoSignal} {t : Nat} {blanked : Bool} (s : State)
    (temp : Option (Int × Bool)) (he : echoCapture k.cfg.blanking echo = some (t, blanked)) :
    s.completionReading k temp echo =
      reading (s.shapeOf k) k.cfg.blanking k.floorRef ((temp.map Prod.fst).getD substituteTHalf) t blanked := by
  simp [State.completionReading, he]

theorem reading_beyond {b f t : Nat} {tHalf : Int} {blanked : Bool} (shape : List (Nat × Nat))
    (hh : fillHeight (distance t (speedOfSound tHalf)) b f blanked = none) :
    reading shape b f tHalf t blanked = none := by
  simp [reading, hh]

theorem reading_height {b f t h : Nat} {tHalf : Int} {blanked near : Bool} (shape : List (Nat × Nat))
    (hh : fillHeight (distance t (speedOfSound tHalf)) b f blanked = some (h, near)) :
    reading shape b f tHalf t blanked = some
      { distance := distance t (speedOfSound tHalf), height := h, volume := shapeVolume shape h
        perMille := perMille (shapeVolume shape h) (shapeCapacity shape), tHalf := tHalf, near := near } := by
  simp [reading, hh]

/-- Settles O35: each stage by the lemma on its function, and the reading by the echo and then the height. -/
theorem fillArithmetic : Obligations.FillArithmetic := by
  refine ⟨fun ns => roundUp_bounds 4194304, fun table q ht => ⟨fun p => temperature_first,
      fun p f => temperature_last, fun i a b f l => temperature_segment i ht⟩,
    fun t hlow _ => ⟨speedOfSound_of_nonneg, speedOfSound_of_neg hlow⟩, distance_bounds, fillHeight_cases,
    fun shape h hs => ⟨fun i a b => shapeVolume_segment i hs, fun l => shapeVolume_last hs⟩,
    fun v c => perMille_bounds v,
    fun b e => ⟨echoCapture_blanked b, fun he hs => ⟨fun t => echoCapture_crossing he hs, echoCapture_miss he⟩⟩,
    fun s k temp echo g shape last hg hs hl => ?_⟩
  have hshape := shapeOf_named hg hs
  have hcap := shapeCapacity_eq hl
  refine ⟨by rw [State.capacity, hshape, hcap], completionReading_miss s temp, fun t blanked tHalf he hT => ?_⟩
  have htemp : (temp.map Prod.fst).getD substituteTHalf = tHalf := by
    rw [hT]
    cases temp <;> rfl
  have hread := completionReading_echo s temp he
  rw [htemp, hshape] at hread
  refine ⟨fun hh => ?_, fun h near hh => ?_⟩
  · rw [hread, reading_beyond shape hh]
  · rw [hread, reading_height shape hh, hcap]

end Sys2Proof.Machine
end

section
/-! PROOFS. The threshold unit's judgements, each as one change of the state (R58 to R63), and the end of an emptying as one
change and an evaluation (R62, R122, R146): O36, O37. -/

namespace Sys2Proof.Machine

/-- Attention is raised in the ports and nowhere else. -/
theorem raiseIf_mapPorts (b : Bool) (a : AttentionKind) : ∃ f, ∀ s : State, s.raiseIf b a = s.mapPorts f := by
  cases b
  · exact ⟨id, fun _ => rfl⟩
  · exact ⟨_, fun _ => rfl⟩

/-! ## Due (R59, R60) -/

theorem isDue_iff (s : State) (c : Nat) : s.isDue c = true ↔ ∃ e ∈ s.dueList, e.container = c := by simp [State.isDue]

/-- What the judgement of due can do: leave the list, take the listed container off it, put an unlisted one on it. -/
theorem judgeDue_cases (s : State) (c : Nat) (k : Container) (pe : Nat) :
    s.judgeDue c k pe = s ∨ (s.isDue c = true ∧ s.judgeDue c k pe = s.leaveDueList c) ∨
      (s.isDue c = false ∧ s.judgeDue c k pe = s.joinDueList c pe) := by
  unfold State.judgeDue
  split
  · next hd =>
    split
    · exact .inr (.inl ⟨hd, rfl⟩)
    · exact .inl rfl
  · next hd =>
    split
    · exact .inr (.inr ⟨by simpa using hd, rfl⟩)
    · exact .inl rfl

theorem leaveDueList_changes {s : State} {c : Nat} (h : s.isDue c = true) : (s.leaveDueList c).dueList ≠ s.dueList := by
  obtain ⟨e, he, hc⟩ := (isDue_iff s c).mp h
  intro hl
  rw [← hl] at he
  simp [State.leaveDueList, hc] at he

theorem joinDueList_changes (s : State) (c pe : Nat) : (s.joinDueList c pe).dueList ≠ s.dueList := by
  simp [State.joinDueList]

/-- The judgement of due changes the list and nothing else, and raises DUE exactly where it does. -/
theorem judgeDue_eq (s : State) (c : Nat) (k : Container) (pe : Nat) :
    s.judgeDue c k pe = ({ s with dueList := (s.judgeDue c k pe).dueList } : State).raiseIf
      (decide ((s.judgeDue c k pe).dueList ≠ s.dueList)) .due := by
  rcases judgeDue_cases s c k pe with h | ⟨hd, h⟩ | ⟨-, h⟩ <;> rw [h]
  · simp [State.raiseIf]
  · rw [decide_eq_true (leaveDueList_changes hd)]
    rfl
  · rw [decide_eq_true (joinDueList_changes s c pe)]
    rfl

section
variable {s : State} {c pe : Nat} {k : Container}

theorem judgeDue_stays (hd : s.isDue c = true) (h : k.cfg.dueAt ≤ pe + 100) : (s.judgeDue c k pe).dueList = s.dueList := by
  rw [State.judgeDue, if_pos hd, if_neg (by omega)]

theorem judgeDue_leaves (hd : s.isDue c = true) (h : pe + 100 < k.cfg.dueAt) :
    (s.judgeDue c k pe).dueList = s.dueList.filter fun e => decide (e.container ≠ c) := by
  rw [State.judgeDue, if_pos hd, if_pos h]
  rfl

theorem judgeDue_stays_off (hd : ¬ s.isDue c = true) (h : pe < k.cfg.dueAt) :
    (s.judgeDue c k pe).dueList = s.dueList := by
  rw [State.judgeDue, if_neg hd, if_neg (by omega)]

theorem judgeDue_joins (hd : ¬ s.isDue c = true) (h : k.cfg.dueAt ≤ pe) :
    (s.judgeDue c k pe).dueList = s.dueList ++ [⟨c, s.clock.count, !s.clock.set, pe⟩] := by
  rw [State.judgeDue, if_neg hd, if_pos h]
  rfl

/-! ## Full (R63) -/

theorem setFull_eq (b : Bool) (hk : s.containers[c]? = some k) :
    s.setFull c b = ({ s with containers := s.containers.set c { k with full := b } } : State).raise .full := by
  rw [State.setFull, updContainer_eq_set _ hk]

/-- The judgement of full writes the flag and nothing else, and raises FULL where the flag changes. -/
theorem judgeFull_eq (pe : Nat) (hk : s.containers[c]? = some k) :
    s.judgeFull c k pe = ({ s with
      containers := s.containers.set c { k with
        full := if k.full then decide (k.cfg.fullAt ≤ pe + 50) else decide (k.cfg.fullAt ≤ pe) } } : State).raiseIf
          (if k.full then decide (pe + 50 < k.cfg.fullAt) else decide (k.cfg.fullAt ≤ pe)) .full := by
  have stays : ∀ b, b = k.full → s.containers.set c { k with full := b } = s.containers :=
    fun b hb => by rw [hb, set_self hk]
  unfold State.judgeFull
  by_cases hf : k.full = true
  · by_cases h : pe + 50 < k.cfg.fullAt
    · rw [if_pos hf, if_pos h, if_pos hf, if_pos hf, setFull_eq _ hk, decide_eq_true h, decide_eq_false (by omega)]
      rfl
    · rw [if_pos hf, if_neg h, if_pos hf, if_pos hf, decide_eq_false h, stays _ (by rw [hf, decide_eq_true (by omega)])]
      rfl
  · by_cases h : k.cfg.fullAt ≤ pe
    · rw [if_neg hf, if_pos h, if_neg hf, if_neg hf, setFull_eq _ hk, decide_eq_true h]
      rfl
    · rw [if_neg hf, if_neg h, if_neg hf, if_neg hf, decide_eq_false h, stays _ (by simpa using hf)]
      rfl

/-! ## An evaluation (R56, R58) -/

theorem evaluate_absent (hk : s.containers[c]? = some k) (hl : k.level = none) : s.evaluate c = s := by
  simp [State.evaluate, Container.estimatePerMille, Container.estimate, hk, hl]

theorem evaluate_handed {l : Level} (hk : s.containers[c]? = some k) (hl : k.level = some l)
    (hpe : pe = min (l.volume + k.added) (s.capacity k) * 1000 / s.capacity k) :
    s.evaluate c = (s.judgeDue c k pe).judgeFull c k pe := by
  simp [State.evaluate, Container.estimatePerMille, Container.estimate, perMille, hk, hl, hpe]

/-- An evaluation: the list as due is judged, the flag as full is judged, and the attention of both. -/
theorem evaluate_eq {l : Level} (hk : s.containers[c]? = some k) (hl : k.level = some l)
    (hpe : pe = min (l.volume + k.added) (s.capacity k) * 1000 / s.capacity k) :
    s.evaluate c = (({ s with
      dueList := (s.judgeDue c k pe).dueList
      containers := s.containers.set c { k with
        full := if k.full then decide (k.cfg.fullAt ≤ pe + 50) else decide (k.cfg.fullAt ≤ pe) } } : State).raiseIf
          (decide ((s.judgeDue c k pe).dueList ≠ s.dueList)) .due).raiseIf
          (if k.full then decide (pe + 50 < k.cfg.fullAt) else decide (k.cfg.fullAt ≤ pe)) .full := by
  have hd := judgeDue_eq s c k pe
  generalize (s.judgeDue c k pe).dueList = d at hd ⊢
  obtain ⟨f, hf⟩ := raiseIf_mapPorts (decide (d ≠ s.dueList)) .due
  rw [evaluate_handed hk hl hpe, judgeFull_eq pe (by simpa using hk), hd, hf, hf]
  rfl

theorem evaluate_dueList {l : Level} (hk : s.containers[c]? = some k) (hl : k.level = some l)
    (hpe : pe = min (l.volume + k.added) (s.capacity k) * 1000 / s.capacity k) :
    (s.evaluate c).dueList = (s.judgeDue c k pe).dueList := by
  simp [evaluate_handed hk hl hpe]

end

/-- Settles O36: the list by the judgement of due, the flag by the judgement of full. -/
theorem thresholdEvaluation : Obligations.ThresholdEvaluation := by
  intro s c k hk
  refine ⟨evaluate_absent hk, fun l hl => ?_⟩
  intro pe due
  have listed : due ↔ s.isDue c = true := (isDue_iff s c).symm
  rw [evaluate_dueList hk hl rfl, listed]
  exact ⟨judgeDue_stays, judgeDue_leaves, judgeDue_stays_off, judgeDue_joins, evaluate_eq hk hl rfl⟩

/-! ## The end of an emptying (R62, R146) -/

section
variable {s : State} {c : Nat} {k : Container}

theorem filter_unlisted (hd : ¬ s.isDue c = true) :
    (s.dueList.filter fun e => decide (e.container ≠ c)) = s.dueList := by
  rw [List.filter_eq_self]
  intro e he
  exact decide_eq_true fun hc => hd ((isDue_iff s c).mpr ⟨e, he, hc⟩)

/-- The clean-up takes the container off the list and clears its flag, each with its attention where it was there (R62). -/
theorem cleanUp_eq (hk : s.containers[c]? = some k) :
    s.cleanUp c = (({ s with
      dueList := s.dueList.filter fun e => decide (e.container ≠ c)
      containers := s.containers.set c { k with full := false } } : State).raiseIf (s.isDue c) .due).raiseIf k.full
        .full := by
  have hd : (if s.isDue c = true then s.leaveDueList c else s) =
      ({ s with dueList := s.dueList.filter fun e => decide (e.container ≠ c) } : State).raiseIf (s.isDue c) .due := by
    split
    · next hd => rw [hd]; rfl
    · next hd => rw [filter_unlisted hd, Bool.not_eq_true _ |>.mp hd]; rfl
  obtain ⟨f, hf⟩ := raiseIf_mapPorts (s.isDue c) .due
  rw [hf] at hd ⊢
  unfold State.cleanUp
  dsimp only
  rw [hd]
  simp only [State.mapPorts_frame, hk]
  split
  · next hf =>
    rw [setFull_eq false (by simpa using hk), hf]
    rfl
  · next hf =>
    have hf : k.full = false := by simpa using hf
    have hs : s.containers.set c { k with full := false } = s.containers := by rw [← hf, set_self hk]
    rw [hs, hf]
    rfl

theorem judgeDue_withLift (s : State) (l : LiftController) (c : Nat) (k : Container) (pe : Nat) :
    ({ s with lift := l } : State).judgeDue c k pe = { s.judgeDue c k pe with lift := l } := by
  have hd : ({ s with lift := l } : State).isDue c = s.isDue c := rfl
  unfold State.judgeDue
  rw [hd]
  split <;> split <;> rfl

theorem judgeFull_withLift (s : State) (l : LiftController) (c : Nat) (k : Container) (pe : Nat) :
    ({ s with lift := l } : State).judgeFull c k pe = { s.judgeFull c k pe with lift := l } := by
  unfold State.judgeFull
  split <;> split <;> rfl

/-- An evaluation neither reads nor touches the emptying controller. -/
theorem evaluate_withLift (l : LiftController) (hk : s.containers[c]? = some k) :
    ({ s with lift := l } : State).evaluate c = { s.evaluate c with lift := l } := by
  rcases hl : k.level with _ | x
  · rw [evaluate_absent hk hl, evaluate_absent (s := { s with lift := l }) hk hl]
  · rw [evaluate_handed hk hl rfl, evaluate_handed (s := { s with lift := l }) hk hl rfl, judgeDue_withLift,
      judgeFull_withLift]
    rfl

/-- Steps 3 to 5 of the end of an emptying as one change: the note, the clean-up, the state (R146). -/
theorem emptied_eq (hk : s.containers[c]? = some k) :
    (((s.updContainer c fun x => { x with note := none }).cleanUp c).updContainer c fun x => { x with state := .serving }) =
      (({ s with
        dueList := s.dueList.filter fun e => decide (e.container ≠ c)
        containers := s.containers.set c { k with note := none, state := .serving, full := false } } : State).raiseIf
          (s.isDue c) .due).raiseIf k.full .full := by
  obtain ⟨f, hf⟩ := raiseIf_mapPorts (s.isDue c) .due
  obtain ⟨g, hg⟩ := raiseIf_mapPorts k.full .full
  have cleaned := cleanUp_eq (s := { s with containers := s.containers.set c { k with note := none } }) (set_get _ hk)
  have due : ({ s with containers := s.containers.set c { k with note := none } } : State).isDue c = s.isDue c := rfl
  dsimp only at cleaned
  rw [due, hf, hg, List.set_set] at cleaned
  rw [updContainer_eq_set _ hk, cleaned, updContainer_eq_set _ (set_get { k with note := none, full := false } hk), hf, hg]
  simp only [State.mapPorts_frame, List.set_set]
  rfl

/-- The last lift result may be written before the evaluation as well as after it. -/
theorem evaluate_setLastLift (d : Nat) (e : LiftEnding) (hk : s.containers[c]? = some k) :
    (s.evaluate c).setLastLift d e = (s.setLastLift d e).evaluate c := by
  have hl : ({ (s.evaluate c).lift with last := some ⟨d, e, (s.evaluate c).clock.count⟩ } : LiftController) =
      (s.setLastLift d e).lift := by simp [State.setLastLift]
  rw [State.setLastLift, hl]
  exact (evaluate_withLift _ hk).symm

end

/-- Settles O37: steps 2 to 5 as one change; the evaluation does not see the lift result, which step 7 writes after it. -/
theorem emptyingEnds : Obligations.EmptyingEnds := by
  intro s c k n after verified e hk hn
  refine ⟨_, rfl, ?_⟩
  have hrec : emptyingRecord k.note after verified =
      .emptying n.vehicle n.before after (n.attended.getD false) verified := by
    rw [hn]
    rfl
  simp only [State.finishEmptying, hk]
  rw [hrec]
  generalize hj : s.journalRecord c (.emptying n.vehicle n.before after (n.attended.getD false) verified) = j
  have hlist : j.dueList = s.dueList := by simp [← hj]
  have hrecords : j.containers = s.containers := by simp [← hj]
  have hlift : j.lift = s.lift := by simp [← hj]
  have hclock : j.clock = s.clock := by simp [← hj]
  have hdue : s.isDue c = j.isDue c := by rw [State.isDue, State.isDue, hlist]
  obtain ⟨f, hf⟩ := raiseIf_mapPorts (j.isDue c) .due
  obtain ⟨g, hg⟩ := raiseIf_mapPorts k.full .full
  rw [emptied_eq (by rw [hrecords, hk]),
    evaluate_setLastLift c e (k := { k with note := none, state := .serving, full := false })
      (by simpa [hrecords] using set_get _ hk),
    hdue, hf, hf, hg, hg, ← hlist, ← hrecords, ← hlift, ← hclock]
  rfl

end Sys2Proof.Machine
end

section
/-! PROOFS. The machine right after reset is sound: no container, inlet, card or journal entry is there yet (R61, R93, R118,
R138, R155, R170, R173, R181): O8. -/

namespace Sys2Proof.Machine

theorem reset_journalSound : State.reset.JournalSound where
  journal := ⟨by decide, by decide, rfl, nofun, by decide, by decide, nofun, nofun⟩
  cursors p := by cases p <;> decide

theorem reset_cardsSound : State.reset.cards.Sound where
  ascending := .nil
  places := by decide
  entries := nofun

theorem reset_storeSound : State.reset.store.Sound where
  memory := reset_memory_wf
  writes := nofun

theorem reset_dueListSound : State.reset.DueListSound where
  containers := by decide
  configured := nofun
  once := .nil

theorem reset_liftSound : State.reset.LiftSound :=
  liftSound_of_unclaimed (fun _ _ h => by simp [State.reset] at h) (fun _ _ _ _ h => by simp [State.reset] at h) rfl rfl
    rfl rfl rfl

theorem reset_inletsSound : State.reset.InletsSound where
  places := by decide
  records _ h := absurd h List.not_mem_nil
  locked _ h := absurd h List.not_mem_nil

theorem PortBlock.reset_sound : PortBlock.reset.Sound where
  receiving := nofun
  discarded := by decide
  mask := rfl

theorem reset_portsSound : State.reset.PortsSound := fun p => by cases p <;> exact PortBlock.reset_sound

theorem reset_wakeSound : State.reset.WakeSound where
  idleTimer := nofun
  held := nofun
  settleEnd := by decide
  wakeTimer := nofun
  unconfigured _ := rfl

/-- Settles O8: one invariant after another. -/
theorem resetIsSound : Obligations.ResetIsSound :=
  ⟨reset_journalSound, reset_cardsSound, reset_storeSound, reset_dueListSound, reset_liftSound, reset_inletsSound,
    reset_portsSound, reset_wakeSound, Nat.zero_le _⟩

end Sys2Proof.Machine
end

section
/-! PROOFS. The number of containers: no operation but a reset makes or drops a container's record (R2, R4, R18). -/

namespace Sys2Proof.Machine

@[simp] theorem detachPair_length (s : State) (c : Nat) : (s.detachPair c).containers.length = s.containers.length :=
  updContainer_length s c _

@[simp] theorem endClaim_length (s : State) (c : Nat) (e : LiftEnding) :
    (s.endClaim c e).containers.length = s.containers.length := updContainer_length s c _

@[simp] theorem takeDueEvent_length (s : State) (c : Nat) : (s.takeDueEvent c).containers.length = s.containers.length :=
  updContainer_length s c _

@[simp] theorem takeHeldDue_length (s : State) (c : Nat) : (s.takeHeldDue c).containers.length = s.containers.length := by
  unfold State.takeHeldDue
  repeat' split
  all_goals simp

@[simp] theorem requestPair_length (s : State) (c : Nat) (cls : PairClass) :
    (s.requestPair c cls).containers.length = s.containers.length := updContainer_length s c _

@[simp] theorem setFull_length (s : State) (c : Nat) (b : Bool) :
    (s.setFull c b).containers.length = s.containers.length := updContainer_length s c _

@[simp] theorem judgeFull_length (s : State) (c : Nat) (k : Container) (pe : Nat) :
    (s.judgeFull c k pe).containers.length = s.containers.length := by
  rcases judgeFull_containers s c k pe with h | ⟨b, h⟩ <;> simp [h]

@[simp] theorem judgeRelease_length (s : State) (c : Nat) : (s.judgeRelease c).containers.length = s.containers.length := by
  unfold State.judgeRelease
  split <;> simp

@[simp] theorem endWait_length (s : State) (st : ServiceState) (e : LiftEnding) :
    (s.endWait st e).containers.length = s.containers.length := by
  unfold State.endWait
  split <;> simp

@[simp] theorem loseCarrier_length (s : State) : s.loseCarrier.containers.length = s.containers.length := by
  unfold State.loseCarrier
  dsimp only
  repeat' split
  all_goals simp

@[simp] theorem displace_length (s : State) (c : Nat) : (s.displace c).containers.length = s.containers.length := by
  simp [State.displace]

@[simp] theorem takeLift_length (s : State) (c : Nat) (k : Container) :
    (s.takeLift c k).containers.length = s.containers.length := by
  simp [State.takeLift]

@[simp] theorem takeReseat_length (s : State) (c : Nat) : (s.takeReseat c).containers.length = s.containers.length := by
  unfold State.takeReseat
  repeat' split
  all_goals simp [State.reseatLifted, State.reseatDisplaced]

@[simp] theorem becomeHot_length (s : State) (c : Nat) : (s.becomeHot c).containers.length = s.containers.length := by
  unfold State.becomeHot
  dsimp only
  split <;> simp

@[simp] theorem takeTemperature_length (s : State) (c : Nat) (k : Container) (temp : Option (Int × Bool)) :
    (s.takeTemperature c k temp).containers.length = s.containers.length := by
  unfold State.takeTemperature State.temperatureFault State.temperatureValid
  dsimp only
  repeat' split
  all_goals simp

@[simp] theorem watchContainers_length (s : State) (n : Nat) (ks : List Container) :
    (watchContainers s n ks).length = ks.length := by
  induction ks generalizing n with
  | nil => rfl
  | cons k ks ih => simp [watchContainers, ih]

@[simp] theorem tick_length (s : State) : s.tick.containers.length = s.containers.length := by
  unfold State.tick
  split <;> simp

/-! ## Requests -/

section
variable (p : Port) (ps : List Byte) (s : State)

@[simp] theorem bodySuspendContainer_length :
    (bodySuspendContainer p ps s).1.containers.length = s.containers.length := by
  unfold bodySuspendContainer
  repeat' split
  all_goals simp [refuse, done]

@[simp] theorem bodyResumeContainer_length :
    (bodyResumeContainer p ps s).1.containers.length = s.containers.length := by
  unfold bodyResumeContainer
  repeat' split
  all_goals simp [refuse, done]

@[simp] theorem bodyMeasureNow_length : (bodyMeasureNow p ps s).1.containers.length = s.containers.length := by
  unfold bodyMeasureNow
  repeat' split
  all_goals simp [refuse, done]

@[simp] theorem bodyClearHeat_length : (bodyClearHeat p ps s).1.containers.length = s.containers.length := by
  unfold bodyClearHeat
  repeat' split
  all_goals simp [refuse, done]

@[simp] theorem bodyClaimLift_length : (bodyClaimLift p ps s).1.containers.length = s.containers.length := by
  unfold bodyClaimLift State.acceptClaim
  dsimp only
  split <;> simp [refuse]

@[simp] theorem bodyCancelLift_length : (bodyCancelLift p ps s).1.containers.length = s.containers.length := by
  unfold bodyCancelLift
  repeat' split
  all_goals simp [refuse, done]

end

end Sys2Proof.Machine
end

section
/-! PROOFS. What every step keeps, for a property of what the station writes down: how many containers it has, the due list,
the card table, the journal with the ports' cursors in it, the configuration store and the clock. Few of a step's operations
touch these, and a property which each of them keeps is kept by every step. -/

namespace Sys2Proof.Machine

/-- What the station writes down stands in t as it stands in s. -/
structure SameBooks (s t : State) : Prop where
  count : t.containers.length = s.containers.length
  dueList : t.dueList = s.dueList
  cards : t.cards = s.cards
  journal : t.journal = s.journal
  cursors : ∀ p, (t.ports.get p).journalCursor = (s.ports.get p).journalCursor
  store : t.store = s.store
  clock : t.clock = s.clock

/-! ## Operations that leave the books -/

@[simp] theorem raise_cursor (s : State) (a : AttentionKind) (p : Port) :
    ((s.raise a).ports.get p).journalCursor = (s.ports.get p).journalCursor := by
  cases p <;> rfl

@[simp] theorem raiseIf_cursor (s : State) (b : Bool) (a : AttentionKind) (p : Port) :
    ((s.raiseIf b a).ports.get p).journalCursor = (s.ports.get p).journalCursor := by
  unfold State.raiseIf
  split <;> simp

@[simp] theorem mapPorts_cursor {f : PortBlock → PortBlock} (hf : ∀ b, (f b).journalCursor = b.journalCursor) (ps : Ports)
    (p : Port) : ((ps.map f).get p).journalCursor = (ps.get p).journalCursor := by
  cases p <;> exact hf _

theorem upd_cursor {f : PortBlock → PortBlock} (hf : ∀ b, (f b).journalCursor = b.journalCursor) (ps : Ports) (p q : Port) :
    ((ps.upd p f).get q).journalCursor = (ps.get q).journalCursor := by
  cases p <;> cases q <;> simp [Ports.upd, Ports.get, hf]

/-- A change of one port that leaves its journal cursor. -/
theorem updPort_sameBooks (s : State) (p : Port) {f : PortBlock → PortBlock}
    (hf : ∀ b, (f b).journalCursor = b.journalCursor) : SameBooks s (s.updPort p f) :=
  ⟨rfl, rfl, rfl, rfl, upd_cursor hf s.ports p, rfl, rfl⟩

theorem takeLidOpening_sameBooks (s : State) (i t : Nat) : SameBooks s (s.takeLidOpening i t) := by
  refine ⟨by simp, by simp, by simp, by simp, fun p => ?_, by simp, by simp⟩
  unfold State.takeLidOpening
  repeat' split
  all_goals simp

theorem takeRead_sameBooks (s : State) (i n : Nat) : SameBooks s (s.takeRead i n) := by
  refine ⟨by simp, by simp, by simp, by simp, fun p => ?_, by simp, by simp⟩
  have slot : ∀ x, ((s.decideSlot i n x).ports.get p).journalCursor = (s.ports.get p).journalCursor := by
    intro x
    unfold State.decideSlot
    repeat' split
    all_goals simp [State.postQuery]
  unfold State.takeRead
  repeat' split
  all_goals simp [slot]

theorem takeLimit_sameBooks (s : State) (i : Nat) : SameBooks s (s.takeLimit i) :=
  ⟨rfl, rfl, rfl, rfl, raise_cursor _ _, rfl, rfl⟩

theorem endWait_sameBooks (s : State) (st : ServiceState) (e : LiftEnding) : SameBooks s (s.endWait st e) := by
  refine ⟨by simp, by simp, by simp, by simp, fun p => ?_, by simp, by simp⟩
  unfold State.endWait State.endClaim
  split <;> simp

theorem loseCarrier_sameBooks (s : State) : SameBooks s s.loseCarrier := by
  refine ⟨by simp, by simp, by simp, by simp, fun p => ?_, by simp, by simp⟩
  unfold State.loseCarrier State.endClaim
  dsimp only
  repeat' split
  all_goals simp

/-- Each operation that touches the books keeps P. -/
structure BooksKept (P : State → Prop) : Prop where
  congr {s t : State} : P s → SameBooks s t → P t
  unpowered {s : State} (q : Power) : P s → P (s.unpowered q)
  powerOnEnd {s : State} (l : FieldLines) (b : Bool) : P s → P (s.powerOnEnd l b)
  body (p : Port) (ps : List Byte) : ∀ r ∈ requestIndex, ∀ s, P s → P (r.body p ps s).1
  lidClosing {s : State} (i t : Nat) : P s → P (s.takeLidClosing i t)
  seat {s : State} (c : Nat) (b : Bool) : P s → P (s.takeSeat c b)
  completion {s : State} (conv : Conversion) (echo : EchoSignal) : P s → P (s.takeCompletion conv echo)
  warmRestart {s : State} : P s → P s.warmRestart
  configRestart {s : State} {m : List Host.Cell} {g : StationConfig} : judgeImage m = some g → P s → P (s.configRestart g)
  completeWrite {s : State} : P s → P s.completeWrite
  releaseWriter {s : State} : P s → P { s with store := s.store.releaseWriter }
  checkEnded {s : State} : P s → P { s with store := { s.store with check := none } }
  clockCount {s : State} : P s → P ({ s with clock := s.clock.tick } : State).judgePeriod

namespace BooksKept

variable {P : State → Prop} (K : BooksKept P)
include K

/-- The ports' cursors stand where the ports do. -/
theorem frame {s t : State} (h : P s) (count : t.containers.length = s.containers.length) (dueList : t.dueList = s.dueList)
    (cards : t.cards = s.cards) (journal : t.journal = s.journal) (ports : t.ports = s.ports) (store : t.store = s.store)
    (clock : t.clock = s.clock) : P t :=
  K.congr h ⟨count, dueList, cards, journal, fun p => by rw [ports], store, clock⟩

theorem updPort {s : State} (p : Port) {f : PortBlock → PortBlock} (hf : ∀ b, (f b).journalCursor = b.journalCursor)
    (h : P s) : P (s.updPort p f) := K.congr h (updPort_sameBooks s p hf)

theorem judgeIdle {s : State} (h : P s) : P s.judgeIdle := K.frame h rfl rfl rfl rfl rfl rfl rfl

theorem advanceTo {s : State} (t : Nat) (h : P s) : P (s.advanceTo t) := K.frame h rfl rfl rfl rfl rfl rfl rfl

theorem hold {s : State} (c : HeldCause) (h : P s) : P (s.hold c) := by
  apply K.frame h <;> simp

theorem arbitrate {s : State} (h : P s) : P s.arbitrate := by
  apply K.frame h <;> simp

/-! ## Ports -/

theorem answerHeld (p : Port) (held : PortState) (st : Status) {s : State} (h : P s) : P (s.answerHeld p held st) := by
  unfold State.answerHeld
  split
  · exact K.updPort p (fun _ => rfl) h
  · exact h
  · exact h

theorem take {r : Request} (hr : r ∈ requestIndex) (p : Port) (tag : Byte) (ps : List Byte) {s : State} (h : P s) :
    P (r.take p tag ps s) := by
  have held : P (s.holdPort p r.row.code tag) := K.updPort p (fun _ => rfl) h
  unfold Request.take
  split
  · exact K.updPort p (fun _ => rfl) held
  · unfold answerRequest
    dsimp only
    split
    · exact K.updPort p (fun _ => rfl) (K.body p ps r hr _ held)
    · exact K.body p ps r hr _ held

theorem takeFrame (p : Port) (code tag : Byte) (ps : List Byte) {s : State} (h : P s) :
    P (s.takeFrame p code tag ps) := by
  unfold State.takeFrame
  split
  · exact K.take (requestOf_mem ‹_›) p tag ps h
  · exact K.updPort p (fun _ => rfl) (K.updPort p (fun _ => rfl) h)

theorem receiveByte (p : Port) (b : RxByte) {s : State} (h : P s) : P (s.receiveByte p b) := by
  have gap : P (s.startGap p) := K.updPort p (fun _ => rfl) h
  rcases receiveByte_cases s p b with e | ⟨r, e⟩ | ⟨r, e⟩ | ⟨code, tag, ps, e⟩ <;> rw [e]
  · exact gap
  · exact K.updPort p (fun _ => rfl) gap
  · exact K.updPort p (fun _ => rfl) gap
  · exact K.takeFrame p code tag ps (K.updPort p (fun _ => rfl) gap)

theorem receiveRun (p : Port) (bs : List RxByte) {s : State} (h : P s) : P (s.receiveRun p bs) := by
  have events : P (s.receiveEvents p bs) :=
    List.foldlRecOn bs _ h fun _ ht b _ => K.judgeIdle (K.receiveByte p b ht)
  unfold State.receiveRun
  repeat' split
  · exact h
  · exact events
  · exact K.hold _ h

theorem arrive {r : Request} (hr : r ∈ requestIndex) (p : Port) (tag : Byte) (ps : List Byte) {s : State} (h : P s) :
    P (r.arrive p tag ps s) := by
  unfold Request.arrive
  split
  · exact K.take hr p tag ps (K.updPort p (fun _ => rfl) h)
  · exact K.receiveRun p _ h

/-! ## The field lines -/

theorem acceptLid (i : Nat) (b : Bool) {s : State} (h : P s) : P (s.acceptLid i b) := by
  have put : ∀ l : FieldLines, P { s.updInlet i fun y => { y with rejectStart := none } with lines := l } :=
    fun _ => K.frame h rfl rfl rfl rfl rfl rfl rfl
  unfold State.acceptLid
  dsimp only
  repeat' split
  · exact h
  · exact h
  · exact K.congr (put _) (takeLidOpening_sameBooks _ i _)
  · exact K.lidClosing i _ (put _)
  · exact K.hold _ (put _)

theorem acceptSeat (c : Nat) (b : Bool) {s : State} (h : P s) : P (s.acceptSeat c b) := by
  have put : ∀ l : FieldLines, P { s.updContainer c fun y => { y with seatHold := none } with lines := l } :=
    fun _ => K.frame h (updContainer_length s c _) rfl rfl rfl rfl rfl rfl
  unfold State.acceptSeat
  dsimp only
  repeat' split
  · exact h
  · exact h
  · exact K.arbitrate (K.seat c b (put _))
  · exact K.hold _ (put _)

theorem acceptStood {s : State} (h : P s) : P s.acceptStood :=
  List.foldlRecOn _ _ (List.foldlRecOn _ _ h fun _ ht e _ => K.acceptLid e.1 e.2 ht) fun _ ht e _ => K.acceptSeat e.1 e.2 ht

theorem moveLines (l : FieldLines) {s : State} (h : P s) : P (s.moveLines l) := by
  refine K.acceptStood (K.frame (K.acceptStood h) ?_ rfl rfl rfl rfl rfl rfl)
  simp

/-! ## The wake controller -/

theorem takeCause (hc : HeldCause) {s : State} (h : P s) : P (s.takeCause hc) := by
  unfold State.takeCause
  split
  · exact K.congr h (takeRead_sameBooks s _ _)
  · exact K.congr h (takeLidOpening_sameBooks s _ _)
  · exact K.lidClosing _ _ h
  · exact K.seat _ _ h
  · apply K.frame h <;> simp
  · exact K.warmRestart h
  · exact K.updPort _ (fun _ => rfl) h
  · apply K.frame h <;> simp
  · unfold State.takeHeldLimit
    repeat' split
    · exact K.congr h (takeLimit_sameBooks s _)
    · exact h
    · exact h

theorem takeCauses (n : Nat) (o : List Nat) (hs : List HeldCause) {s : State} (h : P s) : P (takeCauses n o hs s) := by
  induction n generalizing o hs s with
  | zero => exact h
  | succ n ih =>
    unfold Machine.takeCauses
    split
    · exact h
    · exact ih _ _ (K.takeCause _ h)

theorem awaken (o : List Nat) {s : State} (h : P s) : P (s.awaken o) := by
  refine K.arbitrate (K.takeCauses _ _ _ (K.congr h ⟨rfl, rfl, rfl, rfl, fun p => ?_, rfl, rfl⟩))
  simp

/-! ## The configuration store -/

theorem endCheck (p : Port) {m : List Host.Cell} {s : State} (h : P s) : P (s.endCheck p (judgeImage m)) := by
  unfold State.endCheck
  dsimp only
  split
  · exact K.answerHeld _ _ _ (K.releaseWriter (K.checkEnded h))
  · next g hg =>
    split
    · exact K.answerHeld _ _ _ (K.checkEnded h)
    · exact K.answerHeld _ _ _ (K.configRestart hg (K.checkEnded h))

/-! ## Commands and steps -/

theorem whenRunning {f : State → State} {s t : State} (h : P s) (ht : whenRunning s f = .next t) (hf : P (f s)) : P t := by
  rcases whenRunning_cases s t f ht with ⟨_, rfl⟩ | ⟨_, rfl⟩
  · exact h
  · exact K.judgeIdle hf

/-- Every command keeps P: by the kind of the command. -/
theorem exec {c : Instr} {s t : State} (h : P s) (ht : exec c s = .next t) : P t := by
  unfold Machine.exec at ht
  cases c with
  -- the supply and the reset line
  | powerOnReset | powerLoss =>
    cases ht
    exact K.unpowered _ h
  | powerOnResetEnd l b =>
    simp only [execPowerOnResetEnd] at ht
    split at ht <;> cases ht
    · exact K.judgeIdle (K.powerOnEnd l b h)
    · exact h
  | resetLineAssertion l =>
    refine K.whenRunning h ht ?_
    split
    · exact K.warmRestart (K.moveLines l h)
    · exact K.hold _ (K.moveLines l h)
  -- requests
  | readStatus p tag ps | acknowledgeAttention p tag ps | setAttentionMask p tag ps | readClock p tag ps
  | setClock p tag ps | writeImageBlock p tag ps | applyConfiguration p tag ps | readContainer p tag ps
  | suspendContainer p tag ps | resumeContainer p tag ps | measureNow p tag ps | readDueList p tag ps
  | clearHeat p tag ps | readInlet p tag ps | openInlet p tag ps | putCard p tag ps | removeCard p tag ps
  | blockCard p tag ps | clearCardTable p tag ps | markTableLoaded p tag ps | readCards p tag ps
  | rewindCardCursor p tag ps | readQueries p tag ps | answerCard p tag ps | readJournal p tag ps
  | rewindJournalCursor p tag ps | releaseJournal p tag ps | announce p tag ps | endSession p tag ps
  | claimLift p tag ps | cancelLift p tag ps | readLift p tag ps =>
    exact K.whenRunning h ht (K.arrive (by simp [requestIndex]) p tag ps h)
  | restart p tag ps l => exact K.whenRunning h ht (K.arrive (by simp [requestIndex]) p tag ps (K.moveLines l h))
  -- bytes that are no request of the index, and the ports' own events
  | badFrame p bs => exact K.whenRunning h ht (K.receiveRun p bs h)
  | unknownRequestCode p code tag ps =>
    refine K.whenRunning h ht ?_
    split
    · exact K.takeFrame p code tag ps (K.updPort p (fun _ => rfl) h)
    · exact K.receiveRun p _ h
  | replySent p =>
    exact K.whenRunning h ht (K.updPort p (fun b => by unfold PortBlock.replySent; split <;> rfl) h)
  | gapTimerExpiry p =>
    refine K.whenRunning h ht ?_
    split
    · unfold State.gapExpires
      split
      · exact K.updPort p (fun _ => rfl) (K.advanceTo _ h)
      · exact K.updPort p (fun _ => rfl) (K.updPort p (fun _ => rfl) (K.advanceTo _ h))
      · exact K.updPort p (fun _ => rfl) (K.advanceTo _ h)
    · exact h
  -- lines and seats
  | lidOpening i => exact K.whenRunning h ht (K.acceptLid i true h)
  | lidClosing i => exact K.whenRunning h ht (K.acceptLid i false h)
  | unseat c => exact K.whenRunning h ht (K.acceptSeat c false h)
  | reseat c => exact K.whenRunning h ht (K.acceptSeat c true h)
  -- events that are taken while the part is awake, and held while it is not
  | cardRead i n =>
    refine K.whenRunning h ht ?_
    repeat' split
    · exact K.congr h (takeRead_sameBooks s _ _)
    · exact K.hold _ h
    · exact h
    · exact h
  | lidOpenLimitExpiry i =>
    refine K.whenRunning h ht ?_
    split
    · dsimp only
      repeat' split
      · exact K.congr (K.advanceTo _ h) (takeLimit_sameBooks _ _)
      · exact K.advanceTo _ h
      · exact K.hold _ (K.advanceTo _ h)
    · exact h
  | dueEvent c =>
    refine K.whenRunning h ht ?_
    split
    · dsimp only
      repeat' split
      · refine K.arbitrate (K.frame h ?_ rfl rfl rfl rfl rfl rfl)
        simp
      · exact K.advanceTo _ h
      · exact K.hold _ (K.advanceTo _ h)
    · exact h
  | carrierChange b =>
    refine K.whenRunning h ht ?_
    repeat' split
    · apply K.frame h <;> simp
    · exact h
    · exact K.hold _ h
  | receiveActivityInDoze p =>
    refine K.whenRunning h ht ?_
    split
    · exact h
    · exact K.hold _ h
  -- timers
  | queryWaitExpiry i | windowExpiry i | serviceTimerExpiry i =>
    refine K.whenRunning h ht ?_
    split
    · exact K.frame h rfl rfl rfl rfl rfl rfl rfl
    · exact h
  | spacingExpiry c =>
    refine K.whenRunning h ht ?_
    split
    · refine K.arbitrate (K.frame h ?_ rfl rfl rfl rfl rfl rfl)
      simp
    · exact h
  | lidWaitExpiry | releaseWaitExpiry =>
    refine K.whenRunning h ht ?_
    split
    · exact K.congr (K.advanceTo _ h) (endWait_sameBooks _ _ _)
    · exact h
  | carrierLoss =>
    refine K.whenRunning h ht ?_
    split
    · exact K.congr (K.advanceTo _ h) (loseCarrier_sameBooks _)
    · exact h
  | idleTimerExpiry =>
    refine K.whenRunning h ht ?_
    split
    · exact K.congr h ⟨rfl, rfl, rfl, rfl, fun p => by simp [State.enterDoze], rfl, rfl⟩
    · exact h
  | wakeTimerExpiry =>
    refine K.whenRunning h ht ?_
    repeat' split
    · apply K.frame h <;> simp
    · apply K.frame h <;> simp
    · exact h
  | clockCount => exact K.whenRunning h ht (K.clockCount (K.advanceTo _ h))
  -- completions
  | measurementCompletion conv echo => exact K.whenRunning h ht (K.completion conv echo h)
  | writeCompletion => exact K.whenRunning h ht (K.completeWrite h)
  | writerIdleExpiry =>
    refine K.whenRunning h ht ?_
    split
    · exact K.releaseWriter (K.advanceTo _ h)
    · exact h
  | applyCheckCompletion l =>
    refine K.whenRunning h ht ?_
    split
    · exact h
    · exact K.endCheck _ (K.frame (K.moveLines l h) rfl rfl rfl rfl rfl rfl rfl)
  | wakeSettlingEnd l o =>
    refine K.whenRunning h ht ?_
    split
    · exact K.awaken o (K.moveLines l (K.advanceTo _ h))
    · exact h

/-- Every step keeps P: a command, an event that has come, or a millisecond that passes. -/
theorem step {s t : State} (h : P s) (ht : step s = .next t) : P t := by
  unfold Machine.step at ht
  split at ht
  · next c rest _ => exact K.exec (s := { s with pending := rest }) (K.frame h rfl rfl rfl rfl rfl rfl rfl) ht
  · split at ht
    · exact K.exec h ht
    · cases ht
      apply K.frame h <;> simp

end BooksKept
end Sys2Proof.Machine
end

section
/-! PROOFS. The due list holds configured containers, each once (R59 to R63): each operation that touches the list or makes the
container records keeps it so, and with them every step (R61): O56. -/

namespace Sys2Proof.Machine

/-! ## The threshold unit -/

section
variable {s t : State} {c : Nat}

theorem State.DueListSound.congr (h : s.DueListSound) (hn : t.containers.length = s.containers.length)
    (hd : t.dueList = s.dueList) : t.DueListSound where
  containers := hn ▸ h.containers
  configured := by rw [hd, hn]; exact h.configured
  once := hd ▸ h.once

/-- A station that has just been set up: at most eight containers, none of them due. -/
theorem dueListSound_of_empty (hn : t.containers.length ≤ 8) (hd : t.dueList = []) : t.DueListSound where
  containers := hn
  configured := by simp [hd]
  once := by simp [hd]

theorem updContainer_dueListSound (c : Nat) (f : Container → Container) (h : s.DueListSound) :
    (s.updContainer c f).DueListSound := h.congr (updContainer_length s c f) rfl

theorem arbitrate_dueListSound (h : s.DueListSound) : s.arbitrate.DueListSound := h.congr (arbitrate_length s) (by simp)

theorem leaveDueList_dueListSound (c : Nat) (h : s.DueListSound) : (s.leaveDueList c).DueListSound where
  containers := h.containers
  configured e he := h.configured e (List.mem_of_mem_filter he)
  once := h.once.sublist (List.filter_sublist.map _)

/-- A configured container that is not on the list may join it. -/
theorem joinDueList_dueListSound (pe : Nat) (hc : c < s.containers.length) (hd : s.isDue c = false) (h : s.DueListSound) :
    (s.joinDueList c pe).DueListSound where
  containers := h.containers
  configured e he := by
    rcases List.mem_append.mp he with he | he
    · exact h.configured e he
    · obtain rfl := List.mem_singleton.mp he
      exact hc
  once := by
    have hnew : c ∉ s.dueList.map DueEntry.container := by
      rw [List.mem_map, ← isDue_iff, hd]
      exact Bool.false_ne_true
    simpa [State.joinDueList, List.nodup_append, h.once] using hnew

theorem judgeDue_dueListSound (k : Container) (pe : Nat) (hc : c < s.containers.length) (h : s.DueListSound) :
    (s.judgeDue c k pe).DueListSound := by
  rcases judgeDue_cases s c k pe with e | ⟨_, e⟩ | ⟨hd, e⟩ <;> rw [e]
  · exact h
  · exact leaveDueList_dueListSound c h
  · exact joinDueList_dueListSound pe hc hd h

theorem evaluate_dueListSound (c : Nat) (h : s.DueListSound) : (s.evaluate c).DueListSound := by
  unfold State.evaluate
  split
  · exact h
  · next k hk =>
    split
    · exact h
    · have hc : c < s.containers.length := (List.getElem?_eq_some_iff.mp hk).1
      exact (judgeDue_dueListSound k _ hc h).congr (judgeFull_length _ c k _) (by simp)

theorem cleanUp_dueListSound (c : Nat) (h : s.DueListSound) : (s.cleanUp c).DueListSound := by
  have left : (if s.isDue c then s.leaveDueList c else s).DueListSound := by
    split
    · exact leaveDueList_dueListSound c h
    · exact h
  unfold State.cleanUp
  dsimp only
  generalize (if s.isDue c then s.leaveDueList c else s) = t at left ⊢
  repeat' split
  · exact left
  · exact left.congr (setFull_length t c false) (by simp)
  · exact left

/-! ## Lids and seats -/

theorem addVolume_dueListSound (c n : Nat) (h : s.DueListSound) : (s.addVolume c n).DueListSound :=
  evaluate_dueListSound c (updContainer_dueListSound c _ h)

theorem countClosing_dueListSound (i : Nat) (x : Inlet) (t : Nat) (h : s.DueListSound) :
    (s.countClosing i x t).DueListSound := by
  unfold State.countClosing State.countDeposit State.countForced
  repeat' split
  · exact h
  · next w _ =>
    have charged : (s.chargeCard (w.card.getD 0)).DueListSound := h.congr rfl rfl
    exact (addVolume_dueListSound x.cfg.container x.cfg.nominal charged).congr (by simp) (by simp)
  · exact addVolume_dueListSound _ _ (h.congr (by simp) (by simp))
  all_goals exact h

theorem takeLidClosing_dueListSound (i t : Nat) (h : s.DueListSound) : (s.takeLidClosing i t).DueListSound := by
  unfold State.takeLidClosing
  split
  · exact h
  · next x _ =>
    split
    · have closed : (s.updInlet i fun y => y.takeClosing (s.inState x.cfg.container .lifted)).DueListSound := h.congr rfl rfl
      refine State.DueListSound.congr ?_ (judgeRelease_length _ _) (by simp)
      split
      · exact closed
      · exact countClosing_dueListSound i x t closed
    · exact h

theorem finishEmptying_dueListSound (c : Nat) (after : Option Nat) (v : Bool) (e : LiftEnding) (h : s.DueListSound) :
    (s.finishEmptying c after v e).DueListSound := by
  unfold State.finishEmptying
  split
  · exact h
  · next k _ =>
    have recorded : (s.journalRecord c (emptyingRecord k.note after v)).DueListSound := h.congr (by simp) (by simp)
    have cleaned := cleanUp_dueListSound c (updContainer_dueListSound c (fun x => { x with note := none }) recorded)
    exact (evaluate_dueListSound c (updContainer_dueListSound c _ cleaned)).congr rfl rfl

theorem endUnverified_dueListSound (c : Nat) (e : LiftEnding) (h : s.DueListSound) : (s.endUnverified c e).DueListSound :=
  finishEmptying_dueListSound c none false e (updContainer_dueListSound c _ h)

theorem takeSeat_dueListSound (c : Nat) (b : Bool) (h : s.DueListSound) : (s.takeSeat c b).DueListSound := by
  have displaced : (s.displace c).DueListSound := h.congr (displace_length s c) (by simp)
  unfold State.takeSeat State.takeUnseat
  repeat' split
  · exact h
  · exact h
  · exact h.congr (takeReseat_length s c) (by simp)
  · exact h
  · exact h.congr (takeLift_length s c _) (by simp)
  · exact displaced
  · exact displaced
  · exact displaced.congr (endClaim_length _ c _) (by simp)
  · exact endUnverified_dueListSound c _ displaced
  · exact updContainer_dueListSound c _ h

/-! ## Measurements -/

theorem endFailedPair_dueListSound (c : Nat) (h : s.DueListSound) : (s.endFailedPair c).DueListSound := by
  unfold State.endFailedPair
  repeat' split
  · exact h
  · exact updContainer_dueListSound c _ h
  · exact endUnverified_dueListSound c _ (updContainer_dueListSound c _ h)
  · exact updContainer_dueListSound c _ h

theorem adoptPair_dueListSound (c : Nat) (k : Container) (r : Reading) (h : s.DueListSound) :
    (s.adoptPair c k r).DueListSound := by
  unfold State.adoptPair
  split
  · exact finishEmptying_dueListSound c _ _ _ (h.congr (updContainer_length s c _) rfl)
  · exact evaluate_dueListSound c (h.congr (updContainer_length s c _) rfl)

theorem pairMiss_dueListSound (c : Nat) (k : Container) (h : s.DueListSound) : (s.pairMiss c k).DueListSound :=
  endFailedPair_dueListSound c (h.congr (by simp) (by simp))

theorem pairMismatch_dueListSound (c : Nat) (k : Container) (h : s.DueListSound) : (s.pairMismatch c k).DueListSound :=
  endFailedPair_dueListSound c (h.congr (by simp) (by simp))

theorem takeResult_dueListSound (r : Run) (echo : EchoSignal) (h : s.DueListSound) : (s.takeResult r echo).DueListSound := by
  unfold State.takeResult
  split
  · exact h
  · next k _ =>
    have warm : (s.takeTemperature r.container k (s.resultTemp r.result)).DueListSound :=
      h.congr (takeTemperature_length s _ k _) (by simp)
    unfold State.firstDone State.secondDone
    dsimp only
    repeat' split
    · exact pairMiss_dueListSound _ _ warm
    · exact adoptPair_dueListSound _ _ _ warm
    · exact pairMismatch_dueListSound _ _ warm
    · exact pairMiss_dueListSound _ _ warm
    · exact updContainer_dueListSound _ _ warm

theorem takeCompletion_dueListSound (conv : Conversion) (echo : EchoSignal) (h : s.DueListSound) :
    (s.takeCompletion conv echo).DueListSound := by
  unfold State.takeCompletion
  split
  · exact h
  · next r _ =>
    have freed : ({ s with run := none } : State).DueListSound := h.congr rfl rfl
    apply arbitrate_dueListSound
    split
    · exact freed
    · exact takeResult_dueListSound _ echo freed

/-! ## Resets -/

theorem judgeImage_containers {m : List Host.Cell} {g : StationConfig} (h : judgeImage m = some g) :
    g.containers.length ≤ 8 := ((judgeImage_iff_gives m g).mp h).containerCount.2.2

theorem powerOnEnd_dueListSound (s : State) (l : FieldLines) (b : Bool) : (s.powerOnEnd l b).DueListSound := by
  unfold State.powerOnEnd
  dsimp only
  split
  · exact dueListSound_of_empty (Nat.zero_le 8) rfl
  · next g hg =>
    refine dueListSound_of_empty ?_ (by simp [State.reset])
    simpa [freshContainers_length] using judgeImage_containers hg

theorem configRestart_dueListSound (s : State) {m : List Host.Cell} {g : StationConfig} (hg : judgeImage m = some g) :
    (s.configRestart g).DueListSound := by
  refine dueListSound_of_empty ?_ (by simp [State.configRestart])
  simpa [State.configRestart, rebuiltContainers_length] using judgeImage_containers hg

theorem reconcileFrom_dueListSound (l : FieldLines) (n k : Nat) (h : s.DueListSound) :
    (reconcileFrom l n k s).DueListSound := by
  induction k generalizing n s with
  | zero => exact h
  | succ k ih => exact ih (n + 1) (takeSeat_dueListSound n _ h)

/-- A warm restart keeps the due list, but for what its seat reconciliation ends (R17, R61). -/
theorem warmRestart_dueListSound (h : s.DueListSound) : s.warmRestart.DueListSound := by
  have warm : s.warmValues.allDue.DueListSound := h.congr (by simp [State.warmValues]) rfl
  exact arbitrate_dueListSound (reconcileFrom_dueListSound _ _ _ warm)

/-! ## Every step -/

/-- No request changes the due list, and none but Restart comes near it (R61). -/
theorem body_dueListSound (p : Port) (ps : List Byte) : ∀ r ∈ requestIndex, ∀ s : State, s.DueListSound →
    (r.body p ps s).1.DueListSound := by
  simp only [requestIndex, List.forall_mem_cons, List.not_mem_nil, false_implies, implies_true, and_true]
  refine ⟨?_, ?_, ?_, ?_, ?_, fun _ => warmRestart_dueListSound, ?_, ?_, ?_, ?_, ?_, ?_, ?_, ?_, ?_, ?_, ?_, ?_, ?_, ?_,
    ?_, ?_, ?_, ?_, ?_, ?_, ?_, ?_, ?_, ?_, ?_, ?_, ?_⟩
  all_goals exact fun s h => h.congr (by simp) (by simp)

end

theorem dueListSound_kept : BooksKept State.DueListSound where
  congr h e := h.congr e.count e.dueList
  unpowered _ _ := dueListSound_of_empty (Nat.zero_le 8) rfl
  powerOnEnd l b _ := powerOnEnd_dueListSound _ l b
  body := body_dueListSound
  lidClosing := takeLidClosing_dueListSound
  seat := takeSeat_dueListSound
  completion := takeCompletion_dueListSound
  warmRestart := warmRestart_dueListSound
  configRestart hg _ := configRestart_dueListSound _ hg
  completeWrite h := h.congr (by simp) (by simp)
  releaseWriter h := h.congr rfl rfl
  checkEnded h := h.congr rfl rfl
  clockCount h := h.congr (by simp) (by simp)

/-- Settles O56: each operation that touches the books keeps the due list sound. -/
theorem stepKeepsDueListSound : Obligations.StepKeepsDueListSound := fun _ _ h ht => dueListSound_kept.step h ht

end Sys2Proof.Machine
end

section
/-! PROOFS. A card read at an inlet of an AWAKE part (R76 to R80, R102 to R107): O40. -/

namespace Sys2Proof.Machine

/-! ## The access decision -/

theorem updInlet_eq_set {s : State} {i : Nat} {x : Inlet} (f : Inlet → Inlet) (hx : s.inlets[i]? = some x) :
    s.updInlet i f = { s with inlets := s.inlets.set i (f x) } := by
  rw [State.updInlet, modify_eq_set f hx]

theorem heldWindows_eq (n : Nat) (xs : List Inlet) : heldWindows n xs = windowsFor n xs := by
  have h : Inlet.holdsWindow n = fun x =>
      decide ((x.state = .unlocked ∨ x.state = .inUse) ∧ ∃ w, x.window = some w ∧ w.card = some n) := by
    funext x
    cases hw : x.window <;> simp [Inlet.holdsWindow, hw]
  rw [heldWindows, h, windowsFor]

theorem refusedExpired_iff (e : Card) (clock : Nat) :
    e.refusedExpired clock = true ↔ e.kind = .temporary ∧ ∃ t, e.expiry = some t ∧ t ≤ clock := by
  cases he : e.expiry <;> simp [Card.refusedExpired, expiredAt_eq, he]

/-- Checks 1 to 11 for a card that has an entry: the first that fails refuses, else the window is the card's (R102, R105,
R106). -/
theorem decideRead_listed {s : State} {e : Card} {n : Nat} (x : Inlet) (k : Container)
    (he : findCard n s.cards.entries = some e) :
    s.decideRead x k n = match refusedFor x k e s.clock.count (windowsFor n s.inlets) with
      | some o => .refuse o
      | none => .open (cardWindow e.number e.household) := by
  simp only [State.decideRead, he, heldWindows_eq, firstChecks, decideEntry, refusedExpired_iff, refusedFor]
  by_cases hst : x.stuck = true
  · simp [hst]
  by_cases hd : k.displaced = true
  · simp [hst, hd]
  by_cases hsus : k.state = .suspended
  · simp [hst, hd, hsus]
  by_cases hh : k.hot = true
  · simp [hst, hd, hsus, hh]
  by_cases hser : k.state = .serving
  · simp only [hst, hd, hh, hser, or_self, if_false, reduceCtorEq, ne_eq, not_true_eq_false, Bool.false_eq_true]
    split_ifs <;> rfl
  · simp [hst, hd, hsus, hh, hser]

theorem firstChecks_fault {x : Inlet} {k : Container} (h : x.stuck = true ∨ k.displaced = true) :
    firstChecks x k = some .fault := by
  rcases h with h | h <;> simp [firstChecks, h]

section
variable {x : Inlet} {k : Container} (hs : x.stuck = false) (hd : k.displaced = false)
include hs hd

theorem firstChecks_suspended (h : k.state = .suspended) : firstChecks x k = some .suspended := by
  simp [firstChecks, hs, hd, h]

theorem firstChecks_hot (hn : k.state ≠ .suspended) (h : k.hot = true) : firstChecks x k = some .hot := by
  simp [firstChecks, hs, hd, hn, h]

theorem firstChecks_emptying (hn : k.state ≠ .suspended) (hh : k.hot = false) (h : k.state ≠ .serving) :
    firstChecks x k = some .emptying := by
  simp [firstChecks, hs, hd, hn, hh, h]

theorem firstChecks_pass (h : k.state = .serving) (hh : k.hot = false) : firstChecks x k = none := by
  simp [firstChecks, hs, hd, hh, h]

end

/-- Checks 1 to 5 come before the card is looked up (R102). -/
theorem decideRead_first {s : State} {x : Inlet} {k : Container} {o : ReadOutcome} (n : Nat)
    (h : firstChecks x k = some o) : s.decideRead x k n = .refuse o := by
  simp only [State.decideRead, h]

/-- The not-found branch, for a card without an entry that passes checks 1 to 5 (R103, R104). -/
theorem decideRead_unlisted {s : State} {x : Inlet} {k : Container} {n : Nat} {g : StationConfig}
    (h : firstChecks x k = none) (he : findCard n s.cards.entries = none) (hg : s.store.running = some g) :
    s.decideRead x k n = decideUnknown n k s.cards.loaded g.fallbackOpen g.queryEnabled := by
  simp only [State.decideRead, h, he, hg, Option.map_some, Option.getD_some]

section
variable {n : Nat} {k : Container} {loaded query : Bool} {fallback : FractionSet}

theorem decideUnknown_queries (hl : loaded = true) (hq : query = true) :
    decideUnknown n k loaded fallback query = .query := by
  rw [decideUnknown, if_pos hl, if_pos hq]

theorem decideUnknown_loaded (hl : loaded = true) (hq : query = false) :
    decideUnknown n k loaded fallback query = .refuse .unknown := by
  rw [decideUnknown, if_pos hl, if_neg (by simp [hq])]

theorem decideUnknown_barred (hl : loaded = false) (hf : fallback.getLsbD k.cfg.fraction = false) :
    decideUnknown n k loaded fallback query = .refuse .unknown := by
  rw [decideUnknown, if_neg (by simp [hl]), if_neg (by rw [hf]; decide)]

theorem decideUnknown_full (hl : loaded = false) (hf : fallback.getLsbD k.cfg.fraction = true) (hk : k.full = true) :
    decideUnknown n k loaded fallback query = .refuse .full := by
  rw [decideUnknown, if_neg (by simp [hl]), if_pos hf, if_pos hk]

theorem decideUnknown_opens (hl : loaded = false) (hf : fallback.getLsbD k.cfg.fraction = true) (hk : k.full = false) :
    decideUnknown n k loaded fallback query = .open (anonymousWindow n) := by
  rw [decideUnknown, if_neg (by simp [hl]), if_pos hf, if_neg (by simp [hk])]

end

/-! ## The three ends of a decision (R77) -/

section
variable {s : State} {i n : Nat} {x : Inlet} {k : Container} (hx : s.inlets[i]? = some x)
  (hk : s.containers[x.cfg.container]? = some k)
include hx hk

theorem decideSlot_opens {w : WindowRecord} (hd : s.decideRead x k n = .open w) :
    s.decideSlot i n x = { s with
      inlets := s.inlets.set i (openedInlet x w s.now), outcomes := s.outcomes ++ [(i, .accept)] } := by
  simp only [State.decideSlot, hk, hd, State.openWindow]
  rw [updInlet_eq_set _ hx]
  rfl

/-- A refused read leaves an empty slot as it found it. -/
theorem decideSlot_refuses (hs : x.slot = none) (hq : x.query = none) {o : ReadOutcome}
    (hd : s.decideRead x k n = .refuse o) : s.decideSlot i n x = s.sendOutcome i o := by
  have hc : x.clearSlot = x := by rw [Inlet.clearSlot, ← hs, ← hq]
  simp only [State.decideSlot, hk, hd, State.refuseRead]
  rw [updInlet_eq_set _ hx, hc, set_self hx]

theorem decideSlot_posts {g : StationConfig} (hg : s.store.running = some g) (hd : s.decideRead x k n = .query) :
    s.decideSlot i n x = { s with
      inlets := s.inlets.set i { x with
        slot := some n, query := some ⟨n, s.clock.count, s.now + g.queryWaitSeconds * 1000⟩ } }.raise .cardQuery := by
  simp only [State.decideSlot, hk, hd, State.postQuery, hg, Option.map_some, Option.getD_some]
  rw [updInlet_eq_set _ hx]
  rfl

end

/-! ## A read by the inlet's state (R76) -/

section
variable {s : State} {i n : Nat} {x : Inlet} (hx : s.inlets[i]? = some x)
include hx

theorem takeRead_noReader (hr : x.cfg.reader = false) : s.takeRead i n = s := by
  simp [State.takeRead, hx, hr]

theorem takeRead_zero (hr : x.cfg.reader = true) : s.takeRead i 0 = s.sendOutcome i .unknown := by
  simp [State.takeRead, hx, hr]

theorem takeRead_taken (hr : x.cfg.reader = true) (hn : n ≠ 0) (hst : x.state = .locked) (hs : x.slot ≠ none) :
    s.takeRead i n = s.sendOutcome i .busy := by
  simp [State.takeRead, hx, hr, hn, hst, hs, Option.isSome_iff_ne_none]

theorem takeRead_empty (hr : x.cfg.reader = true) (hn : n ≠ 0) (hst : x.state = .locked) (hs : x.slot = none) :
    s.takeRead i n = s.decideSlot i n x := by
  simp [State.takeRead, hx, hr, hn, hst, hs]

theorem takeRead_unlocked {w : WindowRecord} (hr : x.cfg.reader = true) (hn : n ≠ 0) (hst : x.state = .unlocked)
    (hw : x.window = some w) :
    s.takeRead i n = if w.card = some n then s.extendWindow i else s.sendOutcome i .busy := by
  simp [State.takeRead, hx, hr, hn, hst, hw]

theorem takeRead_inUse (hr : x.cfg.reader = true) (hn : n ≠ 0) (hst : x.state = .inUse) :
    s.takeRead i n = s.sendOutcome i (if x.stuck then .fault else .busy) := by
  simp [State.takeRead, hx, hr, hn, hst]

theorem takeRead_serviceOpen (hr : x.cfg.reader = true) (hn : n ≠ 0) (hst : x.state = .serviceOpen) :
    s.takeRead i n = s.sendOutcome i .busy := by
  simp [State.takeRead, hx, hr, hn, hst]

theorem extendWindow_eq : s.extendWindow i = { s with
    inlets := s.inlets.set i { x with windowTimer := some (s.now + x.cfg.windowSeconds * 1000) }
    outcomes := s.outcomes ++ [(i, .accept)] } := by
  rw [State.extendWindow, updInlet_eq_set _ hx]
  rfl

end

theorem takeRead_none {s : State} {i : Nat} (hx : s.inlets[i]? = none) (n : Nat) : s.takeRead i n = s := by
  simp only [State.takeRead, hx]

theorem exec_cardRead {s : State} (h : s.attends = true) (i : Fin 16) (n : BitVec 40) :
    exec (.cardRead i n) s = .next (s.takeRead i n.toNat).judgeIdle := by
  obtain ⟨hp, hw⟩ := attends_running h
  have he : exec (.cardRead i n) s = execCardRead i n s := rfl
  rw [he, execCardRead, whenRunning_running hp, if_pos hw]

theorem toNat_ne_zero {n : BitVec 40} (h : n ≠ 0) : n.toNat ≠ 0 := fun hn => h (BitVec.eq_of_toNat_eq hn)

/-- Settles O40: the read by the inlet's state, and at a LOCKED inlet with an empty slot by the decision. -/
theorem cardRead : Obligations.CardRead := by
  intro s i n h
  simp only [exec_cardRead h]
  refine ⟨fun hx => by rw [takeRead_none hx], fun x hx => ⟨fun hr => by rw [takeRead_noReader hx hr], fun hr =>
    ⟨fun hn => by rw [show n.toNat = 0 by rw [hn]; rfl, takeRead_zero hx hr]; rfl, fun hn => ?_⟩⟩⟩
  replace hn := toNat_ne_zero hn
  refine ⟨fun hst w hw => ⟨fun hc => ?_, fun hc => ?_⟩, fun hst => ?_, fun hst => ?_,
    fun hst hs => ?_, fun k hst hslot hq hk => ?_⟩
  · rw [takeRead_unlocked hx hr hn hst hw, if_pos hc, extendWindow_eq hx]
  · rw [takeRead_unlocked hx hr hn hst hw, if_neg hc, State.sendOutcome]
  · rw [takeRead_inUse hx hr hn hst, State.sendOutcome]
  · rw [takeRead_serviceOpen hx hr hn hst, State.sendOutcome]
  · rw [takeRead_taken hx hr hn hst hs, State.sendOutcome]
  · rw [takeRead_empty hx hr hn hst hslot]
    have refused : ∀ o, s.decideRead x k n.toNat = .refuse o →
        s.decideSlot i n.toNat x = { s with outcomes := s.outcomes ++ [(i.val, o)] } :=
      fun o ho => decideSlot_refuses hx hk hslot hq ho
    refine ⟨fun e he => ⟨fun o ho => ?_, fun ho => ?_⟩, fun g he hg => ⟨fun hf => ?_, fun hs hd hsus => ?_,
      fun hs hd hsus hh => ?_, fun hs hd hsus hh hser => ?_, fun hs hd hser hh => ?_⟩⟩
    · rw [refused o (by rw [decideRead_listed x k he, ho])]
    · have hnum : e.number = n.toNat := by simpa using List.find?_some he
      rw [decideSlot_opens hx hk (by rw [decideRead_listed x k he, ho]), cardWindow, hnum]
    · rw [refused _ (decideRead_first _ (firstChecks_fault hf))]
    · rw [refused _ (decideRead_first _ (firstChecks_suspended hs hd hsus))]
    · rw [refused _ (decideRead_first _ (firstChecks_hot hs hd hsus hh))]
    · rw [refused _ (decideRead_first _ (firstChecks_emptying hs hd hsus hh hser))]
    · have hdec := decideRead_unlisted (firstChecks_pass hs hd hser hh) he hg
      refine ⟨fun hl hqe => ?_, fun hl hqe => ?_, fun hl hf => ?_, fun hl hf hfull => ?_, fun hl hf hfull => ?_⟩
      · rw [decideSlot_posts hx hk hg (hdec.trans (decideUnknown_queries hl hqe))]
      · rw [refused _ (hdec.trans (decideUnknown_loaded hl hqe))]
      · rw [refused _ (hdec.trans (decideUnknown_barred hl hf))]
      · rw [refused _ (hdec.trans (decideUnknown_full hl hf hfull))]
      · rw [decideSlot_opens hx hk (hdec.trans (decideUnknown_opens hl hf hfull)), anonymousWindow]

end Sys2Proof.Machine
end

section
/-! PROOFS. The timers of an inlet (R81, R88, R90, R109): O41. -/

namespace Sys2Proof.Machine

section
variable {s : State} {i : Fin 16} {x : Inlet} {t : Nat} (hp : s.power = .running) (hx : s.inlets[i.val]? = some x)
include hp hx

theorem exec_windowExpiry (ht : x.windowTimer = some t) :
    exec (.windowExpiry i) s = .next { s with
      now := max s.now t, inlets := s.inlets.set i x.endWindow }.judgeIdle := by
  have h : exec (.windowExpiry i) s = execWindowExpiry i s := rfl
  rw [h, execWindowExpiry, whenRunning_running hp]
  simp only [hx, Option.bind_some, ht]
  rw [updInlet_eq_set (s := s.advanceTo t) _ hx]
  rfl

theorem exec_queryWaitExpiry {q : CardQuery} (hq : x.query = some q) :
    exec (.queryWaitExpiry i) s = .next { s with
      now := max s.now q.waitEnd, inlets := s.inlets.set i x.clearSlot
      outcomes := s.outcomes ++ [(i.val, ReadOutcome.noAnswer)] }.judgeIdle := by
  have h : exec (.queryWaitExpiry i) s = execQueryWaitExpiry i s := rfl
  rw [h, execQueryWaitExpiry, whenRunning_running hp]
  simp only [hx, Option.bind_some, hq, State.refuseRead]
  rw [updInlet_eq_set (s := s.advanceTo q.waitEnd) _ hx]
  rfl

theorem exec_serviceTimerExpiry (ht : x.serviceTimer = some t) :
    exec (.serviceTimerExpiry i) s = .next { s with
      now := max s.now t, inlets := s.inlets.set i x.serviceExpires }.judgeIdle := by
  have h : exec (.serviceTimerExpiry i) s = execServiceTimerExpiry i s := rfl
  rw [h, execServiceTimerExpiry, whenRunning_running hp]
  simp only [hx, Option.bind_some, ht]
  rw [updInlet_eq_set (s := s.advanceTo t) _ hx]
  rfl

theorem exec_lidOpenLimitExpiry (hw : s.wake.state = .awake) (ht : x.limitTimer = some t) :
    exec (.lidOpenLimitExpiry i) s = .next ((s.advanceTo t).takeLimit i).judgeIdle := by
  have h : exec (.lidOpenLimitExpiry i) s = execLidOpenLimitExpiry i s := rfl
  rw [h, execLidOpenLimitExpiry, whenRunning_running hp]
  simp only [hx, Option.bind_some, ht, hw, if_true]

end

theorem takeLimit_eq {s : State} {i : Nat} {x : Inlet} (hx : s.inlets[i]? = some x) :
    s.takeLimit i = { s with inlets := s.inlets.set i { x with stuck := true, limitTimer := none } }.raise .inlet := by
  rw [State.takeLimit, updInlet_eq_set _ hx]

/-- Settles O41: each timer's expiry writes the inlet's record. -/
theorem inletTimers : Obligations.InletTimers := by
  intro s i x hp hx
  refine ⟨fun t ht hst => ?_, fun q hq => ?_, fun t ht hst => ⟨fun hl => ?_, fun hl => ?_⟩, fun t ht hw => ?_⟩
  · rw [exec_windowExpiry hp hx ht, endWindow_eq, if_pos hst]
  · rw [exec_queryWaitExpiry hp hx hq, Inlet.clearSlot]
  · rw [exec_serviceTimerExpiry hp hx ht, Inlet.serviceExpires, if_neg (by simp [hl]), Inlet.endService, if_pos hst]
  · rw [exec_serviceTimerExpiry hp hx ht, Inlet.serviceExpires, if_pos hl]
  · rw [exec_lidOpenLimitExpiry hp hx hw ht, takeLimit_eq (s := s.advanceTo t) hx]
    rfl

end Sys2Proof.Machine
end

section
/-! PROOFS. The lid events that an AWAKE part accepts (R72, R73, R83, R84, R86, R87, R90, R91, R140): O42. -/

namespace Sys2Proof.Machine

/-! ## A lid opening is taken (R73, R83, R86, R90, R91) -/

section
variable {s : State} {i : Nat} {x : Inlet} (t : Nat) (hx : s.inlets[i]? = some x)
include hx

theorem takeLidOpening_open (hl : x.lidOpen = true) : s.takeLidOpening i t = s := by
  simp only [State.takeLidOpening, hx, if_pos hl]

/-- An opening of a CLOSED lid writes the inlet's record, and raises attention INLET where it is a forced entry. -/
theorem takeLidOpening_closed (hl : x.lidOpen = false) : s.takeLidOpening i t =
    { s with inlets := s.inlets.set i (x.takeOpening (s.inState x.cfg.container .lifted) t) }.raiseIf
      (x.opensForced (s.inState x.cfg.container .lifted)) .inlet := by
  simp only [State.takeLidOpening, hx, if_neg (show ¬ x.lidOpen = true by simp [hl])]
  rw [updInlet_eq_set _ hx]

theorem takeLidOpening_lifted (hl : x.lidOpen = false) (hc : s.inState x.cfg.container .lifted = true) :
    s.takeLidOpening i t = { s with
      inlets := s.inlets.set i { x with lidOpen := true, lid := some ⟨.uncounted, t⟩ } } := by
  rw [takeLidOpening_closed t hx hl, hc]
  rfl

theorem takeLidOpening_forced (hl : x.lidOpen = false) (hc : s.inState x.cfg.container .lifted = false)
    (hst : x.state = .locked) : s.takeLidOpening i t = { s with
      inlets := s.inlets.set i { x with
        lidOpen := true, lid := some ⟨.forced, t⟩, limitTimer := some (t + x.cfg.limitSeconds * 1000)
        forced := min (x.forced + 1) 255 } }.raise .inlet := by
  rw [takeLidOpening_closed t hx hl, hc]
  simp only [Inlet.takeOpening, Inlet.opensForced, hst]
  rfl

theorem takeLidOpening_window (hl : x.lidOpen = false) (hc : s.inState x.cfg.container .lifted = false)
    (hst : x.state = .unlocked) : s.takeLidOpening i t = { s with
      inlets := s.inlets.set i { x with
        lidOpen := true, lid := some ⟨.window, t⟩, limitTimer := some (t + x.cfg.limitSeconds * 1000)
        state := .inUse, windowTimer := none } } := by
  rw [takeLidOpening_closed t hx hl, hc]
  simp only [Inlet.takeOpening, Inlet.opensForced, hst]
  rfl

theorem takeLidOpening_service (hl : x.lidOpen = false) (hc : s.inState x.cfg.container .lifted = false)
    (hst : x.state = .serviceOpen) : s.takeLidOpening i t = { s with
      inlets := s.inlets.set i { x with lidOpen := true, lid := some ⟨.service, t⟩ } } := by
  rw [takeLidOpening_closed t hx hl, hc]
  simp only [Inlet.takeOpening, Inlet.opensForced, hst]
  rfl

end

/-! ## A lid closing is taken (R73, R84, R87, R90, R91) -/

/-- The release condition is judged for a CLAIMED container alone (R140). -/
theorem judgeRelease_lifted {s : State} {c : Nat} (h : s.inState c .lifted = true) : s.judgeRelease c = s := by
  obtain ⟨k, hk, hl⟩ := (inState_eq s c .lifted).mp h
  have hc : s.inState c .claimed = false := by simp [State.inState, hk, hl]
  simp [State.judgeRelease, hc]

/-- The record of a SERVICE opening's inlet after the closing, which counts a cycle (R91). -/
def Inlet.cycled (x : Inlet) : Inlet := { x.lidClosed with cycles := min (x.cycles + 1) 255 }

theorem endService_open {x : Inlet} (h : x.state = .serviceOpen) : x.endService =
    { x with state := .locked, window := none, serviceTimer := none, runOut := false } := if_pos h

theorem endService_other {x : Inlet} (h : x.state ≠ .serviceOpen) : x.endService = x := if_neg h

theorem addVolume_eq {s : State} {c : Nat} {k : Container} (n : Nat) (hk : s.containers[c]? = some k) :
    s.addVolume c n =
      { s with containers := s.containers.set c { k with added := min (k.added + n) 65535 } }.evaluate c := by
  rw [State.addVolume, updContainer_eq_set _ hk]
  rfl

section
variable {s : State} {i : Nat} {x : Inlet} (t : Nat) (hx : s.inlets[i]? = some x)
include hx

theorem takeLidClosing_closed (hl : x.lidOpen = false) : s.takeLidClosing i t = s := by
  simp only [State.takeLidClosing, hx, if_neg (show ¬ x.lidOpen = true by simp [hl])]

theorem takeLidClosing_lifted (hl : x.lidOpen = true) (hc : s.inState x.cfg.container .lifted = true) :
    s.takeLidClosing i t = { s with inlets := s.inlets.set i x.lidClosed } := by
  simp only [State.takeLidClosing, hx, if_pos hl, hc, if_true]
  rw [updInlet_eq_set _ hx]
  exact judgeRelease_lifted hc

/-- A closing of an OPEN lid whose container is on its platform: the record, what the closing hands on, the release
condition. -/
theorem takeLidClosing_open (hl : x.lidOpen = true) (hc : s.inState x.cfg.container .lifted = false) :
    s.takeLidClosing i t =
      ({ s with inlets := s.inlets.set i (x.takeClosing false) }.countClosing i x t).judgeRelease x.cfg.container := by
  simp only [State.takeLidClosing, hx, if_pos hl, hc, Bool.false_eq_true, if_false]
  rw [updInlet_eq_set _ hx]

section
variable {l : LidOpen} (hl : x.lidOpen = true) (hc : s.inState x.cfg.container .lifted = false) (hlid : x.lid = some l)
include hl hc hlid

theorem takeLidClosing_window {k : Container} {w : WindowRecord} {n : Nat}
    (hk : s.containers[x.cfg.container]? = some k) (hcause : l.cause = .window) (hw : x.window = some w) (hn : w.card = some n) : s.takeLidClosing i t =
      (({ s with
        inlets := s.inlets.set i { x.lidClosed with state := .locked, window := none }
        containers := s.containers.set x.cfg.container { k with added := min (k.added + x.cfg.nominal) 65535 }
        cards := { s.cards with
          entries := s.cards.entries.map fun e : Card =>
            if e.number = n then { e with used := min (e.used + 1) 255 } else e } }.evaluate x.cfg.container).journalDeposit
              i n w.household w.unverified).judgeRelease x.cfg.container := by
  obtain ⟨cause, opened⟩ := l
  obtain rfl : cause = .window := hcause
  rw [takeLidClosing_open t hx hl hc]
  simp only [State.countClosing, State.countDeposit, hlid, hw, hn, Option.getD_some]
  rw [addVolume_eq _ (by exact hk)]
  simp only [Inlet.takeClosing, hlid]
  rfl

theorem takeLidClosing_forced {k : Container} (hk : s.containers[x.cfg.container]? = some k)
    (hcause : l.cause = .forced) : s.takeLidClosing i t =
      ({ { s with inlets := s.inlets.set i x.lidClosed }.journalRecord i (.forced (min ((t - l.time) / 1000) 65535)) with
        containers := s.containers.set x.cfg.container
          { k with added := min (k.added + x.cfg.nominal) 65535 } }.evaluate x.cfg.container).judgeRelease
            x.cfg.container := by
  obtain ⟨cause, opened⟩ := l
  obtain rfl : cause = .forced := hcause
  rw [takeLidClosing_open t hx hl hc]
  simp only [State.countClosing, State.countForced, hlid]
  rw [addVolume_eq (k := k) _ (by simpa using hk)]
  simp [Inlet.takeClosing, hlid, openSeconds, saturate]

/-- A SERVICE opening's closing counts a cycle, and ends the service opening whose timer has run out (R90, R91). -/
theorem takeLidClosing_service (hcause : l.cause = .service) : s.takeLidClosing i t =
    { s with inlets := s.inlets.set i (if x.runOut then x.cycled.endService else x.cycled) }.judgeRelease
      x.cfg.container := by
  obtain ⟨cause, opened⟩ := l
  obtain rfl : cause = .service := hcause
  rw [takeLidClosing_open t hx hl hc]
  simp only [State.countClosing, Inlet.takeClosing, hlid]
  rfl

theorem takeLidClosing_uncounted (hcause : l.cause = .uncounted) : s.takeLidClosing i t =
    { s with inlets := s.inlets.set i x.lidClosed }.judgeRelease x.cfg.container := by
  obtain ⟨cause, opened⟩ := l
  obtain rfl : cause = .uncounted := hcause
  rw [takeLidClosing_open t hx hl hc]
  simp only [State.countClosing, Inlet.takeClosing, hlid]
  rfl

theorem takeLidClosing_serviceOpen (hcause : l.cause = .service) (hst : x.state = .serviceOpen) : s.takeLidClosing i t =
    { s with inlets := s.inlets.set i (if x.runOut then
        { x.cycled with state := .locked, window := none, serviceTimer := none, runOut := false }
      else x.cycled) }.judgeRelease x.cfg.container := by
  rw [takeLidClosing_service t hx hl hc hlid hcause, endService_open (x := x.cycled) hst]

/-- Where the service opening has ended before its lid closes, nothing of it is left to end (R90, R139). -/
theorem takeLidClosing_serviceOver (hcause : l.cause = .service) (hst : x.state ≠ .serviceOpen) : s.takeLidClosing i t =
    { s with inlets := s.inlets.set i x.cycled }.judgeRelease x.cfg.container := by
  rw [takeLidClosing_service t hx hl hc hlid hcause, endService_other (x := x.cycled) hst, ite_self]

end

end

/-! ## The debouncer of an AWAKE part accepts a lid event (R72) -/

theorem putBit_getLsbD_eq {w : Nat} (v : BitVec w) (i n : Nat) (b : Bool) (h : n < w) :
    (putBit v i b).getLsbD n = if n = i then b else v.getLsbD n := by
  cases b with
  | false =>
    rw [putBit_false_getLsbD v i n h]
    by_cases hn : n = i <;> simp [hn]
  | true =>
    rw [putBit_true_getLsbD v i n h]
    by_cases hn : n = i <;> simp [hn]

/-- The state in which an accepted lid level is taken: the raw line stands at it, and the reject interval is over
(R72). -/
def State.lidAccepted (s : State) (i : Nat) (x : Inlet) (b : Bool) : State :=
  { s with
    lines := { s.lines with lid := putBit s.lines.lid i (b == x.cfg.activeHigh) }
    inlets := s.inlets.set i { x with rejectStart := none } }

section
variable {s : State} {i : Nat} {x : Inlet} (hx : s.inlets[i]? = some x)
include hx

theorem lidAccepted_get (b : Bool) : (s.lidAccepted i x b).inlets[i]? = some { x with rejectStart := none } :=
  set_get _ hx

/-- No lid level is accepted that the record holds already. -/
theorem acceptLid_same (hh : s.wake.held = []) : s.acceptLid i x.lidOpen = s := by
  simp [State.acceptLid, hx, State.debouncedLid, hh]

theorem acceptLid_opens (ha : s.wake.state = .awake) (hh : s.wake.held = []) (hl : x.lidOpen = false) :
    s.acceptLid i true = (s.lidAccepted i x true).takeLidOpening i s.now := by
  have hd : ¬ s.debouncedLid i x = true := by simp [State.debouncedLid, hh, hl]
  simp only [State.acceptLid, hx, if_neg hd, ha, if_true]
  rw [updInlet_eq_set _ hx]
  rfl

theorem acceptLid_closes (ha : s.wake.state = .awake) (hh : s.wake.held = []) (hl : x.lidOpen = true) :
    s.acceptLid i false = (s.lidAccepted i x false).takeLidClosing i s.now := by
  have hd : ¬ s.debouncedLid i x = false := by simp [State.debouncedLid, hh, hl]
  simp only [State.acceptLid, hx, if_neg hd, ha, if_true, Bool.false_eq_true, if_false]
  rw [updInlet_eq_set _ hx]
  rfl

end

/-- Settles O42: the lid event is accepted, and the inlet takes it by its state or by the opening's cause. -/
theorem lidEvents : Obligations.LidEvents := by
  intro s i x hat hh hx
  obtain ⟨hp, ha⟩ := attends_running hat
  rw [exec_lidOpening, exec_lidClosing, whenRunning_running hp, whenRunning_running hp]
  refine ⟨fun hl => ?_, fun hl => ?_, fun hl => ?_, fun hl => ?_⟩
  · rw [← hl, acceptLid_same hx hh]
  · rw [← hl, acceptLid_same hx hh]
  · have hy := lidAccepted_get hx true
    refine ⟨_, fun n hn => putBit_getLsbD_eq s.lines.lid i n (true == x.cfg.activeHigh) hn |>.trans (by simp), ?_⟩
    rw [acceptLid_opens hx ha hh hl]
    refine ⟨fun hc => ?_, fun hc => ⟨fun hst => ?_, fun hst => ?_, fun hst => ?_⟩⟩
    · rw [takeLidOpening_lifted s.now hy hl hc, State.lidAccepted, List.set_set]
    · rw [takeLidOpening_forced s.now hy hl hc hst, State.lidAccepted, List.set_set]
    · rw [takeLidOpening_window s.now hy hl hc hst, State.lidAccepted, List.set_set]
    · rw [takeLidOpening_service s.now hy hl hc hst, State.lidAccepted, List.set_set]
  · have hy := lidAccepted_get hx false
    refine ⟨_, fun n hn => putBit_getLsbD_eq s.lines.lid i n (false == x.cfg.activeHigh) hn |>.trans (by simp), ?_⟩
    rw [acceptLid_closes hx ha hh hl]
    refine ⟨fun hc => ?_, fun l k hc hlid hk => ⟨fun hcause w n hw hn => ?_, fun hcause => ?_, fun hcause hst => ?_,
      fun hcause hst => ?_, fun hcause => ?_⟩⟩
    · rw [takeLidClosing_lifted s.now hy hl hc, State.lidAccepted, List.set_set]
      rfl
    · rw [takeLidClosing_window s.now hy hl hc hlid hk hcause hw hn, State.lidAccepted, List.set_set]
      rfl
    · rw [takeLidClosing_forced s.now hy hl hc hlid hk hcause, State.lidAccepted, List.set_set]
      rfl
    · rw [takeLidClosing_serviceOpen s.now hy hl hc hlid hcause hst, State.lidAccepted, List.set_set]
      rfl
    · rw [takeLidClosing_serviceOver s.now hy hl hc hlid hcause hst, State.lidAccepted, List.set_set]
      rfl
    · rw [takeLidClosing_uncounted s.now hy hl hc hlid hcause, State.lidAccepted, List.set_set]
      rfl

end Sys2Proof.Machine
end

section
/-! PROOFS. Open Inlet (R89): O43. -/

namespace Sys2Proof.Machine

/-- The states of the bound container that turn Open Inlet away are all but SERVING and SUSPENDED (R89). -/
theorem inletBarred_iff {s : State} {x : Inlet} {k : Container} (hk : s.containers[x.cfg.container]? = some k) :
    s.inletBarred x = true ↔ k.state ≠ .serving ∧ k.state ≠ .suspended := by
  simp only [State.inletBarred, State.inState, hk]
  cases k.state <;> simp

section
variable {s : State} {n : Byte} {x : Inlet} (p : Port)

theorem bodyOpenInlet_none (hx : s.inlets[n.toNat]? = none) : bodyOpenInlet p [n] s = (s, .reply .outOfRange []) := by
  simp only [bodyOpenInlet, param0_singleton, hx, refuse]

theorem bodyOpenInlet_barred (hx : s.inlets[n.toNat]? = some x) (hb : s.inletBarred x = true) :
    bodyOpenInlet p [n] s = (s, .reply .notNow []) := by
  simp only [bodyOpenInlet, param0_singleton, hx, if_pos hb, refuse]

variable (hx : s.inlets[n.toNat]? = some x) (hb : ¬ s.inletBarred x = true)
include hx hb

theorem bodyOpenInlet_busy (h : x.state = .unlocked ∨ x.state = .inUse ∨ x.state = .locked ∧ x.lidOpen = true) :
    bodyOpenInlet p [n] s = (s, .reply .busy []) := by
  simp only [bodyOpenInlet, param0_singleton, hx, if_neg hb, refuse]
  rcases h with h | h | ⟨h, hl⟩
  · simp only [h]
  · simp only [h]
  · simp only [h, hl, if_true]

theorem bodyOpenInlet_again (h : x.state = .serviceOpen) : bodyOpenInlet p [n] s = ({ s with
    inlets := s.inlets.set n.toNat { x with serviceTimer := some (s.now + 300000), runOut := false } },
    .reply .ok []) := by
  simp only [bodyOpenInlet, param0_singleton, hx, if_neg hb, h, done]
  rw [updInlet_eq_set _ hx, ← h]
  rfl

/-- The slot's read, if there is one, is sent BUSY, and the inlet opens for service. -/
theorem bodyOpenInlet_opens (h : x.state = .locked) (hl : x.lidOpen = false) : bodyOpenInlet p [n] s = ({ s with
    outcomes := s.outcomes ++ if x.slot.isSome then [(n.toNat, ReadOutcome.busy)] else []
    inlets := s.inlets.set n.toNat (x.openService s.now) }, .reply .ok []) := by
  simp only [bodyOpenInlet, param0_singleton, hx, if_neg hb, h, if_neg (show ¬ x.lidOpen = true by simp [hl]), done]
  by_cases hs : x.slot.isSome = true
  · rw [if_pos hs, if_pos hs, updInlet_eq_set (s := s.sendOutcome n.toNat .busy) _ hx]
    rfl
  · rw [if_neg hs, if_neg hs, updInlet_eq_set _ hx, List.append_nil]

end

/-- Settles O43: the request by the bound container's state, then by the inlet's. -/
theorem openInlet : Obligations.OpenInlet := by
  intro s p tag n h hc hv
  have row : reqOpenInlet.row.refusal p [n].length s.configured = none :=
    refusal_none rfl (portsNS_contains hv) (.inl hc)
  refine ⟨fun hx => ?_, fun x k hx hk => ⟨fun h1 h2 => ?_, fun hst => ?_⟩⟩
  · exact (arrive_reported h reqOpenInlet tag [n] row (bodyOpenInlet_none (s := s.taken p 0x21 tag) p hx) :)
  · have hb : s.inletBarred x = true := (inletBarred_iff hk).mpr ⟨h1, h2⟩
    exact (arrive_reported h reqOpenInlet tag [n] row (bodyOpenInlet_barred (s := s.taken p 0x21 tag) p hx hb) :)
  · have hb : ¬ s.inletBarred x = true := by
      rw [inletBarred_iff hk]
      tauto
    refine ⟨fun hs => ?_, fun hs => ?_, fun hs hl => ?_⟩
    · exact (arrive_reported h reqOpenInlet tag [n] row (bodyOpenInlet_busy (s := s.taken p 0x21 tag) p hx hb hs) :)
    · exact answered_replied (arrive_answered h reqOpenInlet tag [n] row
        (bodyOpenInlet_again (s := s.taken p 0x21 tag) p hx hb hs) :) rfl
    · exact answered_replied (arrive_answered h reqOpenInlet tag [n] row
        (bodyOpenInlet_opens (s := s.taken p 0x21 tag) p hx hb hs hl) :) rfl

end Sys2Proof.Machine
end

section
/-! PROOFS. Claim Lift with the release condition, Cancel Lift and the two waits, and the outcomes that one event sends to
several readers (R78, R108, R138 to R143): O49. -/

namespace Sys2Proof.Machine

/-! ## Outcomes to several readers (R78, R108) -/

/-- The outcome that inlet n's reader gets, if any. -/
def slotOutcome (test : Inlet → Bool) (o : ReadOutcome) (n : Nat) (x : Inlet) : List (Nat × ReadOutcome) :=
  if x.slot.isSome && test x then [(n, o)] else []

theorem slotOutcomes_eq (test : Inlet → Bool) (o : ReadOutcome) (n : Nat) (xs : List Inlet) :
    slotOutcomes test o n xs = eachOf (slotOutcome test o) n xs := by
  induction xs generalizing n with
  | nil => rfl
  | cons x xs ih => rw [slotOutcomes, ih, eachOf, slotOutcome]

theorem mem_slotOutcome {test : Inlet → Bool} {o r : ReadOutcome} {n i : Nat} {x : Inlet} :
    (i, r) ∈ slotOutcome test o n x ↔ (i = n ∧ r = o) ∧ x.slot ≠ none ∧ test x = true := by
  unfold slotOutcome
  split
  · next h => simp_all [Option.isSome_iff_ne_none]
  · next h => simp_all [Option.isSome_iff_ne_none]

theorem mem_slotOutcomes (test : Inlet → Bool) (o : ReadOutcome) (xs : List Inlet) (i : Nat) (r : ReadOutcome) :
    (i, r) ∈ slotOutcomes test o 0 xs ↔ r = o ∧ ∃ x, xs[i]? = some x ∧ x.slot ≠ none ∧ test x = true := by
  simp only [slotOutcomes_eq, mem_eachOf, Nat.zero_add, mem_slotOutcome]
  constructor
  · rintro ⟨j, x, hx, ⟨rfl, hr⟩, h⟩
    exact ⟨hr, x, hx, h⟩
  · rintro ⟨hr, x, hx, h⟩
    exact ⟨i, x, hx, ⟨rfl, hr⟩, h⟩

theorem slotOutcomes_placed (test : Inlet → Bool) (o : ReadOutcome) (xs : List Inlet) :
    Placed Prod.fst 0 xs.length (slotOutcomes test o 0 xs) := by
  rw [slotOutcomes_eq]
  refine placed_records (w := 1) (by omega) (fun n x _ => ?_) le_rfl
  unfold slotOutcome
  split
  · exact placed_singleton (by omega) (by omega)
  · exact placed_nil _ (by omega)

/-! ## The release condition (R140) -/

theorem readyForCrane_iff (s : State) (c : Nat) : s.readyForCrane c = true ↔
    ∀ y ∈ s.inlets, y.cfg.container = c → y.state = .locked ∧ y.lidOpen = false := by
  simp only [State.readyForCrane, Inlet.holdsOff, List.all_eq_true]
  refine forall₂_congr fun y _ => ?_
  by_cases hc : y.cfg.container = c <;> simp [hc]

theorem judgeRelease_ready {s : State} {c : Nat} {k : Container} (hk : s.containers[c]? = some k)
    (hs : k.state = .claimed) (hr : s.readyForCrane c = true) : s.judgeRelease c = { s with
      containers := s.containers.set c { k with state := .released }
      lift := { s.lift with lidWait := none, releaseWait := some (s.now + 180000) } }.raise .lift := by
  rw [State.judgeRelease, if_pos ⟨(inState_eq s c .claimed).mpr ⟨k, hk, hs⟩, hr⟩, updContainer_eq_set _ hk]
  rfl

theorem judgeRelease_waits {s : State} {c : Nat} (h : s.inState c .claimed = false ∨ s.readyForCrane c = false) :
    s.judgeRelease c = s := by
  rw [State.judgeRelease, if_neg]
  rintro ⟨hc, hr⟩
  rcases h with h | h
  · exact absurd hc (by simp [h])
  · exact absurd hr (by simp [h])

/-- The release condition neither reads nor writes what taking a request has put in its port. -/
theorem judgeRelease_taken (s : State) (c : Nat) (p : Port) (code tag : Byte) :
    ({ s with ports := (s.taken p code tag).ports } : State).judgeRelease c =
      { s.judgeRelease c with ports := ((s.judgeRelease c).taken p code tag).ports } := by
  by_cases h : s.inState c .claimed = true ∧ s.readyForCrane c = true
  · simp only [State.judgeRelease]
    rw [if_pos h, if_pos (by exact h)]
    cases p <;> rfl
  · simp only [State.judgeRelease]
    rw [if_neg h, if_neg (by exact h)]

/-! ## Claim Lift (R138, R139) -/

theorem liftContainer_isSome (s : State) : s.liftContainer.isSome = true ↔
    ∃ k ∈ s.containers, k.state = .claimed ∨ k.state = .released ∨ k.state = .lifted := by
  simp [State.liftContainer, findContainer_eq, List.findIdx?_isSome]

/-- What keeps a session from a further claim (R138). -/
def State.claimBusy (s : State) (x : Session) : Prop :=
  x.claimed ≠ none ∨ ∃ k ∈ s.containers, k.state = .claimed ∨ k.state = .released ∨ k.state = .lifted

theorem claimBusy_iff (s : State) (x : Session) :
    (x.claimed.isSome = true ∨ s.liftContainer.isSome = true) ↔ s.claimBusy x := by
  rw [liftContainer_isSome, State.claimBusy, Option.isSome_iff_ne_none]

/-- The records of container c's inlets once an accepted claim has ended what was open there (R139). -/
def claimedInlets (c : Nat) (xs : List Inlet) : List Inlet :=
  xs.map fun y : Inlet =>
    if y.cfg.container = c then
      (match y.state with
        | .unlocked => { y with slot := none, query := none, state := .locked, window := none, windowTimer := none }
        | .serviceOpen =>
          { y with slot := none, query := none, state := .locked, window := none, serviceTimer := none, runOut := false }
        | .locked | .inUse => { y with slot := none, query := none })
    else y

theorem mapBoundInlets_claimed (s : State) (c : Nat) :
    s.mapBoundInlets c Inlet.claimed = { s with inlets := claimedInlets c s.inlets } := by
  unfold State.mapBoundInlets claimedInlets
  congr 2
  funext y
  split
  · unfold Inlet.claimed Inlet.clearSlot Inlet.endService Inlet.endWindow
    cases hs : y.state <;> simp [hs]
  · rfl

/-- The state in which an accepted claim stands before the release condition is judged (R139). -/
def State.claimTaken (s : State) (c : Nat) (k : Container) (x : Session) : State :=
  { s with
    outcomes := s.outcomes ++ slotOutcomes (fun y => decide (y.cfg.container = c)) .emptying 0 s.inlets
    containers := s.containers.set c { k with state := .claimed }
    inlets := claimedInlets c s.inlets
    lift := { s.lift with session := some { x with claimed := some c }, lidWait := some (s.now + 60000) } }

theorem acceptClaim_eq {s : State} {c : Nat} {k : Container} {x : Session} (hk : s.containers[c]? = some k)
    (hx : s.lift.session = some x) : s.acceptClaim c = (s.claimTaken c k x).judgeRelease c := by
  have hl : s.lift.claim c (s.now + seconds 60) =
      { s.lift with session := some { x with claimed := some c }, lidWait := some (s.now + 60000) } := by
    rw [LiftController.claim, hx]
    rfl
  rw [State.acceptClaim, updContainer_eq_set _ (by exact hk), mapBoundInlets_claimed]
  exact congrArg (fun l => State.judgeRelease { s.claimTaken c k x with lift := l } c) hl

section
variable {s : State} {n : Byte} {x : Session} {k : Container} (p : Port)

theorem bodyClaimLift_refused {st : Status} (h : claimRefusal n.toNat s = some st) :
    bodyClaimLift p [n] s = (s, .reply st []) := by
  simp only [bodyClaimLift, param0_singleton, h, refuse]

theorem bodyClaimLift_accepted (h : claimRefusal n.toNat s = none) :
    bodyClaimLift p [n] s = (s.acceptClaim n.toNat, .reply .accepted []) := by
  simp only [bodyClaimLift, param0_singleton, h]

theorem claimRefusal_noSession (h : s.lift.session = none) (c : Nat) : claimRefusal c s = some .noSession := by
  simp only [claimRefusal, h]

theorem claimRefusal_busy (hx : s.lift.session = some x) (hb : s.claimBusy x) (c : Nat) :
    claimRefusal c s = some .busy := by
  simp only [claimRefusal, hx, if_pos ((claimBusy_iff s x).mpr hb)]

theorem claimRefusal_outOfRange {c : Nat} (hx : s.lift.session = some x) (hb : ¬ s.claimBusy x)
    (hk : s.containers[c]? = none) : claimRefusal c s = some .outOfRange := by
  simp only [claimRefusal, hx, if_neg (mt (claimBusy_iff s x).mp hb), hk]

/-- The checks on the container, in their order, once the session may claim it (R138). -/
theorem claimRefusal_container {c : Nat} (hx : s.lift.session = some x) (hb : ¬ s.claimBusy x)
    (hk : s.containers[c]? = some k) : claimRefusal c s =
      if x.fractions.getLsbD k.cfg.fraction = false then some .wrongFraction
      else if k.hot = true then some .hot
      else if k.state = .suspended ∨ k.state = .verifying ∨ k.displaced = true then some .notNow
      else none := by
  simp only [claimRefusal, hx, if_neg (mt (claimBusy_iff s x).mp hb), hk]

end

/-! ## Cancel Lift (R143) -/

theorem liftedOrVerifying_iff (s : State) :
    s.liftedOrVerifying = true ↔ ∃ k ∈ s.containers, k.state = .lifted ∨ k.state = .verifying := by
  simp [State.liftedOrVerifying]

section
variable {s : State} {x : Session} {c : Nat} {k : Container} (p : Port)

theorem bodyCancelLift_noSession (h : s.lift.session = none) : bodyCancelLift p [] s = (s, .reply .noSession []) := by
  simp only [bodyCancelLift, h, refuse]

variable (hx : s.lift.session = some x)
include hx

theorem bodyCancelLift_away (hc : x.claimed = none) (h : s.liftedOrVerifying = true) :
    bodyCancelLift p [] s = (s, .reply .notNow []) := by
  simp only [bodyCancelLift, hx, hc, if_pos h, refuse]

theorem bodyCancelLift_noClaim (hc : x.claimed = none) (h : ¬ s.liftedOrVerifying = true) :
    bodyCancelLift p [] s = (s, .reply .noSession []) := by
  simp only [bodyCancelLift, hx, hc, if_neg h, refuse]

variable (hc : x.claimed = some c) (hk : s.containers[c]? = some k)
include hc hk

theorem bodyCancelLift_cancels (h : k.state = .claimed ∨ k.state = .released) :
    bodyCancelLift p [] s = (s.endClaim c .cancelled, .reply .ok []) := by
  have hs : s.inState c .claimed = true ∨ s.inState c .released = true := by simpa [State.inState, hk] using h
  simp only [bodyCancelLift, hx, hc, if_pos hs, done]

theorem bodyCancelLift_lifted (h : k.state = .lifted) : bodyCancelLift p [] s = (s, .reply .notNow []) := by
  have hs : ¬ (s.inState c .claimed = true ∨ s.inState c .released = true) := by simp [State.inState, hk, h]
  simp only [bodyCancelLift, hx, hc, if_neg hs, refuse]

end

/-! ## The two waits (R141, R142) -/

/-- The one container that passes a test is found. -/
theorem findContainer_alone {s : State} {test : Container → Bool} {c : Nat} {k : Container}
    (hk : s.containers[c]? = some k) (ht : test k = true)
    (alone : ∀ d m, s.containers[d]? = some m → test m = true → d = c) : s.findContainer test = some c := by
  cases h : s.findContainer test with
  | none => exact absurd ht (by simp [findContainer_none h hk])
  | some d =>
    obtain ⟨m, hm, htm⟩ := findContainer_some h
    rw [alone d m hm htm]

/-- The wait of the one container in its state ends the claim. -/
theorem endWait_alone {s : State} {c : Nat} {k : Container} (hk : s.containers[c]? = some k)
    (alone : ∀ d m, s.containers[d]? = some m → m.state = k.state → d = c) (e : LiftEnding) :
    s.endWait k.state e = s.endClaim c e := by
  have hf : (s.findContainer fun m => decide (m.state = k.state)) = some c :=
    findContainer_alone hk (by simp) fun d m hm h => alone d m hm (by simpa using h)
  simp only [State.endWait, hf]

theorem exec_lidWaitExpiry {s : State} {t : Nat} (hp : s.power = .running) (ht : s.lift.lidWait = some t) :
    exec .lidWaitExpiry s = .next ((s.advanceTo t).endWait .claimed .lidTimeout).judgeIdle := by
  have h : exec .lidWaitExpiry s = execLidWaitExpiry s := rfl
  rw [h, execLidWaitExpiry, whenRunning_running hp]
  simp only [ht]

theorem exec_releaseWaitExpiry {s : State} {t : Nat} (hp : s.power = .running) (ht : s.lift.releaseWait = some t) :
    exec .releaseWaitExpiry s = .next ((s.advanceTo t).endWait .released .releaseTimeout).judgeIdle := by
  have h : exec .releaseWaitExpiry s = execReleaseWaitExpiry s := rfl
  rw [h, execReleaseWaitExpiry, whenRunning_running hp]
  simp only [ht]

/-- Settles O49: the outcomes, the claim check by check, the release condition, the cancellation, the waits. -/
theorem liftRequestsAndWaits : Obligations.LiftRequestsAndWaits := by
  refine ⟨fun test o xs => ⟨mem_slotOutcomes test o xs, (slotOutcomes_placed test o xs).pairwise⟩,
    fun s tag n h hc => ?_, fun s c k hk => ⟨fun hs hr => ?_, fun hw => ?_⟩, fun s tag h hc => ?_,
    fun s c k t hp hk alone => ⟨fun hs ht => ?_, fun hs ht => ?_⟩⟩
  · have row : reqClaimLift.row.refusal .vehicle [n].length s.configured = none := refusal_none rfl rfl (.inl hc)
    have refused : ∀ st, claimRefusal n.toNat (s.taken .vehicle 0x52 tag) = some st →
        exec (.claimLift .vehicle tag [n]) s = .next ((s.replied .vehicle 0x52 tag (statusCode st) []).judgeIdle) :=
      fun st hr => (arrive_reported h reqClaimLift tag [n] row (bodyClaimLift_refused .vehicle hr) :)
    refine ⟨fun hx => refused .noSession (claimRefusal_noSession hx _), fun x hx => ⟨fun hb =>
      refused .busy (claimRefusal_busy hx hb _), fun hb hk => refused .outOfRange (claimRefusal_outOfRange hx hb hk),
      fun k hb hk => ?_⟩⟩
    have checks := claimRefusal_container (s := s.taken .vehicle 0x52 tag) hx hb hk
    refine ⟨fun hf => refused .wrongFraction ?_, fun hf hh => refused .hot ?_, fun hf hh hn => refused .notNow ?_,
      fun hf hh hs hd => ?_⟩
    · rw [checks, if_pos hf]
    · rw [checks, if_neg (by rw [hf]; decide), if_pos hh]
    · rw [checks, if_neg (by rw [hf]; decide), if_neg (by simp [hh]), if_pos hn]
    · have accepts : claimRefusal n.toNat (s.taken .vehicle 0x52 tag) = none := by
        rw [checks, if_neg (by rw [hf]; decide), if_neg (by simp [hh]), if_neg (by simp [hs, hd])]
      refine answered_replied (t := (s.claimTaken n.toNat k x).judgeRelease n.toNat)
        (arrive_answered h reqClaimLift tag [n] row (bodyClaimLift_accepted .vehicle accepts) :) ?_
      exact (acceptClaim_eq (s := s.taken .vehicle 0x52 tag) hk hx).trans
        (judgeRelease_taken (s.claimTaken n.toNat k x) n.toNat .vehicle 0x52 tag)
  · exact judgeRelease_ready hk hs ((readyForCrane_iff s c).mpr hr)
  · refine judgeRelease_waits (hw.imp (fun hs => by simp [State.inState, hk, hs]) fun ⟨y, hy, hyc, hop⟩ => ?_)
    rw [← Bool.not_eq_true, readyForCrane_iff]
    intro hr
    obtain ⟨hlock, hlid⟩ := hr y hy hyc
    rcases hop with hop | hop
    · exact hop hlock
    · simp [hlid] at hop
  · have row : reqCancelLift.row.refusal .vehicle ([] : List Byte).length s.configured = none :=
      refusal_none rfl rfl (.inl hc)
    refine ⟨fun hx => ?_, fun x hx hcl => ⟨fun hk => ?_, fun hk => ?_⟩,
      fun x c k hx hcl hk => ⟨fun hs => ?_, fun hs => ?_⟩⟩
    · exact (arrive_reported h reqCancelLift tag [] row
        (bodyCancelLift_noSession (s := s.taken .vehicle 0x53 tag) .vehicle hx) :)
    · exact (arrive_reported h reqCancelLift tag [] row
        (bodyCancelLift_away (s := s.taken .vehicle 0x53 tag) .vehicle hx hcl ((liftedOrVerifying_iff _).mpr hk)) :)
    · have hk' : ¬ s.liftedOrVerifying = true := by
        rw [liftedOrVerifying_iff]
        rintro ⟨k, hm, hs⟩
        obtain ⟨hl, hv⟩ := hk k hm
        exact hs.elim hl hv
      exact (arrive_reported h reqCancelLift tag [] row
        (bodyCancelLift_noClaim (s := s.taken .vehicle 0x53 tag) .vehicle hx hcl hk') :)
    · rw [← endClaim_eq .cancelled hk]
      exact answered_replied (arrive_answered h reqCancelLift tag [] row
        (bodyCancelLift_cancels (s := s.taken .vehicle 0x53 tag) .vehicle hx hcl hk hs) :) rfl
    · exact (arrive_reported h reqCancelLift tag [] row
        (bodyCancelLift_lifted (s := s.taken .vehicle 0x53 tag) .vehicle hx hcl hk hs) :)
  · rw [exec_lidWaitExpiry hp ht, ← hs, endWait_alone (s := s.advanceTo t) hk alone,
      endClaim_eq (s := s.advanceTo t) _ hk]
    rfl
  · rw [exec_releaseWaitExpiry hp ht, ← hs, endWait_alone (s := s.advanceTo t) hk alone,
      endClaim_eq (s := s.advanceTo t) _ hk]
    rfl

end Sys2Proof.Machine
end

section
/-! PROOFS. What arrives while the part is not AWAKE is held (R72, R183 to R186): O51. -/

namespace Sys2Proof.Machine

/-! ## A cause is held, and the event ends -/

/-- A part that is not AWAKE has no idle timer at the end of an event (R182). -/
theorem judgeIdle_asleep {u : State} (h : u.wake.state ≠ .awake) :
    u.judgeIdle = { u with wake := { u.wake with idleTimer := none } } := by
  have hn : u.nextIdleTimer = none := if_neg fun ⟨ha, _⟩ => h (attends_running ha).2
  rw [State.judgeIdle, hn]

/-- The end of an event that has held a cause, the first of which begins the settling (R184). -/
def State.withHeld (u : State) (h : HeldCause) : State :=
  { u with
    wake := { u.wake with
      state := .waking, idleTimer := none, held := u.wake.held ++ [h]
      settleEnd := if u.wake.state = .doze then some (u.now + 2) else u.wake.settleEnd } }

theorem wakeState_cases {u : State} (h : u.wake.state ≠ .awake) : u.wake.state = .doze ∨ u.wake.state = .waking := by
  cases hw : u.wake.state with
  | awake => exact absurd hw h
  | doze => exact .inl rfl
  | waking => exact .inr rfl

/-- A cause joins the held ones, but for one of which only one is held, while it is held (R183, R184, R186). -/
theorem addHeld_joins {hs : List HeldCause} {h : HeldCause} (hh : h.once = true → h ∉ hs) : addHeld hs h = hs ++ [h] :=
  if_neg (by simpa using hh)

theorem addHeld_again {hs : List HeldCause} {h : HeldCause} (once : h.once = true) (hh : h ∈ hs) : addHeld hs h = hs :=
  if_pos (by simp [once, hh])

theorem hold_asleep {u : State} (h : HeldCause) (hw : u.wake.state ≠ .awake) : u.hold h = { u with
    wake := { u.wake with
      state := .waking, held := addHeld u.wake.held h
      settleEnd := if u.wake.state = .doze then some (u.now + 2) else u.wake.settleEnd } } := by
  rcases wakeState_cases hw with hw | hw <;> simp [State.hold, State.beginWaking, hw]

theorem hold_waking {u : State} (h : HeldCause) (hw : u.wake.state = .waking) :
    u.hold h = { u with wake := { u.wake with held := addHeld u.wake.held h } } := by
  simp [State.hold, State.beginWaking, hw]

theorem hold_state {u : State} (h : HeldCause) (hw : u.wake.state ≠ .awake) : (u.hold h).wake.state = .waking := by
  rw [hold_asleep h hw]

theorem hold_joins {u : State} {h : HeldCause} (hw : u.wake.state ≠ .awake) (hh : h.once = true → h ∉ u.wake.held) :
    (u.hold h).judgeIdle = u.withHeld h := by
  rw [judgeIdle_asleep (by simp [hold_state h hw]), hold_asleep h hw, addHeld_joins hh, State.withHeld]

/-- A cause of which only one is held leaves the held ones as they are when it comes again (R183, R186). -/
theorem hold_again {u : State} {h : HeldCause} (hw : u.wake.state = .waking) (once : h.once = true)
    (hh : h ∈ u.wake.held) : (u.hold h).judgeIdle = { u with wake := { u.wake with idleTimer := none } } := by
  rw [hold_waking h hw, addHeld_again once hh, judgeIdle_asleep (by simp [hw])]

/-! ## The lines move while the part is not AWAKE (R72, R185) -/

/-- A cause that a move of the field lines can bring. -/
def HeldCause.ofLine : HeldCause → Bool
  | .lid .. | .seat .. => true
  | .read .. | .carrier _ | .restart | .receive _ | .due _ | .limit _ => false

/-- What a part that is not AWAKE holds after its lines have moved: what it held, and changes of the lines. -/
structure State.LinesHeld (s t : State) : Prop where
  asleep : t.wake.state ≠ .awake
  waking : s.wake.state = .waking → t.wake.state = .waking
  held : ∀ h : HeldCause, h.ofLine = false → (h ∈ t.wake.held ↔ h ∈ s.wake.held)

theorem State.LinesHeld.trans {s t u : State} (h : s.LinesHeld t) (h' : t.LinesHeld u) : s.LinesHeld u :=
  ⟨h'.asleep, fun hw => h'.waking (h.waking hw), fun c hc => (h'.held c hc).trans (h.held c hc)⟩

theorem linesHeld_of_wake {s t : State} (hw : s.wake.state ≠ .awake) (h : t.wake = s.wake) : s.LinesHeld t :=
  ⟨by rwa [h], fun hs => by rw [h, hs], fun _ _ => by rw [h]⟩

theorem linesHeld_hold {s t : State} {h : HeldCause} (hw : s.wake.state ≠ .awake) (ht : t.wake = s.wake)
    (hl : h.ofLine = true) : s.LinesHeld (t.hold h) := by
  have hwt : t.wake.state ≠ .awake := by rwa [ht]
  refine ⟨by simp [hold_state h hwt], fun _ => hold_state h hwt, fun c hc => ?_⟩
  have hne : c ≠ h := by
    rintro rfl
    exact absurd hl (by simp [hc])
  have hadd : c ∈ addHeld s.wake.held h ↔ c ∈ s.wake.held := by
    unfold addHeld
    split <;> simp [hne]
  rw [hold_asleep h hwt, ht]
  exact hadd

theorem acceptLid_linesHeld {s : State} (hw : s.wake.state ≠ .awake) (i : Nat) (b : Bool) :
    s.LinesHeld (s.acceptLid i b) := by
  cases hx : s.inlets[i]? with
  | none =>
    simp only [State.acceptLid, hx]
    exact linesHeld_of_wake hw rfl
  | some x =>
    by_cases hd : s.debouncedLid i x = b
    · simp only [State.acceptLid, hx, if_pos hd]
      exact linesHeld_of_wake hw rfl
    · simp only [State.acceptLid, hx, if_neg hd, if_neg hw]
      exact linesHeld_hold hw rfl rfl

theorem acceptSeat_linesHeld {s : State} (hw : s.wake.state ≠ .awake) (c : Nat) (b : Bool) :
    s.LinesHeld (s.acceptSeat c b) := by
  cases hk : s.containers[c]? with
  | none =>
    simp only [State.acceptSeat, hk]
    exact linesHeld_of_wake hw rfl
  | some k =>
    by_cases hd : s.debouncedSeat c k = b
    · simp only [State.acceptSeat, hk, if_pos hd]
      exact linesHeld_of_wake hw rfl
    · simp only [State.acceptSeat, hk, if_neg hd, if_neg hw]
      exact linesHeld_hold hw rfl rfl

theorem foldl_linesHeld {f : State → Nat × Bool → State}
    (hf : ∀ u : State, u.wake.state ≠ .awake → ∀ e, u.LinesHeld (f u e)) (es : List (Nat × Bool)) {s : State}
    (hw : s.wake.state ≠ .awake) : s.LinesHeld (es.foldl f s) := by
  induction es generalizing s with
  | nil => exact linesHeld_of_wake hw rfl
  | cons e es ih => exact (hf s hw e).trans (ih (hf s hw e).asleep)

theorem acceptStood_linesHeld {s : State} (hw : s.wake.state ≠ .awake) : s.LinesHeld s.acceptStood := by
  have lids := foldl_linesHeld (f := fun v e => v.acceptLid e.1 e.2) (fun u hu e => acceptLid_linesHeld hu e.1 e.2)
    (eachOf s.stoodLid 0 s.inlets) hw
  exact lids.trans (foldl_linesHeld (f := fun v e => v.acceptSeat e.1 e.2)
    (fun u hu e => acceptSeat_linesHeld hu e.1 e.2) (eachOf s.stoodSeat 0 s.containers) lids.asleep)

theorem moveLines_linesHeld {s : State} (hw : s.wake.state ≠ .awake) (l : FieldLines) :
    s.LinesHeld (s.moveLines l) := by
  have first := acceptStood_linesHeld hw
  have moved : s.LinesHeld (s.acceptStood.withLines l) := first.trans (linesHeld_of_wake first.asleep rfl)
  exact moved.trans (acceptStood_linesHeld moved.asleep)

theorem linesOf_linesHeld {s : State} (hw : s.wake.state ≠ .awake) (i : Instr) : s.LinesHeld (s.linesOf i) := by
  unfold State.linesOf
  split
  · exact moveLines_linesHeld hw _
  · exact linesHeld_of_wake hw rfl

theorem linesOf_power (s : State) (i : Instr) : (s.linesOf i).power = s.power := by
  unfold State.linesOf
  split <;> simp

/-! ## Received bytes (R186) -/

theorem receiveRun_asleep {u : State} (hp : u.power = .running) (hw : u.wake.state ≠ .awake) {p : Port}
    {bs : List RxByte} (hb : bs ≠ []) : u.receiveRun p bs = u.hold (.receive p) := by
  simp [State.receiveRun, hp, hw, hb]

theorem lineFrame_ne_nil (code tag : Byte) (ps : List Byte) : lineFrame code tag ps ≠ [] := by
  simp [lineFrame, requestFrame]

theorem not_listening {u : State} (hw : u.wake.state ≠ .awake) (p : Port) : ¬ u.listening p = true := fun h =>
  hw ((listening_iff u p).mp h).2.1

/-- A request of the index arrives once the lines stand at the levels that it brings. -/
theorem exec_request {i : Instr} {p : Port} {code tag : Byte} {ps : List Byte}
    (h : requestParts i = some (p, code, tag, ps)) :
    ∃ r : Request, ∀ s, exec i s = whenRunning s fun v => r.arrive p tag ps (v.linesOf i) := by
  cases i <;> cases h
  all_goals exact ⟨_, fun _ => rfl⟩

/-- The bytes of a request's frame are lost to a part that is not AWAKE, and mark its port (R186). -/
theorem exec_request_asleep {s : State} {i : Instr} {p : Port} {code tag : Byte} {ps : List Byte}
    (hp : s.power = .running) (hw : s.wake.state ≠ .awake)
    (h : requestParts i = some (p, code, tag, ps) ∨ i = .unknownRequestCode p code tag ps) :
    exec i s = .next ((s.linesOf i).hold (.receive p)).judgeIdle := by
  have hp' : (s.linesOf i).power = .running := by rw [linesOf_power, hp]
  have hw' := (linesOf_linesHeld hw i).asleep
  rcases h with h | rfl
  · obtain ⟨r, hr⟩ := exec_request h
    rw [hr, whenRunning_running hp, Request.arrive, if_neg (not_listening hw' p),
      receiveRun_asleep hp' hw' (lineFrame_ne_nil _ _ _)]
  · have he : exec (.unknownRequestCode p code tag ps) s = execUnknownRequestCode p code tag ps s := rfl
    rw [he, execUnknownRequestCode, whenRunning_running hp, if_neg (not_listening hw p),
      receiveRun_asleep hp hw (lineFrame_ne_nil _ _ _)]
    rfl

/-! ## Lid events and seat changes (R72, R185) -/

/-- The carrier level last seen is the followed one while no edge is held (R183). -/
theorem seenCarrier_unseen {s : State} (hh : ∀ d, HeldCause.carrier d ∉ s.wake.held) :
    s.seenCarrier = s.lift.carrier := by
  unfold State.seenCarrier
  refine List.foldlRecOn (motive := fun b => b = s.lift.carrier) _ _ rfl fun b hb h hm => ?_
  cases h with
  | carrier d => exact absurd hm (hh d)
  | _ => exact hb

section
variable {s : State} (hw : s.wake.state ≠ .awake)
include hw

theorem acceptLid_held {i : Nat} {x : Inlet} {b : Bool} (hx : s.inlets[i]? = some x)
    (hh : ∀ b t, HeldCause.lid i b t ∉ s.wake.held) (hl : x.lidOpen ≠ b) :
    s.acceptLid i b = (s.lidAccepted i x b).hold (.lid i b s.now) := by
  have hd : ¬ s.debouncedLid i x = b := by
    rw [(acceptedLid_iff s i x x.lidOpen).mp (.inr ⟨rfl, hh⟩)]
    exact hl
  simp only [State.acceptLid, hx, if_neg hd, if_neg hw]
  rw [updInlet_eq_set _ hx]
  rfl

/-- The line stands at the accepted seat level, its 200 ms hold is over, and the change is held (R7, R185). -/
theorem acceptSeat_held {c : Nat} {k : Container} {b : Bool} (hk : s.containers[c]? = some k)
    (hh : ∀ b t, HeldCause.seat c b t ∉ s.wake.held) (hb : k.seated ≠ b) :
    s.acceptSeat c b = ({ s with
      lines := { s.lines with seat := putBit s.lines.seat c b }
      containers := s.containers.set c { k with seatHold := none } } : State).hold (.seat c b s.now) := by
  have hd : ¬ s.debouncedSeat c k = b := by
    rw [(acceptedSeat_iff s c k k.seated).mp (.inr ⟨rfl, hh⟩)]
    exact hb
  simp only [State.acceptSeat, hk, if_neg hd, if_neg hw]
  rw [updContainer_eq_set _ hk]

/-! ## The other arrivals -/

theorem exec_cardRead_asleep {i : Fin 16} {n : BitVec 40} {x : Inlet} (hp : s.power = .running)
    (hx : s.inlets[i.val]? = some x) (hr : x.cfg.reader = true) :
    exec (.cardRead i n) s = .next (s.hold (.read i n.toNat)).judgeIdle := by
  have h : exec (.cardRead i n) s = execCardRead i n s := rfl
  rw [h, execCardRead, whenRunning_running hp, if_neg hw]
  simp only [hx, if_pos hr]

theorem exec_resetLine_asleep (hp : s.power = .running) (l : FieldLines) :
    exec (.resetLineAssertion l) s = .next ((s.moveLines l).hold .restart).judgeIdle := by
  have h : exec (.resetLineAssertion l) s = execResetLineAssertion l s := rfl
  rw [h, execResetLineAssertion, whenRunning_running hp, if_neg hw]

theorem exec_receiveActivity_asleep (hp : s.power = .running) (p : Port) :
    exec (.receiveActivityInDoze p) s = .next (s.hold (.receive p)).judgeIdle := by
  have h : exec (.receiveActivityInDoze p) s = execReceiveActivityInDoze p s := rfl
  rw [h, execReceiveActivityInDoze, whenRunning_running hp, if_neg hw]

theorem exec_badFrame_asleep (hp : s.power = .running) (p : Port) {bs : List RxByte} (hb : bs ≠ []) :
    exec (.badFrame p bs) s = .next (s.hold (.receive p)).judgeIdle := by
  have h : exec (.badFrame p bs) s = execBadFrame p bs s := rfl
  rw [h, execBadFrame, whenRunning_running hp, receiveRun_asleep hp hw hb]

theorem exec_dueEvent_asleep {c : Fin 8} {k : Container} (hp : s.power = .running) (hk : s.containers[c.val]? = some k)
    (hh : HeldCause.due c ∉ s.wake.held) :
    exec (.dueEvent c) s = .next ((s.advanceTo k.nextDue).hold (.due c)).judgeIdle := by
  have h : exec (.dueEvent c) s = execDueEvent c s := rfl
  rw [h, execDueEvent, whenRunning_running hp]
  simp only [hk, if_neg hw, if_neg (mt List.contains_iff_mem.mp hh)]

theorem exec_limit_asleep {i : Fin 16} {x : Inlet} {t : Nat} (hp : s.power = .running) (hx : s.inlets[i.val]? = some x)
    (ht : x.limitTimer = some t) (hh : HeldCause.limit i ∉ s.wake.held) :
    exec (.lidOpenLimitExpiry i) s = .next ((s.advanceTo t).hold (.limit i)).judgeIdle := by
  have h : exec (.lidOpenLimitExpiry i) s = execLidOpenLimitExpiry i s := rfl
  rw [h, execLidOpenLimitExpiry, whenRunning_running hp]
  simp only [hx, Option.bind_some, ht, if_neg hw, if_neg (mt List.contains_iff_mem.mp hh)]

theorem exec_carrierChange_asleep {b : Bool} (hp : s.power = .running) (hh : ∀ d, HeldCause.carrier d ∉ s.wake.held)
    (hb : s.lift.carrier ≠ b) : exec (.carrierChange b) s = .next (s.hold (.carrier b)).judgeIdle := by
  have h : exec (.carrierChange b) s = execCarrierChange b s := rfl
  rw [h, execCarrierChange, whenRunning_running hp, if_neg hw, seenCarrier_unseen hh,
    if_neg hb]

end

/-- Settles O51: each arrival is held, and the part that held it is WAKING. -/
theorem arrivalsAreHeld : Obligations.ArrivalsAreHeld := by
  intro s hp hw
  have fresh : ∀ {u : State} {h : HeldCause} {o : CommandOutcome}, o = .next (u.hold h).judgeIdle →
      u.wake.state ≠ .awake → h ∉ u.wake.held → o = .next (u.withHeld h) :=
    fun ho hu hh => ho.trans (congrArg Host.Outcome.next (hold_joins hu fun _ => hh))
  have again : ∀ {u : State} {h : HeldCause} {o : CommandOutcome}, o = .next (u.hold h).judgeIdle →
      u.wake.state = .waking → h.once = true → h ∈ u.wake.held →
      o = .next { u with wake := { u.wake with idleTimer := none } } :=
    fun ho hu once hh => ho.trans (congrArg Host.Outcome.next (hold_again hu once hh))
  refine ⟨fun p hh => ?_, fun p hh hs => ?_, fun i n x hx hr => ?_,
    fun i p code tag ps hi => ⟨fun hh => ?_, fun hh hs => ?_⟩, fun p bs hb => ⟨fun hh => ?_, fun hh hs => ?_⟩, fun l hh => ?_, fun l hh hs => ?_, fun b hh hb => ?_,
    fun i x hx hh => ?_, fun c k hk hh => ?_, fun c k hk hh => ?_, fun i x t hx ht hh => ?_⟩
  · exact fresh (exec_receiveActivity_asleep hw hp p) hw hh
  · exact again (exec_receiveActivity_asleep hw hp p) hs rfl hh
  · exact (exec_cardRead_asleep hw hp hx hr).trans
      (congrArg Host.Outcome.next (hold_joins hw fun once => absurd once Bool.false_ne_true))
  · have lines := linesOf_linesHeld hw i
    exact fresh (exec_request_asleep hp hw hi) lines.asleep (mt (lines.held _ rfl).mp hh)
  · have lines := linesOf_linesHeld hw i
    exact again (exec_request_asleep hp hw hi) (lines.waking hs) rfl ((lines.held _ rfl).mpr hh)
  · exact fresh (exec_badFrame_asleep hw hp p hb) hw hh
  · exact again (exec_badFrame_asleep hw hp p hb) hs rfl hh
  · have lines := moveLines_linesHeld hw l
    exact fresh (exec_resetLine_asleep hw hp l) lines.asleep (mt (lines.held _ rfl).mp hh)
  · have lines := moveLines_linesHeld hw l
    exact again (exec_resetLine_asleep hw hp l) (lines.waking hs) rfl ((lines.held _ rfl).mpr hh)
  · exact fresh (exec_carrierChange_asleep hw hp hh hb) hw (hh b)
  · rw [exec_lidOpening, exec_lidClosing, whenRunning_running hp, whenRunning_running hp]
    refine ⟨_, fun n hn => (putBit_getLsbD_eq s.lines.lid i n ((!x.lidOpen) == x.cfg.activeHigh) hn).trans
      (by cases x.lidOpen <;> simp), fun hl => ?_, fun hl => ?_⟩
    · have hb : (!x.lidOpen) = true := by simp [hl]
      rw [hb, acceptLid_held hw hx hh (b := true) (by simp [hl])]
      exact fresh rfl hw (hh true s.now)
    · have hb : (!x.lidOpen) = false := by simp [hl]
      rw [hb, acceptLid_held hw hx hh (b := false) (by simp [hl])]
      exact fresh rfl hw (hh false s.now)
  · rw [exec_unseat, exec_reseat, whenRunning_running hp, whenRunning_running hp]
    refine ⟨_, fun n hn => putBit_getLsbD_eq s.lines.seat c n (!k.seated) hn, fun hs => ?_, fun hs => ?_⟩
    · have hb : (!k.seated) = false := by simp [hs]
      rw [hb, acceptSeat_held hw hk hh (b := false) (by simp [hs])]
      exact fresh rfl hw (hh false s.now)
    · have hb : (!k.seated) = true := by simp [hs]
      rw [hb, acceptSeat_held hw hk hh (b := true) (by simp [hs])]
      exact fresh rfl hw (hh true s.now)
  · exact fresh (exec_dueEvent_asleep hw hp hk hh) hw hh
  · exact fresh (exec_limit_asleep hw hp hx ht hh) hw hh

end Sys2Proof.Machine
end

section
/-! PROOFS. The held causes are taken at AWAKE, each origin's in their order, and what each does (R72, R73, R76, R84, R88,
R135, R179, R184 to R186): O52. -/

namespace Sys2Proof.Machine

/-! ## The order in which held causes are taken (R185) -/

/-- What a cause keeps its order of arrival with: its inlet, its container or the carrier line, each with its own
mark. -/
def HeldCause.origin : HeldCause → Option (Nat × Nat)
  | .read i _ | .lid i _ _ => some (0, i)
  | .seat c _ _ => some (1, c)
  | .carrier _ => some (2, 0)
  | .restart | .receive _ | .due _ | .limit _ => none

theorem sameOrigin_iff (a b : HeldCause) : sameOrigin a b = true ↔ a.origin ≠ none ∧ a.origin = b.origin := by
  cases a <;> cases b <;> simp [sameOrigin, HeldCause.origin]

theorem sameOrigin_trans {a b c : HeldCause} (h : sameOrigin a b = true) (h' : sameOrigin b c = true) :
    sameOrigin a c = true := by
  rw [sameOrigin_iff] at *
  obtain ⟨ha, hab⟩ := h
  obtain ⟨_, hbc⟩ := h'
  exact ⟨ha, hab.trans hbc⟩

theorem sameOrigin_symm {a b : HeldCause} (h : sameOrigin a b = true) : sameOrigin b a = true := by
  rw [sameOrigin_iff] at *
  obtain ⟨ha, hab⟩ := h
  exact ⟨hab ▸ ha, hab.symm⟩

/-- The picked cause is the first of its kind, and the first of its origin. -/
theorem pickCause_first {k : Nat} {hs : List HeldCause} {y : HeldCause} (h : pickCause k hs = some y) :
    ∃ before after, hs = before ++ y :: after ∧ ∀ g ∈ before, g ≠ y ∧ ¬ sameOrigin g y = true := by
  obtain ⟨x, _, hf⟩ := Option.bind_eq_some_iff.mp h
  obtain ⟨hy, before, after, rfl, hb⟩ := List.find?_eq_some_iff_append.mp hf
  refine ⟨before, after, rfl, fun g hg => ?_⟩
  have hgx := hb g hg
  simp only [Bool.or_eq_true, decide_eq_true_eq, Bool.not_eq_true', Bool.or_eq_false_iff,
    decide_eq_false_iff_not] at hy hgx
  obtain ⟨hne, hso⟩ := hgx
  rcases hy with rfl | hy
  · exact ⟨hne, by simp [hso]⟩
  · refine ⟨?_, fun hgy => ?_⟩
    · rintro rfl
      simp [hso] at hy
    · simp [sameOrigin_trans hgy hy] at hso

theorem pickCause_picks (k : Nat) {hs : List HeldCause} (h : hs ≠ []) : ∃ y, pickCause k hs = some y := by
  have hx : ∃ x ∈ hs, ((hs[k]?).orElse fun _ => hs.head?) = some x := by
    cases hk : hs[k]? with
    | some x => exact ⟨x, List.mem_of_getElem? hk, rfl⟩
    | none => exact ⟨hs.head h, List.head_mem h, List.head?_eq_some_head h⟩
  obtain ⟨x, hm, hx⟩ := hx
  unfold pickCause
  rw [hx, Option.bind_some]
  exact Option.isSome_iff_exists.mp (List.find?_isSome.mpr ⟨x, hm, by simp⟩)

/-- The causes of hs in another order, in which those of one origin stand as in hs. -/
def KeepsOrigins (hs' hs : List HeldCause) : Prop :=
  hs'.Perm hs ∧ ∀ h, hs'.filter (fun g => sameOrigin g h) = hs.filter fun g => sameOrigin g h

/-- The first cause of an origin may come before every other cause. -/
theorem KeepsOrigins.cons {y : HeldCause} {before after rest : List HeldCause}
    (h : KeepsOrigins rest (before ++ after)) (hb : ∀ g ∈ before, ¬ sameOrigin g y = true) :
    KeepsOrigins (y :: rest) (before ++ y :: after) := by
  obtain ⟨hp, hf⟩ := h
  refine ⟨(hp.cons y).trans List.perm_middle.symm, fun c => ?_⟩
  rw [List.filter_append, List.filter_cons, List.filter_cons, hf c, List.filter_append]
  split
  · next hyc =>
    have earlier : before.filter (fun g => sameOrigin g c) = [] :=
      List.filter_eq_nil_iff.mpr fun g hg hgc => hb g hg (sameOrigin_trans hgc (sameOrigin_symm hyc))
    rw [earlier, List.nil_append, List.nil_append]
  · rfl

/-- Every held cause is taken once, in an order that keeps each origin's (R184, R185). -/
theorem takeCauses_eq (order : List Nat) (hs : List HeldCause) (s : State) :
    ∃ hs', KeepsOrigins hs' hs ∧ takeCauses hs.length order hs s = hs'.foldl State.takeCause s := by
  generalize hn : hs.length = n
  induction n generalizing order hs s with
  | zero =>
    obtain rfl := List.eq_nil_of_length_eq_zero hn
    exact ⟨[], ⟨.refl _, fun _ => rfl⟩, rfl⟩
  | succ n ih =>
    obtain ⟨y, hy⟩ := pickCause_picks (order.head?.getD 0) (hs := hs) (by rintro rfl; cases hn)
    obtain ⟨before, after, rfl, hb⟩ := pickCause_first hy
    have hmem : y ∉ before := by
      intro hm
      obtain ⟨hne, _⟩ := hb y hm
      exact hne rfl
    have herase : (before ++ y :: after).erase y = before ++ after := by
      rw [List.erase_append_right _ hmem, List.erase_cons_head]
    obtain ⟨rest, hrest, htake⟩ := ih order.tail (before ++ after) (s.takeCause y) (by simp at hn ⊢; omega)
    refine ⟨y :: rest, hrest.cons fun g hg => (hb g hg).2, ?_⟩
    rw [takeCauses, hy]
    dsimp only
    rw [herase, htake, List.foldl_cons]

/-! ## The due events and limit expiries whose moment has come (R183, R184) -/

/-- The due event of container n, if its moment has come. -/
def dueCause (now n : Nat) (k : Container) : List HeldCause := if k.nextDue ≤ now then [.due n] else []

/-- The limit expiry of inlet n, if its moment has come. -/
def limitCause (now n : Nat) (x : Inlet) : List HeldCause :=
  if x.limitTimer.any (fun t => decide (t ≤ now)) then [.limit n] else []

theorem dueCauses_eq (now n : Nat) (ks : List Container) : dueCauses now n ks = eachOf (dueCause now) n ks := by
  induction ks generalizing n with
  | nil => rfl
  | cons k ks ih => rw [dueCauses, ih, eachOf, dueCause]

theorem limitCauses_eq (now n : Nat) (xs : List Inlet) : limitCauses now n xs = eachOf (limitCause now) n xs := by
  induction xs generalizing n with
  | nil => rfl
  | cons x xs ih => rw [limitCauses, ih, eachOf, limitCause]

theorem mem_dueCauses (now : Nat) (ks : List Container) (h : HeldCause) :
    h ∈ dueCauses now 0 ks ↔ ∃ c k, h = .due c ∧ ks[c]? = some k ∧ k.nextDue ≤ now := by
  simp only [dueCauses_eq, mem_eachOf, Nat.zero_add, dueCause, List.mem_ite_nil_right, List.mem_singleton]
  exact exists₂_congr fun c k => by tauto

theorem mem_limitCauses (now : Nat) (xs : List Inlet) (h : HeldCause) : h ∈ limitCauses now 0 xs ↔
    ∃ i x t, h = .limit i ∧ xs[i]? = some x ∧ x.limitTimer = some t ∧ t ≤ now := by
  simp only [limitCauses_eq, mem_eachOf, Nat.zero_add, limitCause, List.mem_ite_nil_right, List.mem_singleton,
    Option.any_eq_true, decide_eq_true_eq]
  exact exists₂_congr fun i x => ⟨fun ⟨hx, ⟨t, ht, hn⟩, he⟩ => ⟨t, he, hx, ht, hn⟩,
    fun ⟨t, he, hx, ht, hn⟩ => ⟨hx, ⟨t, ht, hn⟩, he⟩⟩

theorem mem_comeCauses (s : State) (h : HeldCause) : h ∈ s.comeCauses ↔ h ∉ s.wake.held ∧
    ((∃ c k, h = .due c ∧ s.containers[c]? = some k ∧ k.nextDue ≤ s.now) ∨
      ∃ i x t, h = .limit i ∧ s.inlets[i]? = some x ∧ x.limitTimer = some t ∧ t ≤ s.now) := by
  rw [State.comeCauses, List.mem_filter, List.mem_append, mem_dueCauses, mem_limitCauses, and_comm]
  simp only [Bool.not_eq_true', List.contains_eq_mem, decide_eq_false_iff_not]

/-- The number of the container or the inlet of a timed cause. -/
def HeldCause.number : HeldCause → Nat
  | .due c => c
  | .limit i => i
  | .read .. | .lid .. | .seat .. | .carrier _ | .restart | .receive _ => 0

theorem Placed.nodup {α : Type} {place : α → Nat} {lo hi : Nat} {l : List α} (h : Placed place lo hi l) : l.Nodup :=
  h.pairwise.imp fun hlt he => by simp [he] at hlt

theorem dueCauses_nodup (now : Nat) (ks : List Container) : (dueCauses now 0 ks).Nodup := by
  rw [dueCauses_eq]
  refine (placed_records (place := HeldCause.number) (lo := 0) (w := 1) (m := ks.length) rfl (fun n k _ => ?_)
    le_rfl).nodup
  unfold dueCause
  split
  · exact placed_singleton (by simp [HeldCause.number]) (by simp [HeldCause.number])
  · exact placed_nil _ (by omega)

theorem limitCauses_nodup (now : Nat) (xs : List Inlet) : (limitCauses now 0 xs).Nodup := by
  rw [limitCauses_eq]
  refine (placed_records (place := HeldCause.number) (lo := 0) (w := 1) (m := xs.length) rfl (fun n x _ => ?_)
    le_rfl).nodup
  unfold limitCause
  split
  · exact placed_singleton (by simp [HeldCause.number]) (by simp [HeldCause.number])
  · exact placed_nil _ (by omega)

theorem comeCauses_nodup (s : State) : s.comeCauses.Nodup := by
  refine List.Nodup.filter _ (List.nodup_append.mpr ⟨dueCauses_nodup _ _, limitCauses_nodup _ _, ?_⟩)
  intro a ha b hb he
  obtain ⟨c, k, rfl, _⟩ := (mem_dueCauses _ _ _).mp ha
  obtain ⟨i, x, t, rfl, _⟩ := (mem_limitCauses _ _ _).mp hb
  cases he

/-! ## The end of the settling, and the causes that are commands of an AWAKE part -/

theorem exec_wakeSettlingEnd {s : State} {t : Nat} (hp : s.power = .running) (hw : s.wake.state = .waking)
    (ht : s.wake.settleEnd = some t) (l : FieldLines) (order : List Nat) :
    exec (.wakeSettlingEnd l order) s = .next (((s.advanceTo t).moveLines l).awaken order).judgeIdle := by
  have h : exec (.wakeSettlingEnd l order) s = execWakeSettlingEnd l order s := rfl
  rw [h, execWakeSettlingEnd, whenRunning_running hp]
  simp only [hw, ht]

theorem advanceTo_past {s : State} {t : Nat} (h : t ≤ s.now) : s.advanceTo t = s := by
  rw [State.advanceTo, max_eq_left h]

theorem exec_carrierChange {s : State} (h : s.attends = true) (b : Bool) :
    exec (.carrierChange b) s = .next (s.takeCarrier b).judgeIdle := by
  obtain ⟨hp, hw⟩ := attends_running h
  have he : exec (.carrierChange b) s = execCarrierChange b s := rfl
  rw [he, execCarrierChange, whenRunning_running hp, if_pos hw]

theorem exec_resetLine_restarts {s : State} (h : s.attends = true) (l : FieldLines) :
    exec (.resetLineAssertion l) s = .next (s.moveLines l).warmRestart.judgeIdle := by
  obtain ⟨hp, hw⟩ := attends_running h
  have he : exec (.resetLineAssertion l) s = execResetLineAssertion l s := rfl
  rw [he, execResetLineAssertion, whenRunning_running hp, if_pos hw]

section
variable {s : State}

theorem takeHeldDue_come {c : Nat} {k : Container} (hk : s.containers[c]? = some k) (h : k.nextDue ≤ s.now) :
    s.takeHeldDue c = s.takeDueEvent c := by
  simp only [State.takeHeldDue, hk, if_pos h]

theorem takeHeldDue_dropped {c : Nat} {k : Container} (hk : s.containers[c]? = some k) (h : s.now < k.nextDue) :
    s.takeHeldDue c = s := by
  simp only [State.takeHeldDue, hk, if_neg (Nat.not_le.mpr h)]

theorem takeHeldLimit_come {i : Nat} {x : Inlet} {t : Nat} (hx : s.inlets[i]? = some x) (ht : x.limitTimer = some t)
    (h : t ≤ s.now) : s.takeHeldLimit i = s.takeLimit i := by
  simp [State.takeHeldLimit, hx, ht, h]

theorem takeHeldLimit_dropped {i : Nat} {x : Inlet} (hx : s.inlets[i]? = some x)
    (h : ∀ t, x.limitTimer = some t → s.now < t) : s.takeHeldLimit i = s := by
  have hn : ¬ x.limitTimer.any (fun t => decide (t ≤ s.now)) = true := by
    simp only [Option.any_eq_true, decide_eq_true_eq]
    rintro ⟨t, ht, hle⟩
    exact absurd (h t ht) (Nat.not_lt.mpr hle)
  simp only [State.takeHeldLimit, hx, if_neg hn]

/-- A lid event to the level that the lid stands at is none (R72). -/
theorem takeCause_lidSame {i : Nat} {x : Inlet} (t : Nat) (hx : s.inlets[i]? = some x) :
    s.takeCause (.lid i x.lidOpen t) = s := by
  cases hl : x.lidOpen with
  | true => exact takeLidOpening_open t hx hl
  | false => exact takeLidClosing_closed t hx hl

end

/-- Settles O52: the causes in their order, the commands that do the same, the lid events at their own times. -/
theorem wakeSettlingEnd : Obligations.WakeSettlingEnd := by
  refine ⟨fun s v l order t hp hw ht hv => ?_, fun s p => rfl, fun s h => ⟨exec_cardRead h, exec_carrierChange h,
    exec_resetLine_restarts h, fun c k hk => ⟨fun hd => ?_, takeHeldDue_dropped hk⟩,
    fun i x hx => ⟨fun t ht hd => ?_, takeHeldLimit_dropped hx⟩, fun c b t => rfl, fun i t x hx =>
    ⟨takeCause_lidSame t hx, takeLidOpening_lifted t hx, fun hl hc => ?_, takeLidClosing_lifted t hx,
      fun l k hl hc hlid hk => ?_⟩⟩⟩
  · obtain ⟨hs, ⟨hperm, hfilter⟩, htake⟩ := takeCauses_eq order (v.wake.held ++ v.comeCauses) { v with
      ports := v.ports.map fun b => { b with receiver := .hunting, gap := none }
      wake := { state := .awake, idleTimer := none, wakeTimer := none, settleEnd := none, held := [] } }
    refine ⟨v.comeCauses, hs, comeCauses_nodup v, mem_comeCauses v, hperm, hfilter, ?_⟩
    have hv' : (s.advanceTo t).moveLines l = v := hv.symm
    rw [exec_wakeSettlingEnd hp hw ht, hv', State.awaken, htake]
    rfl
  · rw [exec_dueEvent h hk, advanceTo_past hd, ← takeHeldDue_come hk hd]
    rfl
  · obtain ⟨hp, hw⟩ := attends_running h
    rw [exec_lidOpenLimitExpiry hp hx hw ht, advanceTo_past hd, ← takeHeldLimit_come hx ht hd]
    rfl
  · exact ⟨takeLidOpening_forced t hx hl hc, takeLidOpening_window t hx hl hc, takeLidOpening_service t hx hl hc⟩
  · exact ⟨fun hcause w n hw hn => takeLidClosing_window t hx hl hc hlid hk hcause hw hn,
      takeLidClosing_forced t hx hl hc hlid hk, takeLidClosing_serviceOpen t hx hl hc hlid,
      takeLidClosing_serviceOver t hx hl hc hlid, takeLidClosing_uncounted t hx hl hc hlid⟩

end Sys2Proof.Machine
end

section
/-! PROOFS. The card table: an entry's lookup, the entry that joins or replaces, and the entry that a request's bytes carry (R93,
R94, R96, R103). -/

namespace Sys2Proof.Machine

/-! ## Fields -/

theorem unbe_lt (bs : List Byte) : unbe bs < 256 ^ bs.length := by
  induction bs with
  | nil => exact Nat.one_pos
  | cons b bs ih =>
    have hb : b.toNat + 1 ≤ 256 := b.isLt
    calc unbe (b :: bs) = b.toNat * 256 ^ bs.length + unbe bs := unbe_cons b bs
      _ < b.toNat * 256 ^ bs.length + 256 ^ bs.length := Nat.add_lt_add_left ih _
      _ = (b.toNat + 1) * 256 ^ bs.length := (Nat.succ_mul _ _).symm
      _ ≤ 256 * 256 ^ bs.length := Nat.mul_le_mul_right _ hb
      _ = 256 ^ (b :: bs).length := Nat.pow_succ'.symm

/-- A field holds no more than its bytes can spell. -/
theorem field_lt (ps : List Byte) (off size : Nat) : field ps off size < 256 ^ size :=
  (unbe_lt _).trans_le (Nat.pow_le_pow_right (by decide) (List.length_take_le _ _))

/-! ## Lookup (R103) -/

theorem findCard_eq_none_iff (n : Nat) (cs : List Card) : findCard n cs = none ↔ ∀ e ∈ cs, e.number ≠ n := by
  simp [findCard, List.find?_eq_none]

theorem findCard_number {n : Nat} {cs : List Card} {e : Card} (h : findCard n cs = some e) : e.number = n := by
  simpa using List.find?_some h

/-- The table is full for a number only without an entry of that number (R93). -/
theorem fullFor_iff (t : CardTable) (n : Nat) :
    t.fullFor n = true ↔ findCard n t.entries = none ∧ 3000 ≤ t.entries.length := by
  rw [CardTable.fullFor, Bool.and_eq_true, Option.isNone_iff_eq_none, decide_eq_true_iff]
  rfl

/-! ## The entry that joins or replaces (R93, R96) -/

section
variable {new : Card} {cs : List Card}

/-- What the new entry and each replacement by it have, every entry has after it has joined. -/
theorem putEntry_forall {P : Card → Prop} (hnew : P new)
    (hrep : ∀ k ∈ cs, P { new with used := k.used, overflow := k.overflow }) (hcs : ∀ k ∈ cs, P k) :
    ∀ e ∈ putEntry new cs, P e := by
  induction cs with
  | nil => simpa [putEntry] using hnew
  | cons k ks ih =>
    rw [List.forall_mem_cons] at hrep hcs
    unfold putEntry
    split_ifs
    · exact List.forall_mem_cons.mpr ⟨hnew, List.forall_mem_cons.mpr hcs⟩
    · exact List.forall_mem_cons.mpr ⟨hrep.1, hcs.2⟩
    · exact List.forall_mem_cons.mpr ⟨hcs.1, ih hrep.2 hcs.2⟩

theorem putEntry_ascending (h : cs.Pairwise fun a b => a.number < b.number) :
    (putEntry new cs).Pairwise fun a b => a.number < b.number := by
  induction cs with
  | nil => exact List.pairwise_singleton _ _
  | cons k ks ih =>
    obtain ⟨hk, hks⟩ := List.pairwise_cons.mp h
    unfold putEntry
    split_ifs with hlt heq
    · refine List.pairwise_cons.mpr ⟨List.forall_mem_cons.mpr ⟨hlt, fun b hb => ?_⟩, h⟩
      exact hlt.trans (hk b hb)
    · exact List.pairwise_cons.mpr ⟨fun b hb => heq ▸ hk b hb, hks⟩
    · have hgt : k.number < new.number := by omega
      exact List.pairwise_cons.mpr ⟨putEntry_forall hgt (fun _ _ => hgt) hk, ih hks⟩

theorem findCard_of_lt {n : Nat} (h : ∀ k ∈ cs, n < k.number) : findCard n cs = none :=
  (findCard_eq_none_iff n cs).mpr fun k hk => (h k hk).ne'

theorem findCard_cons (n : Nat) (k : Card) (ks : List Card) :
    findCard n (k :: ks) = if k.number = n then some k else findCard n ks := by
  by_cases h : k.number = n <;> simp [findCard, h]

/-- In a table in ascending order, the new entry stands for its number, with the counts of the entry it replaces, and every
other number finds what it found before. -/
theorem findCard_putEntry (hu : new.used = 0) (ho : new.overflow = 0)
    (h : cs.Pairwise fun a b => a.number < b.number) (n : Nat) :
    findCard n (putEntry new cs) = if n = new.number then
        some { new with
          used := ((findCard new.number cs).map Card.used).getD 0
          overflow := ((findCard new.number cs).map Card.overflow).getD 0 }
      else findCard n cs := by
  have fresh : ({ new with used := 0, overflow := 0 } : Card) = new := by cases new; simp_all
  induction cs with
  | nil => simp only [putEntry, findCard_cons, findCard_of_lt, List.not_mem_nil, Option.map_none, Option.getD_none, fresh,
      false_implies, implies_true, eq_comm]
  | cons k ks ih =>
    obtain ⟨hk, hks⟩ := List.pairwise_cons.mp h
    rcases lt_trichotomy new.number k.number with hlt | heq | hgt
    · have absent : findCard new.number (k :: ks) = none :=
        findCard_of_lt (List.forall_mem_cons.mpr ⟨hlt, fun b hb => hlt.trans (hk b hb)⟩)
      rw [putEntry, if_pos hlt, absent, findCard_cons, Option.map_none, Option.map_none, Option.getD_none, fresh]
      simp only [eq_comm]
    · rw [putEntry, if_neg (by omega), if_pos heq, findCard_cons, findCard_cons _ k, findCard_cons _ k, if_pos heq.symm]
      by_cases hn : n = new.number
      · simp [hn]
      · rw [if_neg (Ne.symm hn), if_neg hn, if_neg (heq ▸ Ne.symm hn)]
    · rw [putEntry, if_neg (by omega), if_neg (by omega), findCard_cons, findCard_cons _ k, findCard_cons _ k, ih hks,
        if_neg hgt.ne]
      by_cases hn : n = new.number
      · rw [if_neg (by omega), if_pos hn, if_pos hn]
      · rw [if_neg hn, if_neg hn]

theorem putEntry_length_le (new : Card) (cs : List Card) : (putEntry new cs).length ≤ cs.length + 1 := by
  induction cs with
  | nil => simp [putEntry]
  | cons k ks ih =>
    unfold putEntry
    split_ifs <;> simp [ih]

/-- A number that the table holds takes no new place (R96). -/
theorem putEntry_length_listed (h : cs.Pairwise fun a b => a.number < b.number) (hl : findCard new.number cs ≠ none) :
    (putEntry new cs).length = cs.length := by
  induction cs with
  | nil => exact absurd rfl hl
  | cons k ks ih =>
    obtain ⟨hk, hks⟩ := List.pairwise_cons.mp h
    unfold putEntry
    split_ifs with hlt heq
    · refine absurd (findCard_of_lt (List.forall_mem_cons.mpr ⟨hlt, fun b hb => ?_⟩)) hl
      exact hlt.trans (hk b hb)
    · rfl
    · rw [findCard_cons, if_neg (Ne.symm heq)] at hl
      rw [List.length_cons, List.length_cons, ih hks hl]

end

end Sys2Proof.Machine
end

section
/-! PROOFS. The card entry that a request's bytes carry (R94, R169): what its fields must be, and that an entry's own bytes give it
back: O25. -/

namespace Sys2Proof.Machine

/-! ## The fields' own rules -/

theorem cardKindOf_eq (n : Nat) : cardKindOf n = [CardKind.resident, .temporary, .service][n]? := by
  rcases n with _ | _ | _ | n <;> rfl

theorem cardKindOf_some {n : Nat} {kind : CardKind} (h : cardKindOf n = some kind) :
    n ≤ 2 ∧ (n = 1 ↔ kind = .temporary) := by
  rcases n with _ | _ | _ | n <;> cases h <;> decide

theorem cardKindOf_temporary_iff (n : Nat) : cardKindOf n = some .temporary ↔ n = 1 :=
  ⟨fun h => (cardKindOf_some h).2.mpr rfl, fun h => h ▸ rfl⟩

theorem cardStatusOf_some {n : Nat} {b : Bool} (h : cardStatusOf n = some b) : n ≤ 1 := by
  rcases n with _ | _ | n <;> cases h <;> decide

theorem expiryFits_iff (kind : CardKind) (e : Option Nat) :
    expiryFits kind e = true ↔ (kind = .temporary ↔ e.isSome = true) := by
  cases kind <;> simp [expiryFits]

theorem carriedExpiry_isSome (bs : List Byte) : (carriedExpiry bs).isSome = true ↔ field bs 14 4 ≠ 0 := by
  simp only [carriedExpiry]
  split_ifs with h <;> simp [h]

/-! ## The carried entry -/

/-- The bytes carry an entry exactly where every field keeps R94; its counts start at 0. -/
theorem carriedCard_eq_some_iff (bs : List Byte) (new : Card) :
    carriedCard bs = some new ↔ ∃ kind blocked,
      cardKindOf (field bs 7 1) = some kind ∧ cardStatusOf (field bs 8 1) = some blocked ∧ field bs 0 5 ≠ 0 ∧
      field bs 5 2 ≠ 0 ∧ expiryFits kind (carriedExpiry bs) = true ∧
      new = ⟨field bs 0 5, field bs 5 2, kind, blocked, BitVec.ofNat 8 (field bs 9 1), field bs 10 1, 0, 0,
        carriedExpiry bs⟩ := by
  constructor
  · intro h
    unfold carriedCard at h
    split at h
    · next kind blocked hk hb =>
      split_ifs at h with hbad
      obtain ⟨h0, h5, he⟩ : field bs 0 5 ≠ 0 ∧ field bs 5 2 ≠ 0 ∧ expiryFits kind (carriedExpiry bs) = true := by
        simpa using hbad
      exact ⟨kind, blocked, hk, hb, h0, h5, he, (Option.some.inj h).symm⟩
    · cases h
  · rintro ⟨kind, blocked, hk, hb, h0, h5, he, rfl⟩
    rw [carriedCard, hk, hb]
    exact if_neg (by simp [h0, h5, he])

section
variable {bs : List Byte} {new : Card} (h : carriedCard bs = some new)
include h

theorem carriedCard_number : new.number = field bs 0 5 := by
  obtain ⟨_, _, _, _, _, _, _, rfl⟩ := (carriedCard_eq_some_iff bs new).mp h
  rfl

theorem carriedCard_used : new.used = 0 := by
  obtain ⟨_, _, _, _, _, _, _, rfl⟩ := (carriedCard_eq_some_iff bs new).mp h
  rfl

theorem carriedCard_overflow : new.overflow = 0 := by
  obtain ⟨_, _, _, _, _, _, _, rfl⟩ := (carriedCard_eq_some_iff bs new).mp h
  rfl

/-- A carried entry is sound: its fields are what their bytes hold, and R94 has been checked. -/
theorem carriedCard_sound : new.Sound := by
  obtain ⟨kind, blocked, _, _, h0, h5, he, rfl⟩ := (carriedCard_eq_some_iff bs new).mp h
  exact {
    number := ⟨Nat.pos_of_ne_zero h0, field_lt bs 0 5⟩
    household := ⟨Nat.pos_of_ne_zero h5, field_lt bs 5 2⟩
    quota := Nat.le_of_lt_succ (field_lt bs 10 1)
    used := Nat.zero_le _
    overflow := Nat.zero_le _
    expiry := he }

end

/-- Each way in which the fields break R94. -/
theorem carriedCard_none {bs : List Byte}
    (h : field bs 0 5 = 0 ∨ field bs 5 2 = 0 ∨ 2 < field bs 7 1 ∨ 1 < field bs 8 1 ∨
      (field bs 7 1 = 1 ∧ field bs 14 4 = 0) ∨ (field bs 7 1 ≠ 1 ∧ field bs 14 4 ≠ 0)) : carriedCard bs = none := by
  refine Option.eq_none_iff_forall_ne_some.mpr fun new hnew => ?_
  obtain ⟨kind, blocked, hk, hb, h0, h5, he, -⟩ := (carriedCard_eq_some_iff bs new).mp hnew
  obtain ⟨hk2, hk1⟩ := cardKindOf_some hk
  have hb1 := cardStatusOf_some hb
  rw [expiryFits_iff, carriedExpiry_isSome, ← hk1] at he
  omega

/-- Settles O25: each field reads back from its own bytes, and a sound entry's fields fit them. -/
theorem cardEntryRoundTrip : Obligations.CardEntryRoundTrip := by
  intro k hk he
  obtain ⟨f0, f5, f7, f8, f9, f10, -, -, f14⟩ := cardBytes_fields k
  replace f0 := f0.trans (Nat.mod_eq_of_lt hk.number.2)
  replace f5 := f5.trans (Nat.mod_eq_of_lt hk.household.2)
  replace f10 := f10.trans (Nat.mod_eq_of_lt (Nat.lt_succ_of_le hk.quota))
  have hexp : carriedExpiry (cardBytes k) = k.expiry := by
    rw [carriedExpiry, f14]
    cases hx : k.expiry with
    | none => rfl
    | some e =>
      obtain ⟨hpos, hlt⟩ := he e hx
      rw [Option.getD_some, show e % 4294967296 = e from Nat.mod_eq_of_lt hlt]
      exact if_neg hpos.ne'
  refine (carriedCard_eq_some_iff _ _).mpr ⟨k.kind, k.blocked, (cardKindOf_eq _).trans f7, ?_, f0 ▸ hk.number.1.ne',
    f5 ▸ hk.household.1.ne', hexp ▸ hk.expiry, ?_⟩
  · rw [f8]
    cases k.blocked <;> rfl
  · rw [f0, f5, f9, f10, hexp, BitVec.ofNat_toNat, BitVec.setWidth_eq]

end Sys2Proof.Machine
end

section
/-! PROOFS. The card table stays in ascending order, within its places, its fields within their values (R93, R94): each operation
that touches it keeps it so, and with them every step: O54. -/

namespace Sys2Proof.Machine

/-! ## Changes of a table -/

section
variable {t u : CardTable}

/-- Entries leave, and none is changed. -/
theorem CardTable.Sound.sublist (h : t.Sound) (hu : u.entries.Sublist t.entries) : u.Sound where
  ascending := h.ascending.sublist hu
  places := hu.length_le.trans h.places
  entries k hk := h.entries k (hu.subset hk)

/-- Entries are changed, and their numbers stand. -/
theorem CardTable.Sound.map {f : Card → Card} (h : t.Sound) (hu : u.entries = t.entries.map f)
    (hn : ∀ k, (f k).number = k.number) (hf : ∀ k, k.Sound → (f k).Sound) : u.Sound where
  ascending := by
    rw [hu, List.pairwise_map]
    simpa only [hn] using h.ascending
  places := by
    rw [hu, List.length_map]
    exact h.places
  entries := by
    rw [hu, List.forall_mem_map]
    exact fun k hk => hf k (h.entries k hk)

/-- A roll drops the expired and sets the used counts to 0 (R115). -/
theorem CardTable.Sound.roll (h : t.Sound) (clock index : Nat) : (t.roll clock index).Sound := by
  have left : ({ t with entries := t.entries.filter fun k => !k.expiredAt clock } : CardTable).Sound :=
    h.sublist List.filter_sublist
  exact left.map (f := fun k => { k with used := 0 }) rfl (fun _ => rfl) fun k hk => { hk with used := Nat.zero_le _ }

theorem CardTable.Sound.rebase (h : t.Sound) (clock : Nat) (old : Option Nat) (new : Nat) :
    (t.rebase clock old new).Sound := by
  unfold CardTable.rebase
  dsimp only
  split_ifs
  · exact h.roll clock _
  · exact h
  · exact h.sublist (List.Sublist.refl _)

theorem CardTable.Sound.remove (h : t.Sound) (n : Nat) : (t.remove n).Sound := h.sublist List.filter_sublist

/-- The entry of one number is changed, and its number stands. -/
theorem CardTable.Sound.mapEntry {f : Card → Card} {n : Nat} (h : t.Sound)
    (hu : u.entries = t.entries.map fun k => if k.number = n then f k else k)
    (hn : ∀ k, (f k).number = k.number) (hf : ∀ k, k.Sound → (f k).Sound) : u.Sound := by
  refine h.map hu (fun k => ?_) fun k hk => ?_
  · split_ifs
    · exact hn k
    · rfl
  · split_ifs
    · exact hf k hk
    · exact hk

theorem CardTable.Sound.block (h : t.Sound) (n : Nat) : (t.block n).Sound :=
  h.mapEntry (f := fun k => { k with blocked := true }) rfl (fun _ => rfl) fun _ hk => { hk with }

/-- A deposit's charge saturates at 255 (R84). -/
theorem CardTable.Sound.charge {n : Nat} (h : t.Sound) (hu : u.entries = chargeUse n t.entries) : u.Sound :=
  h.mapEntry hu (fun _ => rfl) fun _ hk => { hk with used := Nat.min_le_right _ _ }

/-- A deposit that the journal turns away is counted for its card, up to 65,535 (R123). -/
theorem CardTable.Sound.turnedAway {n : Nat} (h : t.Sound) (hu : u.entries = chargeOverflow n t.entries) : u.Sound :=
  h.mapEntry hu (fun _ => rfl) fun _ hk => { hk with overflow := Nat.min_le_right _ _ }

/-- A sound entry joins where the table has a place for it, or replaces the entry of its number (R93, R96). -/
theorem CardTable.Sound.put {new : Card} (h : t.Sound) (hnew : new.Sound) (hf : ¬ t.fullFor new.number = true) :
    (t.put new).Sound where
  ascending := putEntry_ascending h.ascending
  places := by
    by_cases hl : findCard new.number t.entries = none
    · have hlt : t.entries.length < 3000 := by
        rw [fullFor_iff] at hf
        exact Nat.not_le.mp fun hle => hf ⟨hl, hle⟩
      exact (putEntry_length_le new t.entries).trans hlt
    · exact (putEntry_length_listed h.ascending hl).trans_le h.places
  entries := putEntry_forall hnew
    (fun k hk => { hnew with used := (h.entries k hk).used, overflow := (h.entries k hk).overflow }) h.entries

end

/-! ## The commands that touch the table -/

section
variable {s : State}

theorem judgePeriod_cardsSound (h : s.cards.Sound) : s.judgePeriod.cards.Sound := by
  unfold State.judgePeriod
  repeat' split
  · exact h
  · exact h.roll _ _
  · exact h

theorem journalDeposit_cardsSound (i n : Nat) (w : Option Nat) (b : Bool) (h : s.cards.Sound) :
    (s.journalDeposit i n w b).cards.Sound := by
  unfold State.journalDeposit
  split
  · simpa using h
  · simpa using h.turnedAway (n := n) rfl

/-- A lid's closing charges a card, or counts a deposit that the journal turns away (R84, R123). -/
theorem takeLidClosing_cardsSound (i t : Nat) (h : s.cards.Sound) : (s.takeLidClosing i t).cards.Sound := by
  have counted : ∀ (v : State) (x : Inlet), v.cards.Sound → (v.countClosing i x t).cards.Sound := by
    intro v x hv
    unfold State.countClosing State.countDeposit
    repeat' split
    · exact hv
    · next w _ =>
      have charged : (v.chargeCard (w.card.getD 0)).cards.Sound := hv.charge rfl
      exact journalDeposit_cardsSound i _ _ _ (by simpa using charged)
    all_goals simpa using hv
  unfold State.takeLidClosing
  split
  · exact h
  · next x _ =>
    dsimp only
    split_ifs
    · simpa using h
    · simpa using counted (s.updInlet i _) x h
    · exact h

theorem bodyPutCard_cardsSound (p : Port) (ps : List Byte) (h : s.cards.Sound) : (bodyPutCard p ps s).1.cards.Sound := by
  have put : (putNetwork ps s).1.cards.Sound := by
    unfold putNetwork
    split
    · exact h
    · next new hnew =>
      split_ifs with hf
      · exact h
      · exact h.put (carriedCard_sound hnew) hf
  unfold bodyPutCard
  repeat' split
  · exact h
  · exact put
  · exact put

/-- The entry that an answer carries has been checked before it joins (R111). -/
theorem addCarried_cardsSound {a : AnswerParts} (h : s.cards.Sound) (ha : answerRefusal a s = none) :
    (addCarried a s).cards.Sound := by
  unfold addCarried
  split
  · next new hnew =>
    obtain ⟨bs, hbs, hc⟩ := Option.bind_eq_some_iff.mp hnew
    refine h.put (carriedCard_sound hc) ?_
    simp only [answerRefusal, hbs] at ha
    split_ifs at ha with _ hn _ hf
    rwa [carriedCard_number hc, not_not.mp hn]
  · exact h

theorem bodyAnswerCard_cardsSound (p : Port) (ps : List Byte) (h : s.cards.Sound) :
    (bodyAnswerCard p ps s).1.cards.Sound := by
  unfold bodyAnswerCard
  dsimp only
  split
  · exact h
  · next ha =>
    have added := addCarried_cardsSound h ha
    unfold applyVerdict
    repeat' split
    all_goals simpa using added

/-- Of the requests, Set Clock judges the period, and six change the table (R93 to R101, R111, R114). -/
theorem body_cardsSound (p : Port) (ps : List Byte) : ∀ r ∈ requestIndex, ∀ s : State, s.cards.Sound →
    (r.body p ps s).1.cards.Sound := by
  simp only [requestIndex, List.forall_mem_cons, List.not_mem_nil, false_implies, implies_true, and_true]
  refine ⟨?_, ?_, ?_, ?_, fun _ h => judgePeriod_cardsSound h, ?_, ?_, ?_, ?_, ?_, ?_, ?_, ?_, ?_, ?_, ?_,
    fun _ => bodyPutCard_cardsSound p ps, fun s h => ?remove, fun s h => ?block,
    fun _ h => h.sublist (List.nil_sublist _), fun _ h => h.sublist (List.Sublist.refl _), ?_, ?_, ?_,
    fun _ => bodyAnswerCard_cardsSound p ps, ?_, ?_, ?_, ?_, ?_, ?_, ?_, ?_⟩
  case remove =>
    simp only [reqRemoveCard_body, bodyRemoveCard]
    split_ifs
    · exact h
    · exact h.remove _
  case block =>
    simp only [reqBlockCard_body, bodyBlockCard]
    split_ifs
    · exact h
    · exact h.block _
  all_goals exact fun s h => by simpa using h

end

theorem cardsSound_kept : BooksKept fun s => s.cards.Sound where
  congr h e := e.cards ▸ h
  unpowered _ _ := reset_cardsSound
  powerOnEnd l b _ := by
    unfold State.powerOnEnd
    dsimp only
    split
    · exact reset_cardsSound
    · simpa using reset_cardsSound
  body := body_cardsSound
  lidClosing := takeLidClosing_cardsSound
  seat c b h := by simpa using h
  completion conv echo h := by simpa using h
  warmRestart h := by simpa using h
  configRestart _ h := by simpa [State.configRestart] using h.rebase _ _ _
  completeWrite h := by simpa using h
  releaseWriter h := h
  checkEnded h := h
  clockCount h := judgePeriod_cardsSound h

/-- Settles O54: each operation that touches the card table keeps it sound. -/
theorem stepKeepsCardsSound : Obligations.StepKeepsCardsSound := fun _ _ h ht => cardsSound_kept.step h ht

end Sys2Proof.Machine
end

section
/-! PROOFS. The reset state (R95, R126, R151, R160, R170, R175, R176, R181): O7. Set Clock and the clock's count, with the quota
period judged at both (R114, R115, R170, R171): O26. -/

namespace Sys2Proof.Machine

/-- Settles O7: each part as the reset state writes it out, and the three ports one by one. -/
theorem resetState : Obligations.ResetState := by
  refine ⟨rfl, rfl, rfl, rfl, rfl, rfl, rfl, rfl, rfl, rfl, rfl, rfl, rfl, rfl, rfl, rfl, rfl, fun p => ?_⟩
  cases p <;> rfl

/-! ## The quota period (R114, R115) -/

theorem judgePeriod_eq (s : State) : s.judgePeriod = { s with cards := s.judgePeriod.cards } := by
  unfold State.judgePeriod
  repeat' split
  all_goals rfl

/-- The judgement rolls the table where the computed index has passed the stored one, and else leaves it. -/
theorem judgePeriod_judgedAt (s : State) :
    s.cards.JudgedAt s.judgePeriod.cards (s.store.running.map StationConfig.periodDays) s.clock.count := by
  rcases hg : s.store.running with _ | g
  · have stays : s.judgePeriod = s := by simp only [State.judgePeriod, hg]
    rw [stays]
    exact ⟨fun _ => rfl, nofun, nofun⟩
  · refine ⟨nofun, fun d hd hle => ?_, fun d hd hlt => ?_⟩ <;> obtain rfl := Option.some.inj hd
    · have hn : ¬ s.cards.period < computedPeriod s.clock.count g.periodDays := Nat.not_lt.mpr hle
      simp only [State.judgePeriod, hg, if_neg hn]
    · have hp : s.cards.period < computedPeriod s.clock.count g.periodDays := hlt
      simp only [State.judgePeriod, hg, if_pos hp]
      exact roll_rolledTo _ _ _

/-! ## The clock (R170, R171) -/

theorem toNat_append_byte {w : Nat} (a : BitVec w) (b : Byte) : (a ++ b).toNat = a.toNat * 256 + b.toNat := by
  rw [BitVec.toNat_append, ← Nat.shiftLeft_add_eq_or_of_lt b.isLt, Nat.shiftLeft_eq]

/-- Four bytes side by side are the number that they spell. -/
theorem field_four (b0 b1 b2 b3 : Byte) : field [b0, b1, b2, b3] 0 4 = (b0 ++ b1 ++ b2 ++ b3).toNat := by
  rw [toNat_append_byte, toNat_append_byte, toNat_append_byte]
  simp [field, unbe]

theorem bodySetClock_eq (p : Port) (b0 b1 b2 b3 : Byte) (s : State) :
    bodySetClock p [b0, b1, b2, b3] s =
      (State.judgePeriod { s with clock := ⟨(b0 ++ b1 ++ b2 ++ b3).toNat, true, s.now + 1000⟩ }, .reply .ok []) := by
  rw [bodySetClock, field_four]
  rfl

/-- Settles O26: both write the clock's record, and then the period is judged at its count. -/
theorem clockRequestsAndCounts : Obligations.ClockRequestsAndCounts := by
  refine ⟨fun s tag b0 b1 b2 b3 h => ?_, fun s hp => ?_⟩
  · have row : reqSetClock.row.refusal .network [b0, b1, b2, b3].length s.configured = none :=
      refusal_none rfl rfl (.inr rfl)
    refine ⟨_, judgePeriod_judgedAt { s.taken .network 0x05 tag with
      clock := ⟨(b0 ++ b1 ++ b2 ++ b3).toNat, true, s.now + 1000⟩ }, ?_⟩
    exact answered_replied (arrive_answered h reqSetClock tag _ row
      (bodySetClock_eq .network b0 b1 b2 b3 (s.taken .network 0x05 tag)) :) (judgePeriod_eq _)
  · refine ⟨_, judgePeriod_judgedAt { s.advanceTo s.clock.next with clock := s.clock.tick }, ?_⟩
    have he : exec .clockCount s = execClockCount s := rfl
    rw [he, execClockCount, whenRunning_running hp, judgePeriod_eq]
    rfl

end Sys2Proof.Machine
end

section
/-! PROOFS. Put Card, Remove Card, Block Card, Clear Card Table and Mark Table Loaded (R93, R94, R96 to R101): O44. -/

namespace Sys2Proof.Machine

/-! ## Put Card (R96, R97) -/

section
variable {s : State} {ps : List Byte}

theorem putNetwork_outOfRange (h : carriedCard ps = none) : putNetwork ps s = (s, .reply .outOfRange []) := by
  simp only [putNetwork, h, refuse]

theorem putNetwork_full {new : Card} (h : carriedCard ps = some new) (hf : s.cards.fullFor new.number = true) :
    putNetwork ps s = (s, .reply .tableFull []) := by
  simp only [putNetwork, h, if_pos hf, refuse]

theorem putNetwork_puts {new : Card} (h : carriedCard ps = some new) (hf : ¬ s.cards.fullFor new.number = true) :
    putNetwork ps s = ({ s with cards := s.cards.put new }, .reply .ok []) := by
  simp only [putNetwork, h, if_neg hf, done]

/-- The entry of the request's number is no temporary one (R97). -/
theorem lastingEntry_iff (n : Nat) (cs : List Card) :
    (findCard n cs).any (fun k => decide (k.kind ≠ .temporary)) = true ↔
      ∃ e, findCard n cs = some e ∧ e.kind ≠ .temporary := by
  simp [Option.any_eq_true]

theorem servicePutRefusal_notNow (h : s.clock.set = false) : servicePutRefusal ps s = some .notNow := by
  rw [servicePutRefusal, if_pos h]

theorem servicePutRefusal_notPermitted (hs : s.clock.set = true) (h : field ps 7 1 ≠ 1 ∨
    ∃ e, findCard (field ps 0 5) s.cards.entries = some e ∧ e.kind ≠ .temporary) :
    servicePutRefusal ps s = some .notPermitted := by
  rw [servicePutRefusal, if_neg (by simp [hs])]
  by_cases hk : field ps 7 1 = 1
  · have he := (lastingEntry_iff _ _).mpr (h.resolve_left (not_not_intro hk))
    rw [if_neg (not_not_intro ((cardKindOf_temporary_iff _).mpr hk)), if_pos he]
  · rw [if_pos (mt (cardKindOf_temporary_iff _).mp hk)]

/-- A service put of a temporary card that meets no lasting entry goes by its expiry: 259,200 s ahead at most. -/
theorem servicePutRefusal_temporary (hs : s.clock.set = true) (hk : field ps 7 1 = 1)
    (ht : ¬ ∃ e, findCard (field ps 0 5) s.cards.entries = some e ∧ e.kind ≠ .temporary) :
    servicePutRefusal ps s = if s.clock.count + 259200 < field ps 14 4 then some .outOfRange else none := by
  rw [servicePutRefusal, if_neg (by simp [hs]), if_neg (not_not_intro ((cardKindOf_temporary_iff _).mpr hk)),
    if_neg (mt (lastingEntry_iff _ _).mp ht)]

theorem bodyPutCard_refused {st : Status} (h : servicePutRefusal ps s = some st) :
    bodyPutCard .service ps s = (s, .reply st []) := by
  simp only [bodyPutCard, h, refuse, if_true]

/-- Where the service port's own cases let it through, Put Card goes as from the network port. -/
theorem bodyPutCard_passes {p : Port} (h : p = .service → servicePutRefusal ps s = none) :
    bodyPutCard p ps s = putNetwork ps s := by
  unfold bodyPutCard
  split_ifs with hp
  · simp only [h hp]
  · rfl

end

/-! ## The other requests (R98 to R101) -/

section
variable {s : State} {ps : List Byte} (p : Port)

theorem bodyRemoveCard_outOfRange (h : field ps 0 5 = 0) : bodyRemoveCard p ps s = (s, .reply .outOfRange []) := by
  simp only [bodyRemoveCard, if_pos h, refuse]

theorem bodyRemoveCard_removes (h : field ps 0 5 ≠ 0) :
    bodyRemoveCard p ps s = ({ s with cards := s.cards.remove (field ps 0 5) }, .reply .ok []) := by
  simp only [bodyRemoveCard, if_neg h, done]

theorem bodyBlockCard_outOfRange (h : field ps 0 5 = 0 ∨ ∀ e ∈ s.cards.entries, e.number ≠ field ps 0 5) :
    bodyBlockCard p ps s = (s, .reply .outOfRange []) := by
  rw [← findCard_eq_none_iff] at h
  simp only [bodyBlockCard, if_pos h, refuse]

theorem bodyBlockCard_blocks (h : field ps 0 5 ≠ 0) (he : ∃ e ∈ s.cards.entries, e.number = field ps 0 5) :
    bodyBlockCard p ps s = ({ s with cards := s.cards.block (field ps 0 5) }, .reply .ok []) := by
  have hn : ¬ (field ps 0 5 = 0 ∨ findCard (field ps 0 5) s.cards.entries = none) := by
    rw [findCard_eq_none_iff]
    push Not
    exact ⟨h, he⟩
  simp only [bodyBlockCard, if_neg hn, done]

end

/-! ## The requests at a listening port -/

/-- What bars a service put, once its clock is SET and its card a temporary one that meets no lasting entry, is its expiry. -/
theorem servicePutRefusal_none {s : State} {ps : List Byte} (h : ¬ (s.clock.set = false ∨ field ps 7 1 ≠ 1 ∨
    (∃ e, findCard (field ps 0 5) s.cards.entries = some e ∧ e.kind ≠ .temporary) ∨
    s.clock.count + 259200 < field ps 14 4)) : servicePutRefusal ps s = none := by
  simp only [not_or] at h
  obtain ⟨hs, hk, ht, he⟩ := h
  rw [servicePutRefusal_temporary (by simpa using hs) (not_not.mp hk) ht, if_neg he]

section
variable {s : State} {p : Port} {ps : List Byte} (tag : Byte) (h : s.listening p = true) (hc : s.configured = true)
include h hc

section
variable (hv : p ≠ .vehicle) (hl : ps.length = 18)
include hv hl

theorem exec_putCard_reported {st : Status}
    (hb : bodyPutCard p ps (s.taken p 0x30 tag) = (s.taken p 0x30 tag, .reply st [])) :
    exec (.putCard p tag ps) s = .next ((s.replied p 0x30 tag (statusCode st) []).judgeIdle) :=
  arrive_reported h reqPutCard tag ps (refusal_none (by rw [hl]; rfl) (portsNS_contains hv) (.inl hc)) hb

/-- The carried entry joins or replaces where the table has room for its number (R93, R96). -/
theorem exec_putCard_puts {new : Card} (hb : bodyPutCard p ps (s.taken p 0x30 tag) = putNetwork ps (s.taken p 0x30 tag))
    (hnew : carriedCard ps = some new) (hroom : ¬ s.cards.fullFor new.number = true) :
    exec (.putCard p tag ps) s = .next (({ s with cards := s.cards.put new }.replied p 0x30 tag 0x00 []).judgeIdle) :=
  answered_replied (arrive_answered h reqPutCard tag ps
    (refusal_none (by rw [hl]; rfl) (portsNS_contains hv) (.inl hc))
    (hb.trans (putNetwork_puts (s := s.taken p 0x30 tag) hnew hroom)) :) rfl

end

theorem exec_removeCard (hp : p = .network) (hl : ps.length = 5) :
    (field ps 0 5 = 0 → exec (.removeCard p tag ps) s = .next ((s.replied p 0x31 tag 0x12 []).judgeIdle)) ∧
    (field ps 0 5 ≠ 0 → exec (.removeCard p tag ps) s =
      .next (({ s with cards := s.cards.remove (field ps 0 5) }.replied p 0x31 tag 0x00 []).judgeIdle)) := by
  subst hp
  have row : reqRemoveCard.row.refusal .network ps.length s.configured = none :=
    refusal_none (by rw [hl]; rfl) rfl (.inl hc)
  refine ⟨fun h0 => ?_, fun h0 => ?_⟩
  · exact (arrive_reported h reqRemoveCard tag ps row (bodyRemoveCard_outOfRange .network h0) :)
  · exact answered_replied (arrive_answered h reqRemoveCard tag ps row (bodyRemoveCard_removes .network h0) :) rfl

theorem exec_blockCard (hv : p ≠ .vehicle) (hl : ps.length = 5) :
    (field ps 0 5 = 0 ∨ (∀ e ∈ s.cards.entries, e.number ≠ field ps 0 5) →
      exec (.blockCard p tag ps) s = .next ((s.replied p 0x32 tag 0x12 []).judgeIdle)) ∧
    (field ps 0 5 ≠ 0 → (∃ e ∈ s.cards.entries, e.number = field ps 0 5) → exec (.blockCard p tag ps) s =
      .next (({ s with cards := s.cards.block (field ps 0 5) }.replied p 0x32 tag 0x00 []).judgeIdle)) := by
  have row : reqBlockCard.row.refusal p ps.length s.configured = none :=
    refusal_none (by rw [hl]; rfl) (portsNS_contains hv) (.inl hc)
  refine ⟨fun h0 => ?_, fun h0 he => ?_⟩
  · exact (arrive_reported h reqBlockCard tag ps row (bodyBlockCard_outOfRange (s := s.taken p 0x32 tag) p h0) :)
  · exact answered_replied (arrive_answered h reqBlockCard tag ps row
      (bodyBlockCard_blocks (s := s.taken p 0x32 tag) p h0 he) :) rfl

theorem exec_clearCardTable (hp : p = .network) : exec (.clearCardTable p tag []) s =
    .next (({ s with cards := { s.cards with entries := [], loaded := false } }.replied p 0x33 tag 0x00 []).judgeIdle) := by
  subst hp
  exact answered_replied (arrive_answered h reqClearCardTable tag [] (refusal_none rfl rfl (.inl hc)) rfl :) rfl

theorem exec_markTableLoaded (hp : p = .network) : exec (.markTableLoaded p tag []) s =
    .next (({ s with cards := { s.cards with loaded := true } }.replied p 0x34 tag 0x00 []).judgeIdle) := by
  subst hp
  exact answered_replied (arrive_answered h reqMarkTableLoaded tag [] (refusal_none rfl rfl (.inl hc)) rfl :) rfl

end

/-- Settles O44: the service port's own cases, then the entry that joins or replaces; the other requests by the number they
name. -/
theorem cardTableRequests : Obligations.CardTableRequests := by
  refine ⟨fun s p tag ps h hc hv hl => ?_, fun s p tag ps h hc => ⟨exec_removeCard tag h hc, exec_blockCard tag h hc,
    fun hp => ⟨exec_clearCardTable tag h hc hp, exec_markTableLoaded tag h hc hp⟩⟩⟩
  intro old barred
  have reported := @exec_putCard_reported s p ps tag h hc hv hl
  refine ⟨?_, ?_, ?_, fun hb => ?_⟩
  · rintro rfl hs
    exact reported (bodyPutCard_refused (servicePutRefusal_notNow (s := s.taken _ 0x30 tag) hs))
  · rintro rfl hs hk
    exact reported (bodyPutCard_refused (servicePutRefusal_notPermitted (s := s.taken _ 0x30 tag) hs hk))
  · rintro rfl hs hk ht he
    refine reported (st := .outOfRange) (bodyPutCard_refused ?_)
    rw [servicePutRefusal_temporary (s := s.taken _ 0x30 tag) hs hk fun ⟨e, hold, hne⟩ => hne (ht e hold)]
    exact if_pos he
  · have passes : bodyPutCard p ps (s.taken p 0x30 tag) = putNetwork ps (s.taken p 0x30 tag) :=
      bodyPutCard_passes fun hp => servicePutRefusal_none fun hbar => hb ⟨hp, hbar⟩
    refine ⟨fun hf => reported (passes.trans (putNetwork_outOfRange (carriedCard_none hf))), fun new hnew => ?_⟩
    have full : s.cards.fullFor new.number = true ↔ old = none ∧ 3000 ≤ s.cards.entries.length := by
      rw [fullFor_iff, carriedCard_number hnew]
      rfl
    refine ⟨fun hold hfull => reported (passes.trans (putNetwork_full hnew (full.mpr ⟨hold, hfull⟩))), fun hroom hasc =>
      ⟨putEntry new s.cards.entries, putEntry_ascending hasc, fun n => ?_, exec_putCard_puts tag h hc hv hl passes hnew ?_⟩⟩
    · have hfind := findCard_putEntry (carriedCard_used hnew) (carriedCard_overflow hnew) hasc n
      rw [carriedCard_number hnew] at hfind ⊢
      exact hfind
    · rw [full]
      exact fun ⟨hnone, hfull⟩ => hroom.elim (fun ho => ho hnone) (Nat.not_lt.mpr hfull)

end Sys2Proof.Machine
end

section
/-! PROOFS. Answer Card (R111 to R113): O45. -/

namespace Sys2Proof.Machine

/-! ## The checks of the request (R111) -/

section
variable {s : State} {ps : List Byte}

/-- An answer matches the query at the inlet that it names (R111). -/
theorem matchesQuery_iff (i n : Nat) (xs : List Inlet) : (xs[i]?).any (fun x => x.matchesQuery n) = true ↔
    ∃ x q, xs[i]? = some x ∧ x.query = some q ∧ q.card = n := by
  simp [Option.any_eq_true, Inlet.matchesQuery]

theorem answerRefusal_range (h : s.inlets.length ≤ field ps 0 1 ∨ field ps 1 5 = 0 ∨ 1 < field ps 6 1) :
    answerRefusal (answerParts ps) s = some .outOfRange := if_pos h

theorem answerParts_plain (hl : ps.length = 7) : answerParts ps = ⟨field ps 0 1, field ps 1 5, field ps 6 1, none⟩ := by
  rw [answerParts, if_neg (by omega)]
  rfl

theorem answerParts_carrying (hl : ps.length = 25) :
    answerParts ps = ⟨field ps 0 1, field ps 1 5, field ps 6 1, some (ps.drop 7)⟩ := by
  rw [answerParts, if_pos hl]
  rfl

variable (hr : ¬ (s.inlets.length ≤ field ps 0 1 ∨ field ps 1 5 = 0 ∨ 1 < field ps 6 1))
include hr

theorem answerRefusal_plain (hl : ps.length = 7) : answerRefusal (answerParts ps) s =
    if field ps 6 1 = 1 ∧ (s.inlets[field ps 0 1]?).any (fun x => x.matchesQuery (field ps 1 5)) = true ∧
      findCard (field ps 1 5) s.cards.entries = none then some .outOfRange else none := by
  rw [answerParts_plain hl, answerRefusal, if_neg hr]

theorem answerRefusal_carrying (hl : ps.length = 25) : answerRefusal (answerParts ps) s =
    if field ps 7 5 ≠ field ps 1 5 then some .outOfRange
    else if carriedCard (ps.drop 7) = none then some .outOfRange
    else if s.cards.fullFor (field ps 1 5) then some .tableFull else none := by
  rw [answerParts_carrying hl, answerRefusal, if_neg hr, ← field_drop ps 7 0 5]

theorem answerRefusal_badEntry (hl : ps.length = 25) (h : field ps 7 5 ≠ field ps 1 5 ∨ carriedCard (ps.drop 7) = none) :
    answerRefusal (answerParts ps) s = some .outOfRange := by
  rw [answerRefusal_carrying hr hl]
  split_ifs with hn hc
  · rfl
  · rfl
  all_goals exact (h.elim hn hc).elim

theorem answerRefusal_goodEntry (hl : ps.length = 25) (hn : field ps 7 5 = field ps 1 5)
    (hc : carriedCard (ps.drop 7) ≠ none) : answerRefusal (answerParts ps) s =
      if s.cards.fullFor (field ps 1 5) then some .tableFull else none := by
  rw [answerRefusal_carrying hr hl, if_neg (not_not_intro hn), if_neg hc]

end

/-! ## The carried entry (R111) -/

/-- The entry part of an answer is in order: none is carried, or a good one of the answer's number for which the table t has a
place; u is the table once it has joined. -/
def EntryTaken (ps : List Byte) (t u : CardTable) : Prop :=
  ps.length = 7 ∧ u = t ∨ ∃ new, ps.length = 25 ∧ field ps 7 5 = field ps 1 5 ∧ carriedCard (ps.drop 7) = some new ∧
    ¬ t.fullFor (field ps 1 5) = true ∧ u = t.put new

theorem EntryTaken.addCarried {ps : List Byte} {s : State} {u : CardTable} (h : EntryTaken ps s.cards u) :
    addCarried (answerParts ps) s = { s with cards := u } := by
  rcases h with ⟨hl, rfl⟩ | ⟨new, hl, -, hc, -, rfl⟩
  · rw [answerParts_plain hl]
    rfl
  · rw [answerParts_carrying hl]
    simp only [Machine.addCarried, Option.bind_some, hc]

/-- An answer with its entry in order is refused only for an allowance of a card that would have no entry (R111). -/
theorem EntryTaken.passes {ps : List Byte} {s : State} {u : CardTable} (h : EntryTaken ps s.cards u)
    (hr : ¬ (s.inlets.length ≤ field ps 0 1 ∨ field ps 1 5 = 0 ∨ 1 < field ps 6 1))
    (hm : field ps 6 1 = 1 → (∃ x q, s.inlets[field ps 0 1]? = some x ∧ x.query = some q ∧ q.card = field ps 1 5) →
      findCard (field ps 1 5) u.entries ≠ none) : answerRefusal (answerParts ps) s = none := by
  rcases h with ⟨hl, rfl⟩ | ⟨new, hl, hn, hc, hf, -⟩
  · rw [answerRefusal_plain hr hl]
    exact if_neg fun ⟨hv, hq, he⟩ => hm hv ((matchesQuery_iff _ _ _).mp hq) he
  · rw [answerRefusal_goodEntry hr hl hn (by simp [hc]), if_neg hf]

/-! ## The verdict (R111 to R113) -/

section
variable {s : State} {i : Nat} {x : Inlet} (hx : s.inlets[i]? = some x)
include hx

/-- The waiting read is refused: the slot and the query end, and the reader gets the outcome. -/
theorem refuseRead_eq (o : ReadOutcome) : s.refuseRead i o = { s with
    inlets := s.inlets.set i { x with slot := none, query := none }, outcomes := s.outcomes ++ [(i, o)] } := by
  rw [State.refuseRead, updInlet_eq_set _ hx]
  rfl

theorem openWindow_eq (w : WindowRecord) : s.openWindow i w = { s with
    inlets := s.inlets.set i (openedInlet x w s.now), outcomes := s.outcomes ++ [(i, .accept)] } := by
  rw [State.openWindow, updInlet_eq_set _ hx]
  rfl

end

/-- The re-check of an ALLOW refuses for the first of checks 1 to 5 that fails, else for a full container (R112). -/
theorem recheck_refuses {x : Inlet} {k : Container} {e : Card} {o : ReadOutcome}
    (h : if x.stuck = true ∨ k.displaced = true then o = .fault
      else if k.state = .suspended then o = .suspended
      else if k.hot = true then o = .hot
      else if k.state ≠ .serving then o = .emptying
      else k.full = true ∧ e.kind ≠ .service ∧ o = .full) : recheck x k e = some o := by
  rw [recheck]
  split_ifs at h with hf hs hh hn
  · rw [firstChecks_fault hf, h]
  all_goals
    obtain ⟨hst, hd⟩ : x.stuck = false ∧ k.displaced = false := by simpa using hf
  · rw [firstChecks_suspended hst hd hs, h]
  · rw [firstChecks_hot hst hd hs hh, h]
  · rw [firstChecks_emptying hst hd hs (by simpa using hh) hn, h]
  · obtain ⟨hfull, hk, rfl⟩ := h
    rw [firstChecks_pass hst hd (not_not.mp hn) (by simpa using hh)]
    exact if_pos ⟨hfull, hk⟩

theorem recheck_passes {x : Inlet} {k : Container} {e : Card} (hst : x.stuck = false) (hd : k.displaced = false)
    (hs : k.state = .serving) (hh : k.hot = false) (hf : k.full = false ∨ e.kind = .service) : recheck x k e = none := by
  rw [recheck, firstChecks_pass hst hd hs hh]
  exact if_neg fun ⟨hfull, hk⟩ => hf.elim (by simp [hfull]) hk

/-- An ALLOW decides the read again, and its outcome goes into the reply (R112). -/
theorem applyVerdict_allow {s : State} {ps : List Byte} {e : Card} (x : Inlet) (hv : field ps 6 1 = 1)
    (he : findCard (field ps 1 5) s.cards.entries = some e) : applyVerdict (answerParts ps) x s =
      (s.allowRead (field ps 0 1) x e, .reply .ok (be 1 (outcomeCode (s.allowOutcome x e)))) := by
  have hv' : ¬ (answerParts ps).verdict = 0 := fun h0 => Nat.one_ne_zero (hv.symm.trans h0)
  have he' : findCard (answerParts ps).card s.cards.entries = some e := he
  rw [applyVerdict, if_neg hv', he']
  rfl

section
variable {s : State} {ps : List Byte} {x : Inlet} (hx : s.inlets[field ps 0 1]? = some x)
include hx

theorem applyVerdict_deny (hv : field ps 6 1 = 0) : applyVerdict (answerParts ps) x s = ({ s with
    inlets := s.inlets.set (field ps 0 1) { x with slot := none, query := none }
    outcomes := s.outcomes ++ [(field ps 0 1, .unknown)] }, .reply .ok [6]) := by
  rw [← refuseRead_eq hx]
  exact if_pos hv

variable {e : Card} {k : Container} (hv : field ps 6 1 = 1) (he : findCard (field ps 1 5) s.cards.entries = some e)
  (hk : s.containers[x.cfg.container]? = some k)
include hv he hk

theorem applyVerdict_allow_refused {o : ReadOutcome} (ho : recheck x k e = some o) (hne : o ≠ .accept) :
    applyVerdict (answerParts ps) x s = ({ s with
      inlets := s.inlets.set (field ps 0 1) { x with slot := none, query := none }
      outcomes := s.outcomes ++ [(field ps 0 1, o)] }, .reply .ok (be 1 (outcomeCode o))) := by
  have ha : s.allowOutcome x e = o := by simp only [State.allowOutcome, hk, ho, Option.getD_some]
  rw [applyVerdict_allow x hv he, State.allowRead, ha, if_neg hne, refuseRead_eq hx]

theorem applyVerdict_allow_opens (ho : recheck x k e = none) : applyVerdict (answerParts ps) x s = ({ s with
    inlets := s.inlets.set (field ps 0 1) (openedInlet x ⟨.card, some (field ps 1 5), some e.household, false⟩ s.now)
    outcomes := s.outcomes ++ [(field ps 0 1, .accept)] }, .reply .ok [0]) := by
  have ha : s.allowOutcome x e = .accept := by simp only [State.allowOutcome, hk, ho, Option.getD_none]
  rw [applyVerdict_allow x hv he, State.allowRead, ha, if_pos rfl, openWindow_eq hx, findCard_number he]
  rfl

end

/-! ## The request at a listening port -/

section
variable {s : State} {ps : List Byte} {u : CardTable} (p : Port) (ht : EntryTaken ps s.cards u)
  (ha : answerRefusal (answerParts ps) s = none)
include ht ha

theorem bodyAnswerCard_tooLate
    (hm : ¬ ∃ x q, s.inlets[field ps 0 1]? = some x ∧ x.query = some q ∧ q.card = field ps 1 5) :
    bodyAnswerCard p ps s = ({ s with cards := u }, .reply .tooLate []) := by
  rw [← matchesQuery_iff] at hm
  simp only [bodyAnswerCard, ha, ht.addCarried]
  split
  · rfl
  · next x hx =>
    have hx' : s.inlets[field ps 0 1]? = some x := hx
    rw [hx', Option.any_some] at hm
    exact if_neg hm

theorem bodyAnswerCard_verdict {x : Inlet} {q : CardQuery} (hx : s.inlets[field ps 0 1]? = some x)
    (hq : x.query = some q) (hn : q.card = field ps 1 5) :
    bodyAnswerCard p ps s = applyVerdict (answerParts ps) x { s with cards := u } := by
  have hm : x.matchesQuery (answerParts ps).card = true := by
    rw [Inlet.matchesQuery, hq, Option.any_some]
    exact decide_eq_true hn
  have hx' : ({ s with cards := u } : State).inlets[(answerParts ps).inlet]? = some x := hx
  simp only [bodyAnswerCard, ha, ht.addCarried, hx', if_pos hm]

end

theorem answerCard_allowed {s : State} {ps : List Byte} (hc : s.configured = true) (hl : ps.length = 7 ∨ ps.length = 25) :
    reqAnswerCard.row.refusal .network ps.length s.configured = none :=
  refusal_none (by rcases hl with hl | hl <;> rw [hl] <;> rfl) rfl (.inl hc)

section
variable {s : State} {ps : List Byte} (tag : Byte) (h : s.listening .network = true) (hc : s.configured = true)
  (hl : ps.length = 7 ∨ ps.length = 25)
include h hc hl

theorem exec_answerCard_refused {st : Status} (ha : answerRefusal (answerParts ps) s = some st) :
    exec (.answerCard .network tag ps) s = .next ((s.replied .network 0x38 tag (statusCode st) []).judgeIdle) := by
  have ha' : answerRefusal (answerParts ps) (s.taken .network 0x38 tag) = some st := ha
  have hb : bodyAnswerCard .network ps (s.taken .network 0x38 tag) = (s.taken .network 0x38 tag, .reply st []) := by
    simp only [bodyAnswerCard, ha', refuse]
  exact arrive_reported h reqAnswerCard tag ps (answerCard_allowed hc hl) hb

section
variable {u : CardTable} (ht : EntryTaken ps s.cards u) (ha : answerRefusal (answerParts ps) s = none)
include ht ha

theorem exec_answerCard_tooLate
    (hm : ¬ ∃ x q, s.inlets[field ps 0 1]? = some x ∧ x.query = some q ∧ q.card = field ps 1 5) :
    exec (.answerCard .network tag ps) s =
      .next (({ s with cards := u }.replied .network 0x38 tag 0x26 []).judgeIdle) :=
  answered_replied (arrive_answered h reqAnswerCard tag ps (answerCard_allowed hc hl)
    (bodyAnswerCard_tooLate (s := s.taken .network 0x38 tag) .network ht ha hm) :) rfl

/-- What the verdict on a matching query does to the inlets and the outcomes, and what the reply then carries. -/
theorem exec_answerCard_verdict {x : Inlet} {q : CardQuery} (hx : s.inlets[field ps 0 1]? = some x)
    (hq : x.query = some q) (hn : q.card = field ps 1 5) {xs : List Inlet} {os : List (Nat × ReadOutcome)}
    {payload : List Byte} (hv : applyVerdict (answerParts ps) x { s.taken .network 0x38 tag with cards := u } =
      ({ s.taken .network 0x38 tag with cards := u, inlets := xs, outcomes := os }, .reply .ok payload)) :
    exec (.answerCard .network tag ps) s =
      .next (({ s with cards := u, inlets := xs, outcomes := os }.replied .network 0x38 tag 0x00 payload).judgeIdle) :=
  answered_replied (arrive_answered h reqAnswerCard tag ps (answerCard_allowed hc hl)
    ((bodyAnswerCard_verdict (s := s.taken .network 0x38 tag) .network ht ha hx hq hn).trans hv) :) rfl

end
end

/-- The codes of the outcomes that an ALLOW may end with (R169). -/
theorem refusedCode {o : ReadOutcome} {code : Byte}
    (h : (o, code) ∈ ([(.fault, 2), (.suspended, 3), (.hot, 4), (.emptying, 5), (.full, 10)] : List (ReadOutcome × Byte))) :
    o ≠ .accept ∧ be 1 (outcomeCode o) = [code] := by
  simp only [List.mem_cons, Prod.mk.injEq, List.not_mem_nil, or_false] at h
  rcases h with ⟨rfl, rfl⟩ | ⟨rfl, rfl⟩ | ⟨rfl, rfl⟩ | ⟨rfl, rfl⟩ | ⟨rfl, rfl⟩ <;> decide

/-- Settles O45: the checks in their order; then the carried entry joins, and the verdict goes to the matching query. -/
theorem answerCard : Obligations.AnswerCard := by
  intro s tag ps h hc hl i n answer listed matching rangeFault
  have refused := @exec_answerCard_refused s ps tag h hc hl
  have unlisted : ¬ listed ↔ findCard n s.cards.entries = none := by
    rw [findCard_eq_none_iff]
    exact not_exists.trans (forall_congr' fun _ => not_and)
  have full : s.cards.fullFor n = true ↔ ¬ listed ∧ 3000 ≤ s.cards.entries.length := by
    rw [fullFor_iff, unlisted]
  refine ⟨fun hr => refused (answerRefusal_range hr), fun hr hl he => refused (answerRefusal_badEntry hr hl he),
    fun hr hl hn hcard hlist hplaces => refused (st := .tableFull) ?_,
    fun hr hl hv hm hlist => refused (st := .outOfRange) ?_, fun s1 hr hs1 => ?_⟩
  · rw [answerRefusal_goodEntry hr hl hn hcard]
    exact if_pos (full.mpr ⟨hlist, hplaces⟩)
  · rw [answerRefusal_plain hr hl]
    exact if_pos ⟨hv, (matchesQuery_iff _ _ _).mpr hm, unlisted.mp hlist⟩
  · obtain ⟨u, ht, rfl⟩ : ∃ u, EntryTaken ps s.cards u ∧ s1 = { s with cards := u } := by
      rcases hs1 with ⟨hl, rfl⟩ | ⟨new, hl, hn, hcard, hroom, rfl⟩
      · exact ⟨_, .inl ⟨hl, rfl⟩, rfl⟩
      · refine ⟨_, .inr ⟨new, hl, hn, hcard, fun hf => ?_, rfl⟩, rfl⟩
        obtain ⟨hno, hplaces⟩ := full.mp hf
        exact hroom.elim hno (Nat.not_lt.mpr hplaces)
    refine ⟨fun hm => exec_answerCard_tooLate tag h hc hl ht (ht.passes hr fun _ hq => (hm hq).elim) hm,
      fun x q hx hq hn => ⟨fun hv => ?_, fun hv e k he hk => ?_⟩⟩
    · have pass := ht.passes hr fun hv1 => absurd (hv.symm.trans hv1) Nat.zero_ne_one
      exact exec_answerCard_verdict tag h hc hl ht pass hx hq hn
        (applyVerdict_deny (s := { s.taken .network 0x38 tag with cards := u }) hx hv)
    · have pass := ht.passes hr fun _ _ hno => Option.some_ne_none e (he.symm.trans hno)
      refine ⟨fun o code hcode ho => ?_, fun hst hd hs hh hf => ?_⟩
      · obtain ⟨hne, hbytes⟩ := refusedCode hcode
        rw [← hbytes]
        exact exec_answerCard_verdict tag h hc hl ht pass hx hq hn
          (applyVerdict_allow_refused (s := { s.taken .network 0x38 tag with cards := u }) hx hv he hk
            (recheck_refuses ho) hne)
      · exact exec_answerCard_verdict tag h hc hl ht pass hx hq hn
          (applyVerdict_allow_opens (s := { s.taken .network 0x38 tag with cards := u }) hx hv he hk
            (recheck_passes hst hd hs hh hf))

end Sys2Proof.Machine
end

section
/-! PROOFS. The journal's ring (R117, R118, R123 to R125, R130): an entry at the newest end, a record that finds no place, and a
release each keep its figures together. -/

namespace Sys2Proof.Machine

namespace Journal.Sound

variable {j : Journal}

/-- Every entry's sequence number runs from the oldest up to below the next one (R118). -/
theorem seq_bounds (h : j.Sound) {e : JournalEntry} (he : e ∈ j.entries) : j.oldest ≤ e.seq ∧ e.seq < j.nextSeq := by
  have mem : e.seq ∈ List.range' j.oldest j.entries.length := h.consecutive ▸ List.mem_map_of_mem he
  have room := h.room
  rw [List.mem_range'_1, Journal.oldest] at mem
  rw [Journal.oldest]
  omega

theorem oldest_add_length (h : j.Sound) : j.oldest + j.entries.length = j.nextSeq := Nat.sub_add_cancel h.room.le

/-- An entry with the next sequence number joins at the newest end, a DEPOSIT only below its places (R118, R123). -/
theorem append {e : JournalEntry} (h : j.Sound) (hseq : e.seq = j.nextSeq) (hplace : j.entries.length < journalPlaces)
    (hdep : j.entries.length < depositPlaces ∨ e.body.isDeposit = false) :
    ({ j with entries := j.entries ++ [e], nextSeq := j.nextSeq + 1 } : Journal).Sound where
  places := by simpa using hplace
  room := by simpa using h.room
  consecutive := by
    have oldest : j.nextSeq + 1 - (j.entries ++ [e]).length = j.oldest := by simp [Journal.oldest]
    rw [Journal.oldest, oldest, List.map_append, h.consecutive, List.length_append, List.length_singleton,
      List.range'_1_concat, h.oldest_add_length, List.map_singleton, hseq]
  deposits := by
    intro x hx
    rw [List.drop_append, List.mem_append] at hx
    rcases hx with hx | hx
    · exact h.deposits x hx
    · obtain rfl := List.mem_singleton.mp (List.mem_of_mem_drop hx)
      refine hdep.resolve_left fun hlt => ?_
      rw [List.drop_eq_nil_of_le (Nat.sub_pos_of_lt hlt)] at hx
      exact List.not_mem_nil hx
  overflow := h.overflow
  lost := h.lost
  depositFull hf := (h.depositFull hf).trans (by simp)
  lostMarker hm := absurd (h.lostMarker hm) hplace.ne

/-- A deposit that finds its places taken is turned away and counted (R123). -/
theorem turnAway (h : j.Sound) (hfull : depositPlaces ≤ j.entries.length) :
    ({ j with overflow := saturate 65535 (j.overflow + 1), depositFull := true } : Journal).Sound :=
  { h with overflow := Nat.min_le_right _ _, depositFull := fun _ => hfull }

/-- A record that finds every place taken is lost and counted (R124). -/
theorem lose (h : j.Sound) (hfull : journalPlaces ≤ j.entries.length) :
    ({ j with lost := saturate 65535 (j.lost + 1), lostMarker := true } : Journal).Sound :=
  { h with lost := Nat.min_le_right _ _, lostMarker := fun _ => h.places.antisymm hfull }

/-- The entries above sequence number n are those that stand behind the first n + 1 − oldest: the numbers rise by one. -/
theorem filter_eq_drop (h : j.Sound) (n : Nat) :
    j.entries.filter (fun e => decide (n < e.seq)) = j.entries.drop (n + 1 - j.oldest) := by
  have consecutive := h.consecutive
  generalize j.entries = es, j.oldest = o at consecutive ⊢
  induction es generalizing o with
  | nil => simp
  | cons e es ih =>
    obtain ⟨hseq, hrest⟩ : e.seq = o ∧ es.map JournalEntry.seq = List.range' (o + 1) es.length := by
      simpa [List.range'_succ] using consecutive
    have behind := ih (o + 1) hrest
    by_cases hn : n < o
    · rw [show n + 1 - (o + 1) = 0 by omega, List.drop_zero] at behind
      rw [show n + 1 - o = 0 by omega, List.drop_zero, List.filter_cons_of_pos (by simpa [hseq] using hn), behind]
    · rw [show n + 1 - o = (n + 1 - (o + 1)) + 1 by omega, List.drop_succ_cons,
        List.filter_cons_of_neg (by simpa [hseq] using hn), behind]

/-- A release up to an entry of the journal leaves the entries from the next sequence number on (R130). -/
theorem release {n : Nat} (h : j.Sound) (hold : j.oldest ≤ n) (hnew : n < j.nextSeq) : (j.release n).Sound := by
  have total := h.oldest_add_length
  have kept : (j.release n).entries = j.entries.drop (n + 1 - j.oldest) := h.filter_eq_drop n
  have length : (j.release n).entries.length = j.nextSeq - (n + 1) := by
    rw [kept, List.length_drop]
    omega
  have oldest : (j.release n).oldest = n + 1 := by
    rw [Journal.oldest, length]
    exact Nat.sub_sub_self hnew
  have fewer : (j.release n).entries.length ≤ j.entries.length := List.length_filter_le _ _
  refine ⟨fewer.trans h.places, ?_, ?_, fun e he => ?_, h.overflow, h.lost, fun hf => ?_, fun hm => ?_⟩
  · exact fewer.trans_lt h.room
  · rw [oldest, length, kept, List.map_drop, h.consecutive, List.drop_range']
    congr 1 <;> omega
  · rw [kept, List.drop_drop, Nat.add_comm, ← List.drop_drop] at he
    exact h.deposits e (List.mem_of_mem_drop he)
  · simp only [Journal.release, Bool.and_eq_true, decide_eq_true_eq] at hf
    exact hf.2
  · simp only [Journal.release, Bool.and_eq_true, decide_eq_true_eq] at hm
    exact (fewer.trans h.places).antisymm hm.2

end Journal.Sound

end Sys2Proof.Machine
end

section
/-! PROOFS. What leaves every port's journal cursor: attention raised at the ports changes their flags alone (R127, R161). -/

namespace Sys2Proof.Machine

section
variable (s : State) (c : Nat) (p : Port)

/-! ## The threshold unit and the lift -/

@[simp] theorem evaluate_cursor : ((s.evaluate c).ports.get p).journalCursor = (s.ports.get p).journalCursor := by
  have due : ∀ k pe, ((s.judgeDue c k pe).ports.get p).journalCursor = (s.ports.get p).journalCursor := by
    intro k pe
    rcases judgeDue_cases s c k pe with e | ⟨_, e⟩ | ⟨_, e⟩ <;> rw [e]
    · exact raise_cursor _ _ _
    · exact raise_cursor _ _ _
  have full : ∀ (t : State) k pe, ((t.judgeFull c k pe).ports.get p).journalCursor = (t.ports.get p).journalCursor := by
    intro t k pe
    unfold State.judgeFull State.setFull
    repeat' split
    all_goals simp
  unfold State.evaluate
  repeat' split
  · rfl
  · rfl
  · rw [full, due]

@[simp] theorem addVolume_cursor (n : Nat) :
    ((s.addVolume c n).ports.get p).journalCursor = (s.ports.get p).journalCursor := evaluate_cursor _ c p

@[simp] theorem cleanUp_cursor : ((s.cleanUp c).ports.get p).journalCursor = (s.ports.get p).journalCursor := by
  unfold State.cleanUp State.leaveDueList State.setFull
  dsimp only
  repeat' split
  all_goals simp

@[simp] theorem judgeRelease_cursor : ((s.judgeRelease c).ports.get p).journalCursor = (s.ports.get p).journalCursor := by
  unfold State.judgeRelease
  split
  · exact raise_cursor _ _ _
  · rfl

@[simp] theorem endClaim_cursor (e : LiftEnding) :
    ((s.endClaim c e).ports.get p).journalCursor = (s.ports.get p).journalCursor := raise_cursor _ _ _

@[simp] theorem takeLift_cursor (k : Container) :
    ((s.takeLift c k).ports.get p).journalCursor = (s.ports.get p).journalCursor := by
  simp [State.takeLift]

@[simp] theorem displace_cursor : ((s.displace c).ports.get p).journalCursor = (s.ports.get p).journalCursor := by
  simp [State.displace]

@[simp] theorem takeReseat_cursor : ((s.takeReseat c).ports.get p).journalCursor = (s.ports.get p).journalCursor := by
  unfold State.takeReseat
  repeat' split
  · rfl
  · exact raise_cursor _ _ _
  · exact raise_cursor _ _ _
  · rfl

/-! ## Heat and temperature -/

@[simp] theorem takeTemperature_cursor (k : Container) (temp : Option (Int × Bool)) :
    ((s.takeTemperature c k temp).ports.get p).journalCursor = (s.ports.get p).journalCursor := by
  have hot : ∀ t : State, ((t.becomeHot c).ports.get p).journalCursor = (t.ports.get p).journalCursor := by
    intro t
    unfold State.becomeHot
    dsimp only
    split <;> simp
  unfold State.takeTemperature State.temperatureFault State.temperatureValid
  split
  · exact raiseIf_cursor _ _ _ _
  · dsimp only
    split
    · exact hot _
    · rfl

end

/-! ## Ports and requests that leave the cursors -/

section
variable (q p : Port) (ps : List Byte) (s : State)

@[simp] theorem updPort_cursor {f : PortBlock → PortBlock} (hf : ∀ b, (f b).journalCursor = b.journalCursor) :
    ((s.updPort q f).ports.get p).journalCursor = (s.ports.get p).journalCursor := (updPort_sameBooks s q hf).cursors p

@[simp] theorem answerHeld_cursor (held : PortState) (st : Status) :
    ((s.answerHeld q held st).ports.get p).journalCursor = (s.ports.get p).journalCursor := by
  unfold State.answerHeld State.sendReply
  split <;> simp

@[simp] theorem completeWrite_cursor : (s.completeWrite.ports.get p).journalCursor = (s.ports.get p).journalCursor := by
  unfold State.completeWrite
  dsimp only
  repeat' split
  all_goals simp

@[simp] theorem bodyReadStatus_cursor :
    ((bodyReadStatus q ps s).1.ports.get p).journalCursor = (s.ports.get p).journalCursor := by
  simp [bodyReadStatus]

@[simp] theorem bodyReadCards_cursor :
    ((bodyReadCards q ps s).1.ports.get p).journalCursor = (s.ports.get p).journalCursor := by
  simp [bodyReadCards]

@[simp] theorem bodyRewindCardCursor_cursor :
    ((bodyRewindCardCursor q ps s).1.ports.get p).journalCursor = (s.ports.get p).journalCursor := by
  simp [bodyRewindCardCursor]

@[simp] theorem bodyAcknowledgeAttention_cursor :
    ((bodyAcknowledgeAttention q ps s).1.ports.get p).journalCursor = (s.ports.get p).journalCursor := by
  unfold bodyAcknowledgeAttention
  dsimp only
  split <;> simp

@[simp] theorem bodySetAttentionMask_cursor :
    ((bodySetAttentionMask q ps s).1.ports.get p).journalCursor = (s.ports.get p).journalCursor := by
  unfold bodySetAttentionMask
  dsimp only
  split <;> simp

@[simp] theorem bodyClearHeat_cursor :
    ((bodyClearHeat q ps s).1.ports.get p).journalCursor = (s.ports.get p).journalCursor := by
  unfold bodyClearHeat
  repeat' split
  · rfl
  · rfl
  · exact raise_cursor _ _ p
  · rfl

@[simp] theorem bodyEndSession_cursor :
    ((bodyEndSession q ps s).1.ports.get p).journalCursor = (s.ports.get p).journalCursor := by
  unfold bodyEndSession
  repeat' split
  · rfl
  · rfl
  · rfl
  · exact raise_cursor _ _ p

@[simp] theorem bodyClaimLift_cursor :
    ((bodyClaimLift q ps s).1.ports.get p).journalCursor = (s.ports.get p).journalCursor := by
  unfold bodyClaimLift
  split
  · rfl
  · exact judgeRelease_cursor _ _ p

@[simp] theorem bodyCancelLift_cursor :
    ((bodyCancelLift q ps s).1.ports.get p).journalCursor = (s.ports.get p).journalCursor := by
  unfold bodyCancelLift
  repeat' split
  · rfl
  · exact endClaim_cursor _ _ p _
  all_goals rfl

end

end Sys2Proof.Machine
end

section
/-! PROOFS. The journal stays sound, and every cursor at or below the next sequence number (R117, R118, R123 to R127): each
operation that hands the journal a record or moves a cursor keeps it so, and with them every step: O53. -/

namespace Sys2Proof.Machine

section
variable {s t : State} {c : Nat}

theorem State.JournalSound.congr (h : s.JournalSound) (hj : t.journal = s.journal)
    (hc : ∀ p, (t.ports.get p).journalCursor = (s.ports.get p).journalCursor) : t.JournalSound where
  journal := hj ▸ h.journal
  cursors p := by
    rw [hj, State.port, hc]
    exact h.cursors p

/-- The journal changes, the ports do not, and no sequence number is taken back. -/
theorem State.JournalSound.withJournal {j : Journal} (h : s.JournalSound) (hj : j.Sound)
    (hn : s.journal.nextSeq ≤ j.nextSeq) : ({ s with journal := j } : State).JournalSound where
  journal := hj
  cursors p := (h.cursors p).trans hn

theorem State.JournalSound.raiseIf (b : Bool) (a : AttentionKind) (h : s.JournalSound) : (s.raiseIf b a).JournalSound :=
  h.congr (by simp) (raiseIf_cursor s b a)

theorem updPort_port_of_ne {p q : Port} (s : State) (f : PortBlock → PortBlock) (hq : q ≠ p) :
    (s.updPort p f).port q = s.port q := by
  revert hq
  cases p <;> cases q <;> simp [State.updPort, State.port, Ports.upd, Ports.get]

/-- One port's cursor moves, to no higher than the next sequence number. -/
theorem State.JournalSound.moveCursor (p : Port) {f : PortBlock → PortBlock} (h : s.JournalSound)
    (hf : (f (s.port p)).journalCursor ≤ s.journal.nextSeq) : (s.updPort p f).JournalSound where
  journal := h.journal
  cursors q := by
    by_cases hq : q = p
    · obtain rfl := hq
      cases q <;> exact hf
    · rw [updPort_port_of_ne s f hq]
      exact h.cursors q

/-! ## Records handed to the journal (R123, R124) -/

theorem makeEntry_journalSound (place : Nat) {body : JournalBody} (h : s.JournalSound)
    (hplace : s.journal.entries.length < journalPlaces)
    (hdep : s.journal.entries.length < depositPlaces ∨ body.isDeposit = false) : (s.makeEntry place body).JournalSound :=
  (h.withJournal (h.journal.append rfl hplace hdep) (Nat.le_succ _)).raiseIf _ _

theorem journalDeposit_journalSound (i n : Nat) (household : Option Nat) (unverified : Bool) (h : s.JournalSound) :
    (s.journalDeposit i n household unverified).JournalSound := by
  unfold State.journalDeposit
  split
  · next hlt => exact makeEntry_journalSound i h (hlt.trans (by decide)) (.inl hlt)
  · next hfull =>
    have away := h.withJournal (h.journal.turnAway (Nat.not_lt.mp hfull)) le_rfl
    exact State.JournalSound.raiseIf _ _ (away.congr rfl fun _ => rfl)

/-- A record that is no DEPOSIT. -/
theorem journalRecord_journalSound (place : Nat) {body : JournalBody} (hb : body.isDeposit = false) (h : s.JournalSound) :
    (s.journalRecord place body).JournalSound := by
  unfold State.journalRecord
  split
  · next hlt => exact makeEntry_journalSound place h hlt (.inr hb)
  · next hfull => exact (h.withJournal (h.journal.lose (Nat.not_lt.mp hfull)) le_rfl).raiseIf _ _

/-! ## Lids and seats -/

theorem countClosing_journalSound (i : Nat) (x : Inlet) (now : Nat) (h : s.JournalSound) :
    (s.countClosing i x now).JournalSound := by
  unfold State.countClosing State.countDeposit State.countForced
  repeat' split
  · exact h
  · next w _ =>
    refine journalDeposit_journalSound i _ _ _ (h.congr (by simp) fun p => ?_)
    exact addVolume_cursor (s.chargeCard (w.card.getD 0)) _ p _
  · exact (journalRecord_journalSound i rfl h).congr (by simp) fun p => addVolume_cursor _ _ p _
  all_goals exact h

theorem takeLidClosing_journalSound (i now : Nat) (h : s.JournalSound) : (s.takeLidClosing i now).JournalSound := by
  unfold State.takeLidClosing
  split
  · exact h
  · next x _ =>
    dsimp only
    split
    · have closed : (s.updInlet i fun y => y.takeClosing (s.inState x.cfg.container .lifted)).JournalSound :=
        h.congr rfl fun _ => rfl
      refine State.JournalSound.congr ?_ (by simp) fun p => judgeRelease_cursor _ _ p
      split
      · exact closed
      · exact countClosing_journalSound i x now closed
    · exact h

theorem finishEmptying_journalSound (c : Nat) (after : Option Nat) (v : Bool) (e : LiftEnding) (h : s.JournalSound) :
    (s.finishEmptying c after v e).JournalSound := by
  unfold State.finishEmptying
  split
  · exact h
  · next k _ =>
    have recorded : (s.journalRecord c (emptyingRecord k.note after v)).JournalSound := journalRecord_journalSound c rfl h
    exact recorded.congr (by simp) fun p => by simp

theorem endUnverified_journalSound (c : Nat) (e : LiftEnding) (h : s.JournalSound) : (s.endUnverified c e).JournalSound :=
  finishEmptying_journalSound c none false e (h.congr rfl fun _ => rfl)

theorem takeSeat_journalSound (c : Nat) (b : Bool) (h : s.JournalSound) : (s.takeSeat c b).JournalSound := by
  have displaced : (s.displace c).JournalSound := h.congr (by simp) fun p => displace_cursor s c p
  unfold State.takeSeat State.takeUnseat
  repeat' split
  · exact h
  · exact h
  · exact h.congr (by simp) fun p => takeReseat_cursor s c p
  · exact h
  · exact h.congr (by simp) fun p => takeLift_cursor s c p _
  · exact displaced
  · exact displaced
  · exact displaced.congr (by simp) fun p => endClaim_cursor _ c p _
  · exact endUnverified_journalSound c _ displaced
  · exact h.congr rfl fun _ => rfl

/-! ## Measurements -/

theorem endFailedPair_journalSound (c : Nat) (h : s.JournalSound) : (s.endFailedPair c).JournalSound := by
  unfold State.endFailedPair
  repeat' split
  · exact h
  · exact h.congr rfl fun _ => rfl
  · exact endUnverified_journalSound c _ (h.congr rfl fun _ => rfl)
  · exact h.congr rfl fun _ => rfl

theorem pairMiss_journalSound (c : Nat) (k : Container) (h : s.JournalSound) : (s.pairMiss c k).JournalSound :=
  endFailedPair_journalSound c (State.JournalSound.raiseIf _ _ (h.congr rfl fun _ => rfl))

theorem pairMismatch_journalSound (c : Nat) (k : Container) (h : s.JournalSound) : (s.pairMismatch c k).JournalSound :=
  endFailedPair_journalSound c (State.JournalSound.raiseIf _ _ (h.congr rfl fun _ => rfl))

theorem adoptPair_journalSound (c : Nat) (k : Container) (r : Reading) (h : s.JournalSound) :
    (s.adoptPair c k r).JournalSound := by
  unfold State.adoptPair
  split
  · exact finishEmptying_journalSound c _ _ _ (h.congr rfl fun p => raise_cursor _ _ p)
  · exact h.congr (by simp) fun p => by simp

theorem takeResult_journalSound (r : Run) (echo : EchoSignal) (h : s.JournalSound) : (s.takeResult r echo).JournalSound := by
  unfold State.takeResult
  split
  · exact h
  · next k _ =>
    have warm : (s.takeTemperature r.container k (s.resultTemp r.result)).JournalSound :=
      h.congr (by simp) fun p => takeTemperature_cursor s _ p _ _
    unfold State.firstDone State.secondDone
    dsimp only
    repeat' split
    · exact pairMiss_journalSound _ _ warm
    · exact adoptPair_journalSound _ _ _ warm
    · exact pairMismatch_journalSound _ _ warm
    · exact pairMiss_journalSound _ _ warm
    · exact warm.congr rfl fun _ => rfl

theorem arbitrate_journalSound (h : s.JournalSound) : s.arbitrate.JournalSound := h.congr (by simp) fun p => by simp

theorem takeCompletion_journalSound (conv : Conversion) (echo : EchoSignal) (h : s.JournalSound) :
    (s.takeCompletion conv echo).JournalSound := by
  unfold State.takeCompletion
  split
  · exact h
  · have freed : ({ s with run := none } : State).JournalSound := h.congr rfl fun _ => rfl
    apply arbitrate_journalSound
    split
    · exact freed
    · exact takeResult_journalSound _ echo freed

/-! ## Resets (R126) -/

theorem reconcileFrom_journalSound (l : FieldLines) (n k : Nat) (h : s.JournalSound) :
    (reconcileFrom l n k s).JournalSound := by
  induction k generalizing n s with
  | zero => exact h
  | succ k ih => exact ih (n + 1) (takeSeat_journalSound n _ h)

/-- A warm restart keeps the journal and the cursors, but for the records of what its seat reconciliation ends (R17). -/
theorem warmRestart_journalSound (h : s.JournalSound) : s.warmRestart.JournalSound := by
  have warm : s.warmValues.allDue.JournalSound := h.congr (by simp) fun p =>
    mapPorts_cursor (f := fun b => b.restarted (kindSet .restart)) (fun _ => rfl) s.ports p
  exact arbitrate_journalSound (reconcileFrom_journalSound _ _ _ warm)

theorem configRestart_journalSound (g : StationConfig) (h : s.JournalSound) : (s.configRestart g).JournalSound := by
  refine h.congr (by simp) fun p => ?_
  have restarted : ∀ (b : PortBlock) (flags : KindSet), (b.restarted flags).journalCursor = b.journalCursor := fun _ _ => rfl
  simp [State.configRestart, restarted]

theorem powerOnEnd_journalSound (s : State) (l : FieldLines) (b : Bool) : (s.powerOnEnd l b).JournalSound := by
  unfold State.powerOnEnd
  dsimp only
  split
  · exact reset_journalSound.congr rfl fun _ => rfl
  · exact reset_journalSound.congr (by simp) fun p => by simp

/-! ## Requests (R127 to R130) -/

/-- A port that reads on stands behind the last entry read, or where it read from. -/
theorem bodyReadJournal_journalSound (p : Port) (ps : List Byte) (h : s.JournalSound) :
    (bodyReadJournal p ps s).1.JournalSound := by
  refine h.moveCursor p ?_
  dsimp only
  generalize hl : (List.take 8 _).getLast? = last
  cases last with
  | none => exact max_le (h.cursors p) (Nat.sub_le _ _)
  | some e =>
    have he : e ∈ s.journal.entries :=
      List.mem_of_mem_filter (List.mem_of_mem_take (List.mem_of_mem_getLast? hl))
    exact (h.journal.seq_bounds he).2

theorem bodyReleaseJournal_journalSound (p : Port) (ps : List Byte) (h : s.JournalSound) :
    (bodyReleaseJournal p ps s).1.JournalSound := by
  unfold bodyReleaseJournal
  dsimp only
  split_ifs with hold hnew
  · exact h
  · exact h
  · exact h.withJournal (h.journal.release (Nat.not_lt.mp hold) (Nat.not_le.mp hnew)) le_rfl

/-- Three requests reach the journal or a port's place in it, and Restart reconciles the seats. -/
theorem body_journalSound (p : Port) (ps : List Byte) : ∀ r ∈ requestIndex, ∀ s : State, s.JournalSound →
    (r.body p ps s).1.JournalSound := by
  simp only [requestIndex, List.forall_mem_cons, List.not_mem_nil, false_implies, implies_true, and_true]
  refine ⟨?_, ?_, ?_, ?_, ?_, fun _ => warmRestart_journalSound, ?_, ?_, ?_, ?_, ?_, ?_, ?_, ?_, ?_, ?_, ?_, ?_, ?_, ?_,
    ?_, ?_, ?_, ?_, ?_, fun _ => bodyReadJournal_journalSound p ps,
    fun s h => h.moveCursor p (Nat.sub_le _ _), fun _ => bodyReleaseJournal_journalSound p ps, ?_, ?_, ?_, ?_, ?_⟩
  all_goals exact fun s h => h.congr (by simp) fun q => by simp

end

theorem journalSound_kept : BooksKept State.JournalSound where
  congr h e := h.congr e.journal e.cursors
  unpowered _ _ := reset_journalSound.congr rfl fun _ => rfl
  powerOnEnd l b _ := powerOnEnd_journalSound _ l b
  body := body_journalSound
  lidClosing := takeLidClosing_journalSound
  seat := takeSeat_journalSound
  completion := takeCompletion_journalSound
  warmRestart := warmRestart_journalSound
  configRestart _ := configRestart_journalSound _
  completeWrite h := h.congr (by simp) fun p => completeWrite_cursor p _
  releaseWriter h := h.congr rfl fun _ => rfl
  checkEnded h := h.congr rfl fun _ => rfl
  clockCount h := h.congr (by simp) fun p => by simp

/-- Settles O53: each operation that touches the books keeps the journal sound. -/
theorem stepKeepsJournalSound : Obligations.StepKeepsJournalSound := fun _ _ h ht => journalSound_kept.step h ht

end Sys2Proof.Machine
end

section
/-! PROOFS. Which records find a place in the journal, and Release Journal (R118, R119, R123 to R125, R130): O47. -/

namespace Sys2Proof.Machine

/-! ## Records -/

section
variable (s : State) (place i n : Nat) (household : Option Nat) (unverified : Bool) (body : JournalBody)

/-- The count rises to 768 with the entry that finds 767 before it (R125). -/
theorem makeEntry_eq : s.makeEntry place body = ({ s with
    journal := { s.journal with
      nextSeq := s.journal.nextSeq + 1
      entries := s.journal.entries ++ [JournalEntry.mk s.journal.nextSeq s.clock.count (!s.clock.set) place body] } }.raiseIf
        (decide (s.journal.entries.length = 767)) .journal) := by
  have mark : decide (s.journal.entries.length + 1 = journalHighMark) = decide (s.journal.entries.length = 767) := by
    simp [journalHighMark]
  rw [← mark]
  rfl

variable {s}

theorem journalDeposit_entry (h : s.journal.entries.length < 1008) :
    s.journalDeposit i n household unverified = s.makeEntry i (.deposit n household unverified) := if_pos h

theorem journalDeposit_turnedAway (h : 1008 ≤ s.journal.entries.length) :
    s.journalDeposit i n household unverified = ({ s with
      journal := { s.journal with overflow := min (s.journal.overflow + 1) 65535, depositFull := true }
      cards := { s.cards with
        entries := s.cards.entries.map fun e : Card =>
          if e.number = n then { e with overflow := min (e.overflow + 1) 65535 } else e } }.raiseIf
            (!s.journal.depositFull) .journal) := if_neg (Nat.not_lt.mpr h)

theorem journalRecord_entry (h : s.journal.entries.length < 1024) :
    s.journalRecord place body = s.makeEntry place body := if_pos h

theorem journalRecord_lost (h : 1024 ≤ s.journal.entries.length) :
    s.journalRecord place body = ({ s with
      journal := { s.journal with lost := min (s.journal.lost + 1) 65535, lostMarker := true } }.raiseIf
        (!s.journal.lostMarker) .journal) := if_neg (Nat.not_lt.mpr h)

end

/-! ## Release Journal (R130) -/

section
variable {s : State} {ps : List Byte} (p : Port)

theorem bodyReleaseJournal_gone (h : field ps 0 4 < s.journal.oldest) : bodyReleaseJournal p ps s = (s, .reply .ok []) := by
  simp only [bodyReleaseJournal, if_pos h, done]

theorem bodyReleaseJournal_outOfRange (hold : s.journal.oldest ≤ field ps 0 4) (hnew : s.journal.nextSeq ≤ field ps 0 4) :
    bodyReleaseJournal p ps s = (s, .reply .outOfRange []) := by
  simp only [bodyReleaseJournal, if_neg (Nat.not_lt.mpr hold), if_pos hnew, refuse]

theorem bodyReleaseJournal_releases (hold : s.journal.oldest ≤ field ps 0 4) (hnew : field ps 0 4 < s.journal.nextSeq) :
    bodyReleaseJournal p ps s = ({ s with journal := s.journal.release (field ps 0 4) }, .reply .ok []) := by
  simp only [bodyReleaseJournal, if_neg (Nat.not_lt.mpr hold), if_neg (Nat.not_le.mpr hnew), done]

end

/-- Settles O47: a record by the places that are taken, a release by the sequence number it names. -/
theorem journalPlacesAndRelease : Obligations.JournalPlaces := by
  refine ⟨fun s i n household unverified => ⟨fun hlt => ?_, journalDeposit_turnedAway i n household unverified⟩,
    fun s place body => ⟨fun hlt => ?_, journalRecord_lost place body⟩, fun s tag b0 b1 b2 b3 h hc => ?_⟩
  · rw [journalDeposit_entry i n household unverified hlt, makeEntry_eq]
  · rw [journalRecord_entry place body hlt, makeEntry_eq]
  · intro n oldest kept
    have number : field [b0, b1, b2, b3] 0 4 = n := field_four b0 b1 b2 b3
    have row : reqReleaseJournal.row.refusal .network [b0, b1, b2, b3].length s.configured = none :=
      refusal_none rfl rfl (.inl hc)
    refine ⟨fun hn => ?_, fun hold hnew => ?_, fun hold hnew => ?_⟩
    · exact (arrive_reported h reqReleaseJournal tag _ row
        (bodyReleaseJournal_gone (s := s.taken .network 0x42 tag) .network (number ▸ hn)) :)
    · exact (arrive_reported h reqReleaseJournal tag _ row
        (bodyReleaseJournal_outOfRange (s := s.taken .network 0x42 tag) .network (number ▸ hold) (number ▸ hnew)) :)
    · have releases := bodyReleaseJournal_releases (s := s.taken .network 0x42 tag) .network (number ▸ hold) (number ▸ hnew)
      rw [number] at releases
      exact answered_replied (arrive_answered h reqReleaseJournal tag _ row releases :) rfl

end Sys2Proof.Machine
end

section
/-! PROOFS. Read Cards and Read Journal with their cursors, and the two rewinds (R127 to R129, R167, R168): O46. -/

namespace Sys2Proof.Machine

/-! ## A request that changes its own port -/

theorem updPort_updPort (s : State) (p : Port) (f g : PortBlock → PortBlock) :
    (s.updPort p f).updPort p g = s.updPort p (g ∘ f) := by
  cases p <;> rfl

theorem taken_eq_updPort (s : State) (p : Port) (code tag : Byte) : s.taken p code tag =
    s.updPort p fun b => { b with gap := some (s.now + 20), state := .holding code tag } := updPort_updPort s p _ _

/-- A change of the port's block that neither reads nor writes its gap timer and its port state may as well come first. -/
theorem taken_updPort {f : PortBlock → PortBlock}
    (hf : ∀ b g u, f { b with gap := g, state := u } = { f b with gap := g, state := u }) (s : State) (p : Port)
    (code tag : Byte) : (s.taken p code tag).updPort p f = (s.updPort p f).taken p code tag := by
  rw [taken_eq_updPort, taken_eq_updPort, updPort_updPort, updPort_updPort]
  exact congrArg (s.updPort p) (funext fun b => hf b _ _)

/-- A request that changes no more than such a part of its port's block replies. -/
theorem arrive_updPort {s : State} {p : Port} (h : s.listening p = true) (r : Request) (tag : Byte) (ps : List Byte)
    (hr : r.row.refusal p ps.length s.configured = none) {f : PortBlock → PortBlock} {st : Status} {payload : List Byte}
    (hf : ∀ b g u, f { b with gap := g, state := u } = { f b with gap := g, state := u })
    (hb : r.body p ps (s.taken p r.row.code tag) = ((s.taken p r.row.code tag).updPort p f, .reply st payload)) :
    whenRunning s (r.arrive p tag ps) =
      .next ((s.updPort p f).replied p r.row.code tag (statusCode st) payload).judgeIdle := by
  rw [arrive_answered h r tag ps hr hb, taken_updPort hf, sendReply_taken]

theorem taken_cursors (s : State) (p : Port) (code tag : Byte) :
    ((s.taken p code tag).port p).cardCursor = (s.port p).cardCursor ∧
      ((s.taken p code tag).port p).journalCursor = (s.port p).journalCursor := by
  cases p <;> exact ⟨rfl, rfl⟩

/-- A one-byte field is its byte (R153). -/
theorem be_one (n : Nat) : be 1 n = [BitVec.ofNat 8 n] := by simp [be]

/-! ## The requests -/

section
variable {s : State} {p : Port} (tag : Byte) (h : s.listening p = true) (hc : s.configured = true)
include h hc

/-- At most six entries above the cursor, with whether more follow; the cursor goes to the last of them (R167). -/
theorem exec_readCards {f : PortBlock → PortBlock} {above : List Card}
    (ha : above = cardsAbove (s.port p).cardCursor s.cards.entries)
    (hf : ∀ b, f b = { b with cardCursor := ((above.take 6).getLast?.map Card.number).getD b.cardCursor }) :
    exec (.readCards p tag []) s = .next (((s.updPort p f).replied p 0x35 tag 0x00
      ([if 6 < above.length then 1 else 0, BitVec.ofNat 8 (above.take 6).length] ++
        ((above.take 6).map cardBytes).flatten)).judgeIdle) := by
  have marker : be 1 (markerCode (decide (6 < above.length))) ++ be 1 (above.take 6).length =
      [if 6 < above.length then 1 else 0, BitVec.ofNat 8 (above.take 6).length] := by
    simp only [be_one, markerCode, decide_eq_true_eq]
    split_ifs <;> rfl
  have body : bodyReadCards p [] (s.taken p 0x35 tag) = ((s.taken p 0x35 tag).updPort p f, .reply .ok
      ([if 6 < above.length then 1 else 0, BitVec.ofNat 8 (above.take 6).length] ++
        ((above.take 6).map cardBytes).flatten)) := by
    rw [bodyReadCards, (taken_cursors s p _ tag).1, ← marker, funext hf, ha]
    rfl
  exact (arrive_updPort h reqReadCards tag [] (refusal_none rfl (portsNVS_contains p) (.inl hc))
    (fun b g u => by rw [hf, hf]) body :)

theorem exec_rewindCardCursor : exec (.rewindCardCursor p tag []) s =
    .next (((s.updPort p fun b => { b with cardCursor := 0 }).replied p 0x36 tag 0x00 []).judgeIdle) :=
  (arrive_updPort h reqRewindCardCursor tag [] (refusal_none rfl (portsNVS_contains p) (.inl hc)) (fun _ _ _ => rfl) rfl :)

/-- At most eight entries from the cursor, or from the oldest where the cursor stands below it, with whether entries were
missed and whether more follow; the cursor goes behind the last of them (R128). -/
theorem exec_readJournal {cursor next : Nat} {ahead : List JournalEntry}
    (hcur : cursor = max (s.port p).journalCursor s.journal.oldest) (ha : ahead = s.journal.fromCursor cursor)
    (hn : next = ((ahead.take 8).getLast?.map fun e => e.seq + 1).getD cursor) :
    exec (.readJournal p tag []) s =
      .next (((s.updPort p fun b => { b with journalCursor := next }).replied p 0x40 tag 0x00
        ([(if (s.port p).journalCursor < s.journal.oldest then 1 else 0) + (if 8 < ahead.length then 2 else 0)] ++
          be 4 s.journal.oldest ++ be 4 s.journal.nextSeq ++ [BitVec.ofNat 8 (ahead.take 8).length] ++
          ((ahead.take 8).map journalEntryBytes).flatten)).judgeIdle) := by
  have markers : be 1 (bitsByte [decide ((s.port p).journalCursor < s.journal.oldest), decide (8 < ahead.length)]) =
      [(if (s.port p).journalCursor < s.journal.oldest then 1 else 0) + (if 8 < ahead.length then 2 else 0)] := by
    rw [be_one]
    simp only [bitsByte, decide_eq_true_eq]
    split_ifs <;> rfl
  have body : bodyReadJournal p [] (s.taken p 0x40 tag) =
      ((s.taken p 0x40 tag).updPort p fun b => { b with journalCursor := next }, .reply .ok
        ([(if (s.port p).journalCursor < s.journal.oldest then 1 else 0) + (if 8 < ahead.length then 2 else 0)] ++
          be 4 s.journal.oldest ++ be 4 s.journal.nextSeq ++ [BitVec.ofNat 8 (ahead.take 8).length] ++
          ((ahead.take 8).map journalEntryBytes).flatten)) := by
    rw [bodyReadJournal, (taken_cursors s p _ tag).2, ← markers, ← be_one, hn, ha, hcur]
    rfl
  exact (arrive_updPort h reqReadJournal tag [] (refusal_none rfl (portsNVS_contains p) (.inl hc)) (fun _ _ _ => rfl) body :)

theorem exec_rewindJournalCursor : exec (.rewindJournalCursor p tag []) s =
    .next (((s.updPort p fun b => { b with journalCursor := s.journal.oldest }).replied p 0x41 tag 0x00 []).judgeIdle) :=
  (arrive_updPort h reqRewindJournalCursor tag [] (refusal_none rfl (portsNVS_contains p) (.inl hc)) (fun _ _ _ => rfl) rfl :)

end

/-- Settles O46: each request at its own port, the cursor by whether anything was read. -/
theorem cursorRequests : Obligations.CursorRequests := by
  intro s p tag h hc cards oldest cursor ahead
  refine ⟨exec_readCards tag h hc rfl fun b => ?_, exec_rewindCardCursor tag h hc, exec_readJournal tag h hc rfl rfl ?_,
    exec_rewindJournalCursor tag h hc⟩
  · cases (cards.take 6).getLast? <;> rfl
  · cases (ahead.take 8).getLast? <;> rfl

end Sys2Proof.Machine
end

section
/-! PROOFS. Announce, End Session, the carrier-present line of an AWAKE part and the carrier loss (R131 to R136): O48. -/

namespace Sys2Proof.Machine

/-! ## The vehicle table (R131) -/

theorem vehicles_running {s : State} {g : StationConfig} (hg : s.store.running = some g) : s.vehicles = g.vehicles := by
  simp [State.vehicles, hg]

theorem admitted_unlisted {table : List Vehicle} {id : Nat} (ht : table ≠ []) (h : ∀ v ∈ table, v.id ≠ id) :
    admitted table id = none := by
  simpa [admitted, ht] using h

/-- An empty table admits every id with all fractions, any other a listed id with the fractions of its entry. -/
theorem admitted_fractions {table : List Vehicle} {id : Nat} {fs : FractionSet}
    (h : table = [] ∧ fs = 0xFF ∨ ∃ v, table.find? (fun v => decide (v.id = id)) = some v ∧ v.fractions = fs) :
    admitted table id = some fs := by
  rcases h with ⟨ht, rfl⟩ | ⟨v, hv, rfl⟩
  · rw [admitted, if_pos ht]
  · have ht : table ≠ [] := by
      rintro rfl
      cases hv
    rw [admitted, if_neg ht, hv, Option.map_some]

/-! ## Announce (R133) -/

section
variable {s : State} {hi lo : Byte} (p : Port)

theorem bodyAnnounce_zero (h : (hi ++ lo).toNat = 0) : bodyAnnounce p [hi, lo] s = (s, .reply .outOfRange []) := by
  simp only [bodyAnnounce, field_pair, if_pos h, refuse]

variable (hid : (hi ++ lo).toNat ≠ 0)
include hid

theorem bodyAnnounce_again {x : Session} (hx : s.lift.session = some x) (h : x.vehicle = (hi ++ lo).toNat) :
    bodyAnnounce p [hi, lo] s = (s, .reply .ok []) := by
  simp only [bodyAnnounce, field_pair, if_neg hid, hx, if_pos h, done]

theorem bodyAnnounce_busy {x : Session} (hx : s.lift.session = some x) (h : x.vehicle ≠ (hi ++ lo).toNat) :
    bodyAnnounce p [hi, lo] s = (s, .reply .busy []) := by
  simp only [bodyAnnounce, field_pair, if_neg hid, hx, if_neg h, refuse]

theorem bodyAnnounce_notPermitted (hx : s.lift.session = none) (h : admitted s.vehicles (hi ++ lo).toNat = none) :
    bodyAnnounce p [hi, lo] s = (s, .reply .notPermitted []) := by
  simp only [bodyAnnounce, field_pair, if_neg hid, hx, h, refuse]

theorem bodyAnnounce_opens {fs : FractionSet} (hx : s.lift.session = none)
    (h : admitted s.vehicles (hi ++ lo).toNat = some fs) :
    bodyAnnounce p [hi, lo] s = (s.openSession (hi ++ lo).toNat fs, .reply .ok []) := by
  simp only [bodyAnnounce, field_pair, if_neg hid, hx, h, done]

end

/-! ## End Session (R134) -/

/-- A container in one of two states, by its record. -/
theorem inState_or_iff {s : State} {c : Nat} {k : Container} (hk : s.containers[c]? = some k) (a b : ServiceState) :
    (s.inState c a = true ∨ s.inState c b = true) ↔ k.state = a ∨ k.state = b := by
  simp [State.inState, hk]

section
variable {s : State} {x : Session} {c : Nat} {k : Container} (p : Port)

theorem bodyEndSession_noSession (h : s.lift.session = none) : bodyEndSession p [] s = (s, .reply .noSession []) := by
  simp only [bodyEndSession, h, refuse]

variable (hx : s.lift.session = some x)
include hx

theorem bodyEndSession_unclaimed (hc : x.claimed = none) :
    bodyEndSession p [] s = ({ s with lift := s.lift.endSession }, .reply .ok []) := by
  simp only [bodyEndSession, hx, hc, done]

variable (hc : x.claimed = some c) (hk : s.containers[c]? = some k)
include hc hk

theorem bodyEndSession_busy (h : k.state = .claimed ∨ k.state = .released) :
    bodyEndSession p [] s = (s, .reply .busy []) := by
  simp only [bodyEndSession, hx, hc, if_pos ((inState_or_iff hk _ _).mpr h), refuse]

theorem bodyEndSession_lifted (h : k.state = .lifted) :
    bodyEndSession p [] s = (({ s with lift := s.lift.endSession } : State).raise .lift, .reply .ok []) := by
  have hn : ¬ (s.inState c .claimed = true ∨ s.inState c .released = true) := by simp [inState_or_iff hk, h]
  simp only [bodyEndSession, hx, hc, if_neg hn, done]

end

/-! ## The carrier-present line (R135) -/

section
variable {s : State}

theorem takeCarrier_same : s.takeCarrier s.lift.carrier = s := if_pos rfl

theorem takeCarrier_present (h : s.lift.carrier = false) :
    s.takeCarrier true = { s with lift := { s.lift with carrier := true, carrierLoss := none } } :=
  if_neg (by simp [h])

/-- The carrier-loss timer starts where a session exists. -/
theorem takeCarrier_absent (h : s.lift.carrier = true) : s.takeCarrier false = { s with lift := { s.lift with
    carrier := false, carrierLoss := if s.lift.session.isSome then some (s.now + 3000) else none } } :=
  if_neg (by simp [h])

/-! ## The carrier loss (R136) -/

/-- The emptying controller may be changed before the attention is raised as well as after it. -/
theorem raise_withLift (l : LiftController) (a : AttentionKind) :
    ({ s.raise a with lift := l } : State) = ({ s with lift := l } : State).raise a := rfl

theorem exec_carrierLoss {t : Nat} (hp : s.power = .running) (ht : s.lift.carrierLoss = some t) :
    exec .carrierLoss s = .next (s.advanceTo t).loseCarrier.judgeIdle := by
  have h : exec .carrierLoss s = execCarrierLoss s := rfl
  rw [h, execCarrierLoss, whenRunning_running hp]
  simp only [ht]

variable {x : Session} (hx : s.lift.session = some x)
include hx

/-- The claim is cancelled, then the session ends; both raise LIFT. -/
theorem loseCarrier_claim {c : Nat} {k : Container} (hc : x.claimed = some c) (hk : s.containers[c]? = some k)
    (h : k.state = .claimed ∨ k.state = .released) : s.loseCarrier = { s with
      containers := s.containers.set c { k with state := .serving }
      lift := (s.lift.claimEnded c .carrierLost s.clock.count).endSession }.raise .lift := by
  have lost : s.loseCarrier =
      ({ s.endClaim c .carrierLost with lift := (s.endClaim c .carrierLost).lift.endSession } : State).raise .lift := by
    simp only [State.loseCarrier, hx, hc, if_pos ((inState_or_iff hk _ _).mpr h)]
  rw [lost, endClaim_lift, endClaim_eq .carrierLost hk, raise_withLift, raise_raise]

theorem loseCarrier_noClaim
    (h : ∀ c, x.claimed = some c → s.inState c .claimed = false ∧ s.inState c .released = false) :
    s.loseCarrier = ({ s with lift := s.lift.endSession } : State).raise .lift := by
  cases hc : x.claimed with
  | none => simp only [State.loseCarrier, hx, hc]
  | some c =>
    obtain ⟨h1, h2⟩ := h c hc
    have hn : ¬ (s.inState c .claimed = true ∨ s.inState c .released = true) := by simp [h1, h2]
    simp only [State.loseCarrier, hx, hc, if_neg hn]

end

/-- Settles O48: each request check by check, the line by the level followed, the loss by the session's claim. -/
theorem sessionsAndCarrier : Obligations.SessionsAndCarrier := by
  refine ⟨fun s tag hi lo g h hg => ?_, fun s tag h hc => ?_, fun s h => ⟨fun b hb => ?_, fun hb => ?_, fun hb => ?_⟩,
    fun s t x hp ht hx => ⟨fun c k hc hk hs => ?_, fun hn => ?_⟩⟩
  · have row : reqAnnounce.row.refusal .vehicle [hi, lo].length s.configured = none :=
      refusal_none rfl rfl (.inl (by simp [State.configured, hg]))
    have table : (s.taken .vehicle 0x50 tag).vehicles = g.vehicles := vehicles_running hg
    refine ⟨fun h0 => ?_, fun hid => ⟨fun x hx => ⟨fun hv => ?_, fun hv => ?_⟩,
      fun hx => ⟨fun ht hv => ?_, fun fs hf => ?_⟩⟩⟩
    · exact (arrive_reported h reqAnnounce tag _ row (bodyAnnounce_zero (s := s.taken .vehicle 0x50 tag) .vehicle h0) :)
    · exact (arrive_reported h reqAnnounce tag _ row
        (bodyAnnounce_again (s := s.taken .vehicle 0x50 tag) .vehicle hid hx hv) :)
    · exact (arrive_reported h reqAnnounce tag _ row
        (bodyAnnounce_busy (s := s.taken .vehicle 0x50 tag) .vehicle hid hx hv) :)
    · exact (arrive_reported h reqAnnounce tag _ row (bodyAnnounce_notPermitted (s := s.taken .vehicle 0x50 tag) .vehicle
        hid hx (table ▸ admitted_unlisted ht hv)) :)
    · exact answered_replied (arrive_answered h reqAnnounce tag _ row (bodyAnnounce_opens
        (s := s.taken .vehicle 0x50 tag) .vehicle hid hx (table ▸ admitted_fractions hf)) :) rfl
  · have row : reqEndSession.row.refusal .vehicle ([] : List Byte).length s.configured = none :=
      refusal_none rfl rfl (.inl hc)
    refine ⟨fun hx => ?_, fun x hx => ⟨fun hn => ?_, fun c k hcl hk => ⟨fun hs => ?_, fun hs => ?_⟩⟩⟩
    · exact (arrive_reported h reqEndSession tag [] row
        (bodyEndSession_noSession (s := s.taken .vehicle 0x51 tag) .vehicle hx) :)
    · exact answered_replied (arrive_answered h reqEndSession tag [] row
        (bodyEndSession_unclaimed (s := s.taken .vehicle 0x51 tag) .vehicle hx hn) :) rfl
    · exact (arrive_reported h reqEndSession tag [] row
        (bodyEndSession_busy (s := s.taken .vehicle 0x51 tag) .vehicle hx hcl hk hs) :)
    · exact answered_replied (arrive_answered h reqEndSession tag [] row
        (bodyEndSession_lifted (s := s.taken .vehicle 0x51 tag) .vehicle hx hcl hk hs) :) rfl
  · rw [exec_carrierChange h, ← hb, takeCarrier_same]
  · rw [exec_carrierChange h, takeCarrier_present hb]
  · rw [exec_carrierChange h, takeCarrier_absent hb]
  · rw [exec_carrierLoss hp ht, loseCarrier_claim (s := s.advanceTo t) hx hc hk hs]
    rfl
  · rw [exec_carrierLoss hp ht, loseCarrier_noClaim (s := s.advanceTo t) hx hn]
    rfl

end Sys2Proof.Machine
end

section
/-! PROOFS. What attention leaves of the ports (R161): outside the requests and the received bytes a command sets flags at the
ports, and touches nothing else of theirs. -/

namespace Sys2Proof.Machine

/-- The port blocks but for their flags. -/
def Ports.unflagged (ps : Ports) : Ports := ps.map fun b => { b with flags := 0 }

theorem unflagged_get (ps : Ports) (p : Port) : ps.unflagged.get p = { ps.get p with flags := 0 } := by
  cases p <;> rfl

/-- Where the ports differ in their flags alone, so does each of them. -/
theorem port_eq_of_unflagged {s t : State} (h : t.ports.unflagged = s.ports.unflagged) (p : Port) :
    t.port p = { s.port p with flags := (t.port p).flags } := by
  have hp : ({ t.port p with flags := 0 } : PortBlock) = { s.port p with flags := 0 } := by
    rw [State.port, State.port, ← unflagged_get, ← unflagged_get, h]
  exact congrArg (fun b : PortBlock => { b with flags := (t.port p).flags }) hp

@[simp] theorem raise_unflagged (s : State) (a : AttentionKind) : (s.raise a).ports.unflagged = s.ports.unflagged := rfl

@[simp] theorem raiseIf_unflagged (s : State) (b : Bool) (a : AttentionKind) :
    (s.raiseIf b a).ports.unflagged = s.ports.unflagged := by
  unfold State.raiseIf
  split <;> rfl

section
variable (s : State) (c i : Nat)

/-! ## The threshold unit and the journal -/

@[simp] theorem evaluate_unflagged : (s.evaluate c).ports.unflagged = s.ports.unflagged := by
  have due : ∀ k pe, (s.judgeDue c k pe).ports.unflagged = s.ports.unflagged := by
    intro k pe
    rcases judgeDue_cases s c k pe with e | ⟨_, e⟩ | ⟨_, e⟩ <;> rw [e] <;> rfl
  have full : ∀ (t : State) k pe, (t.judgeFull c k pe).ports.unflagged = t.ports.unflagged := by
    intro t k pe
    unfold State.judgeFull
    repeat' split
    all_goals rfl
  unfold State.evaluate
  repeat' split
  · rfl
  · rfl
  · rw [full, due]

@[simp] theorem addVolume_unflagged (n : Nat) : (s.addVolume c n).ports.unflagged = s.ports.unflagged :=
  evaluate_unflagged _ c

@[simp] theorem cleanUp_unflagged : (s.cleanUp c).ports.unflagged = s.ports.unflagged := by
  unfold State.cleanUp
  dsimp only
  repeat' split
  all_goals rfl

@[simp] theorem journalRecord_unflagged (n : Nat) (b : JournalBody) :
    (s.journalRecord n b).ports.unflagged = s.ports.unflagged := by
  unfold State.journalRecord State.makeEntry
  split <;> simp

@[simp] theorem journalDeposit_unflagged (n card : Nat) (h : Option Nat) (b : Bool) :
    (s.journalDeposit n card h b).ports.unflagged = s.ports.unflagged := by
  unfold State.journalDeposit State.makeEntry
  split <;> simp

/-! ## Inlets -/

@[simp] theorem countClosing_unflagged (x : Inlet) (t : Nat) :
    (s.countClosing i x t).ports.unflagged = s.ports.unflagged := by
  unfold State.countClosing State.countDeposit State.countForced
  dsimp only
  repeat' split
  all_goals simp

@[simp] theorem judgeRelease_unflagged : (s.judgeRelease c).ports.unflagged = s.ports.unflagged := by
  unfold State.judgeRelease
  split <;> rfl

@[simp] theorem takeLidOpening_unflagged (t : Nat) : (s.takeLidOpening i t).ports.unflagged = s.ports.unflagged := by
  unfold State.takeLidOpening
  repeat' split
  all_goals simp

@[simp] theorem takeLidClosing_unflagged (t : Nat) : (s.takeLidClosing i t).ports.unflagged = s.ports.unflagged := by
  unfold State.takeLidClosing
  dsimp only
  repeat' split
  all_goals simp

@[simp] theorem takeRead_unflagged (n : Nat) : (s.takeRead i n).ports.unflagged = s.ports.unflagged := by
  have slot : ∀ x, (s.decideSlot i n x).ports.unflagged = s.ports.unflagged := by
    intro x
    unfold State.decideSlot State.postQuery
    repeat' split
    all_goals simp
  unfold State.takeRead
  repeat' split
  all_goals simp [slot]

@[simp] theorem takeHeldLimit_unflagged : (s.takeHeldLimit i).ports.unflagged = s.ports.unflagged := by
  unfold State.takeHeldLimit
  repeat' split
  all_goals rfl

/-! ## The emptying controller and the seats -/

@[simp] theorem endClaim_unflagged (e : LiftEnding) : (s.endClaim c e).ports.unflagged = s.ports.unflagged := rfl

@[simp] theorem finishEmptying_unflagged (after : Option Nat) (v : Bool) (e : LiftEnding) :
    (s.finishEmptying c after v e).ports.unflagged = s.ports.unflagged := by
  unfold State.finishEmptying
  split <;> simp

@[simp] theorem endUnverified_unflagged (e : LiftEnding) : (s.endUnverified c e).ports.unflagged = s.ports.unflagged :=
  finishEmptying_unflagged _ c none false e

@[simp] theorem displace_unflagged : (s.displace c).ports.unflagged = s.ports.unflagged := by
  simp [State.displace]

@[simp] theorem takeSeat_unflagged (b : Bool) : (s.takeSeat c b).ports.unflagged = s.ports.unflagged := by
  unfold State.takeSeat State.takeReseat State.takeUnseat
  repeat' split
  all_goals simp [State.takeLift, State.reseatLifted, State.reseatDisplaced]

@[simp] theorem endWait_unflagged (st : ServiceState) (e : LiftEnding) :
    (s.endWait st e).ports.unflagged = s.ports.unflagged := by
  unfold State.endWait
  split <;> rfl

@[simp] theorem loseCarrier_unflagged : s.loseCarrier.ports.unflagged = s.ports.unflagged := by
  unfold State.loseCarrier
  dsimp only
  repeat' split
  all_goals simp

/-! ## Measurements -/

@[simp] theorem takeTemperature_unflagged (k : Container) (temp : Option (Int × Bool)) :
    (s.takeTemperature c k temp).ports.unflagged = s.ports.unflagged := by
  have hot : ∀ t : State, (t.becomeHot c).ports.unflagged = t.ports.unflagged := by
    intro t
    unfold State.becomeHot
    dsimp only
    split <;> simp
  unfold State.takeTemperature State.temperatureFault State.temperatureValid
  dsimp only
  repeat' split
  all_goals simp [hot]

@[simp] theorem endFailedPair_unflagged : (s.endFailedPair c).ports.unflagged = s.ports.unflagged := by
  unfold State.endFailedPair
  repeat' split
  all_goals simp

@[simp] theorem takeCompletion_unflagged (conv : Conversion) (echo : EchoSignal) :
    (s.takeCompletion conv echo).ports.unflagged = s.ports.unflagged := by
  have result : ∀ (t : State) r, (t.takeResult r echo).ports.unflagged = t.ports.unflagged := by
    intro t r
    unfold State.takeResult State.firstDone State.secondDone State.pairMiss State.pairMismatch State.adoptPair
    dsimp only
    repeat' split
    all_goals simp
  unfold State.takeCompletion
  dsimp only
  repeat' split
  all_goals simp [result]

/-! ## The field lines -/

@[simp] theorem acceptLid_unflagged (b : Bool) : (s.acceptLid i b).ports.unflagged = s.ports.unflagged := by
  unfold State.acceptLid
  dsimp only
  repeat' split
  all_goals simp

@[simp] theorem acceptSeat_unflagged (b : Bool) : (s.acceptSeat c b).ports.unflagged = s.ports.unflagged := by
  unfold State.acceptSeat
  dsimp only
  repeat' split
  all_goals simp

@[simp] theorem acceptStood_unflagged : s.acceptStood.ports.unflagged = s.ports.unflagged := by
  unfold State.acceptStood
  have lids := List.foldlRecOn (motive := fun v : State => v.ports.unflagged = s.ports.unflagged)
    (eachOf s.stoodLid 0 s.inlets) _ rfl fun v hv e _ => (acceptLid_unflagged v e.1 e.2).trans hv
  exact List.foldlRecOn (motive := fun v : State => v.ports.unflagged = s.ports.unflagged) _ _ lids
    fun v hv e _ => (acceptSeat_unflagged v e.1 e.2).trans hv

@[simp] theorem moveLines_unflagged (l : FieldLines) : (s.moveLines l).ports.unflagged = s.ports.unflagged := by
  simp [State.moveLines]

/-! ## Requests that raise attention -/

@[simp] theorem bodyClearHeat_unflagged (p : Port) (ps : List Byte) :
    (bodyClearHeat p ps s).1.ports.unflagged = s.ports.unflagged := by
  unfold bodyClearHeat
  repeat' split
  all_goals rfl

@[simp] theorem bodyEndSession_unflagged (p : Port) (ps : List Byte) :
    (bodyEndSession p ps s).1.ports.unflagged = s.ports.unflagged := by
  unfold bodyEndSession
  repeat' split
  all_goals rfl

@[simp] theorem bodyClaimLift_unflagged (p : Port) (ps : List Byte) :
    (bodyClaimLift p ps s).1.ports.unflagged = s.ports.unflagged := by
  unfold bodyClaimLift
  split
  · rfl
  · exact judgeRelease_unflagged _ _

@[simp] theorem bodyCancelLift_unflagged (p : Port) (ps : List Byte) :
    (bodyCancelLift p ps s).1.ports.unflagged = s.ports.unflagged := by
  unfold bodyCancelLift
  repeat' split
  all_goals rfl

end

end Sys2Proof.Machine
end

section
/-! PROOFS. The port blocks stay sound (R155, R156, R162, R164): what changes a port's receiver, state, count or mask keeps its
block sound, and with it every step: O59. -/

namespace Sys2Proof.Machine

/-! ## Blocks -/

section
variable {b : PortBlock}

/-- A block that receives no frame may stand in any state, with any of its timers and marks. -/
theorem PortBlock.Sound.idle {c : PortBlock} (h : b.Sound) (hr : ∀ got, c.receiver ≠ .receiving got)
    (hd : c.discarded = b.discarded) (hm : c.mask = b.mask) : c.Sound :=
  ⟨fun got hg => absurd hg (hr got), hd ▸ h.discarded, hm ▸ h.mask⟩

/-- A block that discards a frame receives none (R156). -/
theorem PortBlock.Sound.discard {c : PortBlock} {n : Nat} (h : b.Sound) (hr : ∀ got, c.receiver ≠ .receiving got)
    (hd : c.discarded = saturate 255 n) (hm : c.mask = b.mask) : c.Sound :=
  ⟨fun got hg => absurd hg (hr got), hd ▸ Nat.min_le_right _ _, hm ▸ h.mask⟩

/-- What leaves the receiver, the state, the count and the mask leaves a block sound. -/
theorem PortBlock.Sound.congr {c : PortBlock} (h : b.Sound) (hr : c.receiver = b.receiver) (hs : c.state = b.state)
    (hd : c.discarded = b.discarded) (hm : c.mask = b.mask) : c.Sound :=
  ⟨fun got hg => hs.trans (h.receiving got (hr ▸ hg)), hd ▸ h.discarded, hm ▸ h.mask⟩

theorem PortBlock.Sound.restarted (flags : KindSet) (h : b.Sound) : (b.restarted flags).Sound := by
  cases hr : b.receiver with
  | receiving got => exact h.discard (n := b.discarded + 1) nofun (by simp [PortBlock.restarted, hr]) rfl
  | hunting => exact h.idle nofun (by simp [PortBlock.restarted, hr]) rfl
  | skipping => exact h.idle nofun (by simp [PortBlock.restarted, hr]) rfl

theorem PortBlock.Sound.replySent (h : b.Sound) : b.replySent.Sound := by
  unfold PortBlock.replySent
  split
  · exact ⟨fun _ _ => rfl, h.discarded, h.mask⟩
  · exact h
  · exact h

end

/-! ## The three ports -/

section
variable {s t : State} {p : Port}

theorem State.PortsSound.congr (h : s.PortsSound) (ht : t.ports.unflagged = s.ports.unflagged) : t.PortsSound := by
  intro p
  rw [port_eq_of_unflagged ht]
  exact (h p).congr rfl rfl rfl rfl

theorem updPort_port (s : State) (p : Port) (f : PortBlock → PortBlock) : (s.updPort p f).port p = f (s.port p) := by
  cases p <;> rfl

theorem State.PortsSound.updPort {f : PortBlock → PortBlock} (h : s.PortsSound) (hf : (f (s.port p)).Sound) :
    (s.updPort p f).PortsSound := by
  intro q
  by_cases hq : q = p
  · rw [hq, updPort_port]
    exact hf
  · rw [updPort_port_of_ne s f hq]
    exact h q

theorem State.PortsSound.map {f : PortBlock → PortBlock} (h : s.PortsSound) (hf : ∀ b : PortBlock, b.Sound → (f b).Sound)
    (ht : t.ports = s.ports.map f) : t.PortsSound := by
  intro p
  rw [State.port, ht]
  cases p
  · exact hf _ (h .network)
  · exact hf _ (h .vehicle)
  · exact hf _ (h .service)

/-- A port that holds a request or sends a reply receives no frame (R155). -/
theorem State.PortsSound.not_receiving (h : s.PortsSound) (hs : (s.port p).state ≠ .free) (got : List Byte) :
    (s.port p).receiver ≠ .receiving got :=
  fun hg => hs ((h p).receiving got hg)

/-! ## Resets -/

@[simp] theorem reconcileFrom_unflagged (l : FieldLines) (n k : Nat) (s : State) :
    (reconcileFrom l n k s).ports.unflagged = s.ports.unflagged := by
  induction k generalizing n s with
  | zero => rfl
  | succ k ih => rw [reconcileFrom, ih, takeSeat_unflagged]

theorem warmRestart_unflagged (s : State) :
    s.warmRestart.ports.unflagged = s.warmValues.ports.unflagged := by
  simp [State.warmRestart]

/-- After a warm restart every receiver hunts (R160). -/
theorem warmRestart_receiver (s : State) (p : Port) : (s.warmRestart.port p).receiver = .hunting := by
  rw [port_eq_of_unflagged (warmRestart_unflagged s)]
  cases p <;> rfl

theorem warmRestart_portsSound (h : s.PortsSound) : s.warmRestart.PortsSound := by
  have values : s.warmValues.PortsSound := h.map (fun _ hb => hb.restarted _) rfl
  exact values.congr (warmRestart_unflagged s)

theorem configRestart_ports (s : State) (g : StationConfig) :
    (s.configRestart g).ports = s.ports.map fun b => b.restarted (kindSet .restart ||| kindSet .config) := by
  simp [State.configRestart]

theorem configRestart_portsSound (g : StationConfig) (h : s.PortsSound) : (s.configRestart g).PortsSound :=
  h.map (fun _ hb => hb.restarted _) (configRestart_ports s g)

theorem powerOnEnd_portsSound (s : State) (l : FieldLines) (b : Bool) : (s.powerOnEnd l b).PortsSound := by
  refine reset_portsSound.congr ?_
  unfold State.powerOnEnd
  dsimp only
  split
  · rfl
  · simp

/-! ## Replies -/

/-- A reply begins, or a request is held, at a port that receives no frame (R157). -/
theorem State.PortsSound.withState (h : s.PortsSound) (hr : ∀ got, (s.port p).receiver ≠ .receiving got) (st : PortState) :
    (s.updPort p fun b => { b with state := st }).PortsSound :=
  h.updPort ((h p).idle hr rfl rfl)

theorem answerHeld_portsSound {held : PortState} (st : Status) (h : s.PortsSound)
    (hr : held ≠ .free → ∀ got, (s.port p).receiver ≠ .receiving got) : (s.answerHeld p held st).PortsSound := by
  unfold State.answerHeld
  split
  · exact h.withState (hr nofun) _
  · exact h
  · exact h

theorem completeWrite_portsSound (h : s.PortsSound) : s.completeWrite.PortsSound := by
  unfold State.completeWrite
  split
  · exact h
  · dsimp only
    split
    · exact answerHeld_portsSound _ (h.congr rfl) h.not_receiving
    · exact h.congr rfl

theorem endCheck_portsSound (p : Port) (image : Option StationConfig) (h : s.PortsSound) :
    (s.endCheck p image).PortsSound := by
  unfold State.endCheck
  dsimp only
  split
  · exact answerHeld_portsSound _ (h.congr rfl) h.not_receiving
  · split
    · exact answerHeld_portsSound _ (h.congr rfl) h.not_receiving
    · refine answerHeld_portsSound _ (configRestart_portsSound _ (h.congr rfl)) fun _ got => ?_
      rw [State.port, configRestart_ports]
      cases p <;> exact nofun

/-! ## Requests -/

/-- The ports are sound, and port p receives no frame: so it stands while p carries a request out (R155, R157). -/
structure State.PortTakes (s : State) (p : Port) : Prop where
  sound : s.PortsSound
  hunting : (s.port p).receiver = .hunting

theorem State.PortTakes.not_receiving (h : s.PortTakes p) (got : List Byte) : (s.port p).receiver ≠ .receiving got := by
  simp [h.hunting]

theorem State.PortTakes.congr (h : s.PortTakes p) (ht : t.ports.unflagged = s.ports.unflagged) : t.PortTakes p where
  sound := h.sound.congr ht
  hunting := by rw [port_eq_of_unflagged ht, h.hunting]

theorem State.PortTakes.updPort {f : PortBlock → PortBlock} (h : s.PortTakes p) (hf : (f (s.port p)).Sound)
    (hr : (f (s.port p)).receiver = (s.port p).receiver) : (s.updPort p f).PortTakes p where
  sound := h.sound.updPort hf
  hunting := by rw [updPort_port, hr, h.hunting]

/-- A request that touches its port in its flags, its cursors or its timer. -/
theorem State.PortTakes.touch {f : PortBlock → PortBlock} (h : s.PortTakes p)
    (hf : ∀ b, (f b).receiver = b.receiver ∧ (f b).state = b.state ∧ (f b).discarded = b.discarded ∧ (f b).mask = b.mask) :
    (s.updPort p f).PortTakes p := by
  obtain ⟨hr, hs, hd, hm⟩ := hf (s.port p)
  exact h.updPort ((h.sound p).congr hr hs hd hm) hr

theorem State.PortTakes.withState (h : s.PortTakes p) (st : PortState) :
    (s.updPort p fun b => { b with state := st }).PortTakes p :=
  h.updPort ((h.sound p).idle h.not_receiving rfl rfl) rfl

theorem bodyReadStatus_portTakes (ps : List Byte) (h : s.PortTakes p) : (bodyReadStatus p ps s).1.PortTakes p :=
  h.updPort ⟨(h.sound p).receiving, Nat.zero_le _, (h.sound p).mask⟩ rfl

theorem bodyAcknowledgeAttention_portTakes (ps : List Byte) (h : s.PortTakes p) :
    (bodyAcknowledgeAttention p ps s).1.PortTakes p := by
  unfold bodyAcknowledgeAttention
  dsimp only
  split
  · exact h.touch fun _ => ⟨rfl, rfl, rfl, rfl⟩
  · exact h

/-- The HEAT position is not taken into the mask (R164). -/
theorem bodySetAttentionMask_portTakes (ps : List Byte) (h : s.PortTakes p) :
    (bodySetAttentionMask p ps s).1.PortTakes p := by
  unfold bodySetAttentionMask
  dsimp only
  split
  · refine h.updPort ⟨(h.sound p).receiving, (h.sound p).discarded, ?_⟩ rfl
    rw [BitVec.and_assoc, BitVec.and_comm (~~~_), BitVec.and_not_self]
    exact BitVec.and_zero
  · exact h

/-- Seven requests touch their own port, Restart every port, the others at most the flags. -/
theorem body_portTakes (p : Port) (ps : List Byte) : ∀ r ∈ requestIndex, ∀ s : State, s.PortTakes p →
    (r.body p ps s).1.PortTakes p := by
  simp only [requestIndex, List.forall_mem_cons, List.not_mem_nil, false_implies, implies_true, and_true]
  refine ⟨fun _ => bodyReadStatus_portTakes ps, fun _ => bodyAcknowledgeAttention_portTakes ps,
    fun _ => bodySetAttentionMask_portTakes ps, ?_, ?_,
    fun s h => ⟨warmRestart_portsSound h.sound, warmRestart_receiver s p⟩, ?_, ?_, ?_, ?_, ?_, ?_, ?_, ?_, ?_, ?_, ?_, ?_,
    ?_, ?_, ?_, fun s h => h.touch fun _ => ⟨rfl, rfl, rfl, rfl⟩, fun s h => h.touch fun _ => ⟨rfl, rfl, rfl, rfl⟩, ?_, ?_,
    fun s h => h.touch fun _ => ⟨rfl, rfl, rfl, rfl⟩, fun s h => h.touch fun _ => ⟨rfl, rfl, rfl, rfl⟩, ?_, ?_, ?_, ?_, ?_,
    ?_⟩
  all_goals
    refine fun s h => h.congr ?_
    simp

theorem take_portsSound {r : Request} (hr : r ∈ requestIndex) (tag : Byte) (ps : List Byte) (h : s.PortTakes p) :
    (r.take p tag ps s).PortsSound := by
  have held : (s.holdPort p r.row.code tag).PortTakes p := h.withState _
  have carried := body_portTakes p ps r hr _ held
  unfold Request.take answerRequest
  dsimp only
  repeat' split
  · exact (held.withState _).sound
  · exact (carried.withState _).sound
  · exact carried.sound

theorem takeFrame_portsSound (code tag : Byte) (ps : List Byte) (h : s.PortTakes p) :
    (s.takeFrame p code tag ps).PortsSound := by
  unfold State.takeFrame
  split
  · exact take_portsSound (requestOf_mem ‹_›) tag ps h
  · exact ((h.withState _).withState _).sound

/-! ## Received bytes -/

theorem discardFrame_portsSound {r : Receiver} (h : s.PortsSound) (hr : ∀ got, r ≠ .receiving got) :
    (s.discardFrame p r).PortsSound :=
  h.updPort ((h p).discard hr rfl rfl)

theorem startGap_portsSound (p : Port) (h : s.PortsSound) : (s.startGap p).PortsSound :=
  h.updPort ((h p).congr rfl rfl rfl rfl)

/-- A receiver that goes on with a frame is that of a FREE port. -/
theorem setReceiver_portsSound (r : Receiver) (h : s.PortsSound) (hs : (s.port p).state = .free) :
    (s.setReceiver p r).PortsSound :=
  h.updPort ⟨fun _ _ => hs, (h p).discarded, (h p).mask⟩

theorem receiveFurther_portsSound (got : List Byte) (h : s.PortsSound) (hs : (s.port p).state = .free) :
    (s.receiveFurther p got).PortsSound := by
  unfold State.receiveFurther
  repeat' split
  · exact h
  · exact discardFrame_portsSound h nofun
  · exact setReceiver_portsSound _ h hs
  · exact takeFrame_portsSound _ _ _ ⟨setReceiver_portsSound _ h hs, by rw [State.setReceiver, updPort_port]⟩
  · exact discardFrame_portsSound h nofun

/-- One byte, by what the receiver does and what the byte is (R155). -/
theorem receiveByte_portsSound (p : Port) (b : RxByte) (h : s.PortsSound) : (s.receiveByte p b).PortsSound := by
  have gap := startGap_portsSound p h
  have state : ((s.startGap p).port p).state = (s.port p).state := by rw [State.startGap, updPort_port]
  unfold State.receiveByte
  dsimp only
  split
  · exact gap
  · repeat' split
    · next hs => exact setReceiver_portsSound _ gap (state.trans hs)
    · exact discardFrame_portsSound gap nofun
    · exact gap
  · next got hr =>
    split
    · exact discardFrame_portsSound gap nofun
    · exact receiveFurther_portsSound _ gap (state.trans ((h p).receiving got hr))

theorem judgeIdle_portsSound (h : s.PortsSound) : s.judgeIdle.PortsSound := h.congr rfl

theorem receiveRun_portsSound (p : Port) (bs : List RxByte) (h : s.PortsSound) : (s.receiveRun p bs).PortsSound := by
  have events : (s.receiveEvents p bs).PortsSound :=
    List.foldlRecOn bs _ h fun _ ht b _ => judgeIdle_portsSound (receiveByte_portsSound p b ht)
  unfold State.receiveRun
  repeat' split
  · exact h
  · exact events
  · exact h.congr (by simp)

theorem listening_portTakes (h : s.PortsSound) (hl : s.listening p = true) : (s.startGap p).PortTakes p where
  sound := startGap_portsSound p h
  hunting := by
    obtain ⟨_, _, hr, _⟩ := (listening_iff s p).mp hl
    rw [State.startGap, updPort_port, hr]

theorem arrive_portsSound {r : Request} (hr : r ∈ requestIndex) (p : Port) (tag : Byte) (ps : List Byte)
    (h : s.PortsSound) : (r.arrive p tag ps s).PortsSound := by
  unfold Request.arrive
  split
  · next hl => exact take_portsSound hr tag ps (listening_portTakes h hl)
  · exact receiveRun_portsSound p _ h

theorem gapExpires_portsSound (p : Port) (h : s.PortsSound) : (s.gapExpires p).PortsSound := by
  have stopped : (s.updPort p fun b => { b with gap := none }).PortsSound := h.updPort ((h p).congr rfl rfl rfl rfl)
  unfold State.gapExpires
  split
  · exact stopped
  · exact discardFrame_portsSound stopped nofun
  · exact h.updPort ((h p).idle nofun rfl rfl)

/-! ## The wake controller (R183 to R186) -/

theorem takeCause_portsSound (hc : HeldCause) (h : s.PortsSound) : (s.takeCause hc).PortsSound := by
  cases hc with
  | restart => exact warmRestart_portsSound h
  | receive p => exact h.updPort ((h p).discard nofun rfl rfl)
  | lid i b t => cases b <;> exact h.congr (by simp [State.takeCause])
  | _ => exact h.congr (by simp [State.takeCause])

theorem takeCauses_portsSound (n : Nat) (o : List Nat) (hs : List HeldCause) (h : s.PortsSound) :
    (takeCauses n o hs s).PortsSound := by
  induction n generalizing o hs s with
  | zero => exact h
  | succ n ih =>
    unfold takeCauses
    split
    · exact h
    · exact ih _ _ (takeCause_portsSound _ h)

theorem arbitrate_portsSound (h : s.PortsSound) : s.arbitrate.PortsSound := h.congr (by simp)

/-- Every receiver hunts as the part becomes AWAKE (R184). -/
theorem awaken_portsSound (o : List Nat) (h : s.PortsSound) : (s.awaken o).PortsSound :=
  arbitrate_portsSound (takeCauses_portsSound _ _ _
    (h.map (f := fun b => { b with receiver := .hunting, gap := none }) (fun _ hb => hb.idle nofun rfl rfl) rfl))

/-! ## Commands and steps -/

theorem whenRunning_portsSound {f : State → State} (h : s.PortsSound) (ht : whenRunning s f = .next t)
    (hf : (f s).PortsSound) : t.PortsSound := by
  rcases whenRunning_cases s t f ht with ⟨_, rfl⟩ | ⟨_, rfl⟩
  · exact h
  · exact judgeIdle_portsSound hf

/-- Every command keeps the ports sound: by what it does at the ports. -/
theorem exec_portsSound {c : Instr} (h : s.PortsSound) (ht : exec c s = .next t) : t.PortsSound := by
  unfold exec at ht
  have lines : ∀ l, (s.moveLines l).PortsSound := fun l => h.congr (moveLines_unflagged s l)
  cases c with
  -- the resets and the waking, which make every port's block anew
  | powerOnReset | powerLoss =>
    cases ht
    exact reset_portsSound.congr rfl
  | powerOnResetEnd l b =>
    simp only [execPowerOnResetEnd] at ht
    split at ht <;> cases ht
    · exact judgeIdle_portsSound (powerOnEnd_portsSound s l b)
    · exact h
  | resetLineAssertion l =>
    refine whenRunning_portsSound h ht ?_
    split
    · exact warmRestart_portsSound (lines l)
    · exact (lines l).congr (by simp)
  | idleTimerExpiry =>
    refine whenRunning_portsSound h ht ?_
    split
    · exact h.map (f := fun b => { b with gap := none }) (fun _ hb => hb.congr rfl rfl rfl rfl) rfl
    · exact h
  | wakeSettlingEnd l o =>
    refine whenRunning_portsSound h ht ?_
    split
    · exact awaken_portsSound o (h.congr (by simp))
    · exact h
  -- requests, bytes, and the ports' own events
  | readStatus p tag ps | acknowledgeAttention p tag ps | setAttentionMask p tag ps | readClock p tag ps
  | setClock p tag ps | writeImageBlock p tag ps | applyConfiguration p tag ps | readContainer p tag ps
  | suspendContainer p tag ps | resumeContainer p tag ps | measureNow p tag ps | readDueList p tag ps
  | clearHeat p tag ps | readInlet p tag ps | openInlet p tag ps | putCard p tag ps | removeCard p tag ps
  | blockCard p tag ps | clearCardTable p tag ps | markTableLoaded p tag ps | readCards p tag ps
  | rewindCardCursor p tag ps | readQueries p tag ps | answerCard p tag ps | readJournal p tag ps
  | rewindJournalCursor p tag ps | releaseJournal p tag ps | announce p tag ps | endSession p tag ps
  | claimLift p tag ps | cancelLift p tag ps | readLift p tag ps =>
    exact whenRunning_portsSound h ht (arrive_portsSound (by simp [requestIndex]) p tag ps h)
  | restart p tag ps l =>
    exact whenRunning_portsSound h ht (arrive_portsSound (by simp [requestIndex]) p tag ps (lines l))
  | badFrame p bs => exact whenRunning_portsSound h ht (receiveRun_portsSound p bs h)
  | unknownRequestCode p code tag ps =>
    refine whenRunning_portsSound h ht ?_
    split
    · next hl => exact takeFrame_portsSound code tag ps (listening_portTakes h hl)
    · exact receiveRun_portsSound p _ h
  | replySent p => exact whenRunning_portsSound h ht (h.updPort (h p).replySent)
  | gapTimerExpiry p =>
    refine whenRunning_portsSound h ht ?_
    split
    · exact gapExpires_portsSound p (h.congr rfl)
    · exact h
  -- completions that a port may wait for
  | writeCompletion => exact whenRunning_portsSound h ht (completeWrite_portsSound h)
  | applyCheckCompletion l =>
    refine whenRunning_portsSound h ht ?_
    split
    · exact h
    · exact endCheck_portsSound _ _ ((lines l).congr rfl)
  -- the other events, which raise attention at most
  | cardRead | lidOpening | lidClosing | unseat | reseat | dueEvent | lidOpenLimitExpiry | carrierChange
  | receiveActivityInDoze | queryWaitExpiry | windowExpiry | serviceTimerExpiry | spacingExpiry | lidWaitExpiry
  | releaseWaitExpiry | carrierLoss | wakeTimerExpiry | clockCount | measurementCompletion | writerIdleExpiry =>
    refine whenRunning_portsSound h ht (h.congr ?_)
    repeat' split
    all_goals simp [State.takeLimit]

end

/-- Settles O59: a step is a command, an event that has come, or a millisecond that passes. -/
theorem stepKeepsPortsSound : Obligations.StepKeepsPortsSound := by
  intro s t h ht
  unfold step at ht
  split at ht
  · next c rest _ => exact exec_portsSound (s := { s with pending := rest }) (h.congr rfl) ht
  · split at ht
    · exact exec_portsSound h ht
    · cases ht
      exact h.congr (by simp)

end Sys2Proof.Machine
end

section
/-! PROOFS. Frames (R153, R154): sums of bytes, and a frame's parts read back from it: O13, O15. -/

namespace Sys2Proof.Machine

/-! ## Sums of bytes (R154) -/

theorem foldl_add_bytes (bs : List Byte) (a : Byte) : bs.foldl (· + ·) a = a + byteSum bs := by
  induction bs generalizing a with
  | nil => simp [byteSum]
  | cons b bs ih => rw [byteSum, List.foldl_cons, List.foldl_cons, ih, ih (0 + b), zero_add, add_assoc]

theorem byteSum_cons (b : Byte) (bs : List Byte) : byteSum (b :: bs) = b + byteSum bs := by
  rw [byteSum, List.foldl_cons, foldl_add_bytes, zero_add]

theorem byteSum_snoc (bs : List Byte) (b : Byte) : byteSum (bs ++ [b]) = byteSum bs + b := by
  rw [byteSum, List.foldl_append]
  rfl

/-- The sum as a byte is the sum of the bytes' numbers, modulo 256. -/
theorem byteSum_toNat (bs : List Byte) : (byteSum bs).toNat = (bs.map BitVec.toNat).sum % 256 := by
  induction bs with
  | nil => rfl
  | cons b bs ih => rw [byteSum_cons, BitVec.toNat_add, ih, List.map_cons, List.sum_cons, Nat.add_mod_mod]

/-- With its check byte a run of bytes sums to a multiple of 256. -/
theorem byteSum_check (bs : List Byte) : byteSum (bs ++ [checkByte bs]) = 0 := by
  rw [byteSum_snoc, checkByte, add_sub_cancel]

theorem sum_check (bs : List Byte) : ((bs ++ [checkByte bs]).map BitVec.toNat).sum % 256 = 0 := by
  rw [← byteSum_toNat, byteSum_check]
  rfl

/-! ## A frame's parts (R153) -/

/-- A complete run of bytes with a right sum carries the request that it spells. -/
theorem requestOfBody_right {len code tag b : Byte} {ps : List Byte} (h2 : 2 ≤ len.toNat) (h248 : len.toNat ≤ 248)
    (hl : ps.length + 2 = len.toNat) (hs : byteSum (len :: code :: tag :: (ps ++ [b])) = 0) :
    requestOfBody (len :: code :: tag :: (ps ++ [b])) = some (code, tag, ps) := by
  rw [requestOfBody, if_pos ⟨h2, h248, by simpa using hl, hs⟩, List.dropLast_concat]

/-- A run of bytes with a wrong sum carries no request. -/
theorem requestOfBody_wrong {bs : List Byte} (hs : byteSum bs ≠ 0) : requestOfBody bs = none := by
  unfold requestOfBody
  split
  · exact if_neg fun ⟨_, _, _, h⟩ => hs h
  · rfl

theorem length_byte {n : Nat} (h : n ≤ 255) : (BitVec.ofNat 8 n).toNat = n := by
  rw [BitVec.toNat_ofNat]
  omega

theorem requestOfBody_requestBody (code tag : Byte) {ps : List Byte} (h : ps.length ≤ 246) :
    requestOfBody (requestBody code tag ps ++ [checkByte (requestBody code tag ps)]) = some (code, tag, ps) := by
  have hl : (BitVec.ofNat 8 (ps.length + 2)).toNat = ps.length + 2 := length_byte (by omega)
  exact requestOfBody_right (by omega) (by omega) hl.symm (byteSum_check (requestBody code tag ps))

/-- Settles O13: the check byte makes the sum right, and the length byte counts the parts. -/
theorem requestFrameRoundTrip : Obligations.RequestFrameRoundTrip := by
  intro code tag ps h
  rw [requestFrame, parseRequestFrame, if_pos rfl, requestOfBody_requestBody code tag h]

/-- Settles O15: each kind of frame is its start byte, its body and the body's check byte. -/
theorem frameCheckSums : Obligations.FrameCheckSums := by
  refine ⟨⟨fun code tag ps => ⟨sum_check (requestBody code tag ps), rfl, ?_, fun h => ?_, ?_⟩,
    fun code tag st pl => ⟨sum_check (replyBody code tag st pl), rfl, ?_, fun h => ?_, ?_⟩⟩, by decide⟩
  · simp [requestFrame, requestBody]
  · exact congrArg some (length_byte (by omega))
  · simp [requestFrame, requestBody]
  · simp [replyFrame, replyBody]
  · exact congrArg some (length_byte (by omega))
  · simp [replyFrame, replyBody]

end Sys2Proof.Machine
end

section
/-! PROOFS. The receiver (R155, R156): one lemma for each row of its table, and runs of bytes: O14, O18, O19. -/

namespace Sys2Proof.Machine

/-! ## The judgement of the idle conditions (R182) -/

/-- The idle conditions are the same before and after their judgement, and the timer stands as they leave it. -/
theorem judgeIdle_judgeIdle (s : State) : s.judgeIdle.judgeIdle = s.judgeIdle := by
  have again : s.judgeIdle.nextIdleTimer = s.nextIdleTimer := by
    have cond : (s.judgeIdle.attends = true ∧ s.judgeIdle.idle = true) = (s.attends = true ∧ s.idle = true) := rfl
    unfold State.nextIdleTimer
    by_cases h : s.attends = true ∧ s.idle = true
    · rw [if_pos (cond ▸ h), if_pos h]
      cases ht : s.wake.idleTimer <;> simp [State.judgeIdle, State.nextIdleTimer, h, ht]
    · rw [if_neg (cond ▸ h), if_neg h]
  rw [State.judgeIdle, again]
  rfl

/-- A port that is in the middle of a frame, or that holds a request or sends a reply, stops the idle timer (R182). -/
theorem judgeIdle_busyPort {s : State} {p : Port} (h : (s.port p).quiet = false) :
    s.judgeIdle = { s with wake := { s.wake with idleTimer := none } } := by
  have idle : ¬ s.idle = true := by
    intro hi
    simp only [State.idle, Bool.and_eq_true] at hi
    obtain ⟨⟨⟨⟨_, hn⟩, hv⟩, hs⟩, _⟩ := hi
    cases p
    · exact Bool.false_ne_true (h.symm.trans hn)
    · exact Bool.false_ne_true (h.symm.trans hv)
    · exact Bool.false_ne_true (h.symm.trans hs)
  have timer : s.nextIdleTimer = none := if_neg fun ⟨_, hi⟩ => idle hi
  rw [State.judgeIdle, timer]

/-! ## What a byte does to its port (R155) -/

/-- A byte has come at port p, and the receiver stands at r. -/
def State.heard (s : State) (p : Port) (r : Receiver) : State :=
  s.updPort p fun b => { b with receiver := r, gap := some (s.now + 20) }

/-- A byte has come at port p, its frame is discarded and counted (R156), and the receiver stands at r. -/
def State.discarded (s : State) (p : Port) (r : Receiver) : State :=
  s.updPort p fun b => { b with receiver := r, gap := some (s.now + 20), discarded := min (b.discarded + 1) 255 }

theorem setReceiver_startGap (s : State) (p : Port) (r : Receiver) : (s.startGap p).setReceiver p r = s.heard p r :=
  updPort_updPort s p _ _

theorem discardFrame_startGap (s : State) (p : Port) (r : Receiver) : (s.startGap p).discardFrame p r = s.discarded p r :=
  updPort_updPort s p _ _

/-- What a change of one port makes of that port's block is all there is to it. -/
theorem updPort_congr {s : State} {p : Port} {f g : PortBlock → PortBlock} (h : f (s.port p) = g (s.port p)) :
    s.updPort p f = s.updPort p g := by
  unfold State.updPort
  cases p <;> simp_all [Ports.upd, State.port, Ports.get]

theorem startGap_eq_heard (s : State) (p : Port) : s.startGap p = s.heard p (s.port p).receiver := updPort_congr rfl

theorem heard_receiver (s : State) (p : Port) (r : Receiver) : ((s.heard p r).port p).receiver = r := by
  rw [State.heard, updPort_port]

theorem heard_heard (s : State) (p : Port) (r q : Receiver) : (s.heard p r).heard p q = s.heard p q :=
  updPort_updPort s p _ _

theorem heard_discarded (s : State) (p : Port) (r q : Receiver) : (s.heard p r).discarded p q = s.discarded p q :=
  updPort_updPort s p _ _

theorem discarded_heard (s : State) (p : Port) (r : Receiver) : (s.discarded p r).heard p r = s.discarded p r :=
  updPort_updPort s p _ _

/-! ## The rows of R155 for a received byte -/

/-- A byte that a receiver passes over: any one in SKIPPING, one that is no start byte in HUNTING. -/
def Receiver.passesOver : Receiver → RxByte → Prop
  | .skipping, _ => True
  | .hunting, b => b.framingError = true ∨ b.val ≠ 0xA5
  | .receiving _, _ => False

section
variable {s : State} {p : Port}

theorem receiveByte_passedOver {b : RxByte} (h : (s.port p).receiver.passesOver b) : s.receiveByte p b = s.startGap p := by
  cases hr : (s.port p).receiver with
  | skipping => simp only [State.receiveByte, hr]
  | hunting =>
    have hb : ¬ (b.framingError = false ∧ b.val = 0xA5) := by
      rw [hr] at h
      exact fun ⟨hf, hv⟩ => h.elim (by simp [hf]) fun hn => hn hv
    simp only [State.receiveByte, hr, if_neg hb]
  | receiving got =>
    rw [hr] at h
    exact h.elim

theorem receiveByte_start (hr : (s.port p).receiver = .hunting) (hs : (s.port p).state = .free) :
    s.receiveByte p ⟨0xA5, false⟩ = s.heard p (.receiving []) := by
  rw [← setReceiver_startGap]
  simp [State.receiveByte, hr, hs]

theorem receiveByte_start_busy (hr : (s.port p).receiver = .hunting) (hs : (s.port p).state ≠ .free) :
    s.receiveByte p ⟨0xA5, false⟩ = s.discarded p .skipping := by
  rw [← discardFrame_startGap]
  simp [State.receiveByte, hr, hs]

theorem receiveByte_framingError {got : List Byte} (hr : (s.port p).receiver = .receiving got) (b : Byte) :
    s.receiveByte p ⟨b, true⟩ = s.discarded p .skipping := by
  rw [← discardFrame_startGap]
  simp [State.receiveByte, hr]

theorem receiveByte_further {got : List Byte} (hr : (s.port p).receiver = .receiving got) (b : Byte) :
    s.receiveByte p ⟨b, false⟩ = (s.startGap p).receiveFurther p (got ++ [b]) := by
  simp [State.receiveByte, hr]

theorem receiveByte_badLength {len : Byte} (hr : (s.port p).receiver = .receiving []) (hl : len.toNat < 2 ∨ 248 < len.toNat) :
    s.receiveByte p ⟨len, false⟩ = s.discarded p .skipping := by
  rw [receiveByte_further hr, List.nil_append, State.receiveFurther, if_pos hl, discardFrame_startGap]

section
variable {len : Byte} (h2 : 2 ≤ len.toNat) (h248 : len.toNat ≤ 248)
include h2 h248

/-- A length byte in range, or a further byte before the check byte, is kept. -/
theorem receiveByte_kept {got rest : List Byte} {b : Byte} (hr : (s.port p).receiver = .receiving got)
    (hg : got ++ [b] = len :: rest) (hl : rest.length ≤ len.toNat) :
    s.receiveByte p ⟨b, false⟩ = s.heard p (.receiving (len :: rest)) := by
  rw [receiveByte_further hr, hg, State.receiveFurther, if_neg (by omega), if_pos hl, setReceiver_startGap]

/-- The check byte ends the frame. -/
theorem receiveByte_check {got : List Byte} (hr : (s.port p).receiver = .receiving (len :: got)) (hl : got.length = len.toNat)
    (b : Byte) :
    (∀ code tag ps, requestOfBody (len :: (got ++ [b])) = some (code, tag, ps) →
      s.receiveByte p ⟨b, false⟩ = (s.heard p .hunting).takeFrame p code tag ps) ∧
    (requestOfBody (len :: (got ++ [b])) = none → s.receiveByte p ⟨b, false⟩ = s.discarded p .hunting) := by
  have past : ¬ (got ++ [b]).length ≤ len.toNat := by
    rw [List.length_append, List.length_singleton]
    omega
  rw [receiveByte_further hr, List.cons_append, State.receiveFurther, if_neg (by omega), if_neg past,
    ← setReceiver_startGap, ← discardFrame_startGap]
  exact ⟨fun code tag ps hq => by simp only [hq], fun hq => by simp only [hq]⟩

theorem receiveByte_wrongCheck {got : List Byte} {b : Byte} (hr : (s.port p).receiver = .receiving (len :: got))
    (hl : got.length = len.toNat) (hs : byteSum (len :: got) + b ≠ 0) :
    s.receiveByte p ⟨b, false⟩ = s.discarded p .hunting :=
  (receiveByte_check h2 h248 hr hl b).2 (requestOfBody_wrong (by rwa [← List.cons_append, byteSum_snoc]))

theorem receiveByte_rightCheck {code tag b : Byte} {ps : List Byte}
    (hr : (s.port p).receiver = .receiving (len :: code :: tag :: ps)) (hl : ps.length + 2 = len.toNat)
    (hs : byteSum (len :: code :: tag :: ps) + b = 0) :
    s.receiveByte p ⟨b, false⟩ = (s.heard p .hunting).takeFrame p code tag ps :=
  (receiveByte_check h2 h248 hr hl b).1 code tag ps (requestOfBody_right h2 h248 hl (by rwa [← byteSum_snoc] at hs))

/-! ## A whole frame at a listening port -/

/-- The bytes after the length byte are kept one after another, where what follows each byte, j, does not move a port in the
middle of its frame. -/
theorem foldl_kept {j : State → State} (hj : ∀ got, j (s.heard p (.receiving got)) = s.heard p (.receiving got))
    (bs : List Byte) {got : List Byte} (hl : got.length + bs.length ≤ len.toNat) :
    (bs.map fun b => (⟨b, false⟩ : RxByte)).foldl (fun t b => j (t.receiveByte p b)) (s.heard p (.receiving (len :: got))) =
      s.heard p (.receiving (len :: (got ++ bs))) := by
  induction bs generalizing got with
  | nil => rw [List.append_nil]; rfl
  | cons b bs ih =>
    rw [List.length_cons] at hl
    have kept : (s.heard p (.receiving (len :: got))).receiveByte p ⟨b, false⟩ =
        s.heard p (.receiving (len :: (got ++ [b]))) := by
      rw [receiveByte_kept h2 h248 (rest := got ++ [b]) (heard_receiver _ _ _) rfl (by simp; omega), heard_heard]
    rw [List.map_cons, List.foldl_cons, kept, hj, ih (by simp; omega), List.append_assoc, List.singleton_append]

/-- A frame up to its check byte stands in the receiver. -/
theorem foldl_frame {j : State → State} {u : State} (h : s.listening p = true)
    (h0 : j (s.heard p (.receiving [])) = u.heard p (.receiving []))
    (hj : ∀ got, j (u.heard p (.receiving got)) = u.heard p (.receiving got)) {body : List Byte}
    (hl : body.length = len.toNat) (check : Byte) :
    ((0xA5 :: len :: (body ++ [check])).map fun b => (⟨b, false⟩ : RxByte)).foldl (fun t b => j (t.receiveByte p b)) s =
      j ((u.heard p (.receiving (len :: body))).receiveByte p ⟨check, false⟩) := by
  obtain ⟨_, _, hr, hs⟩ := (listening_iff s p).mp h
  have length : (u.heard p (.receiving [])).receiveByte p ⟨len, false⟩ = u.heard p (.receiving [len]) := by
    rw [receiveByte_kept h2 h248 (heard_receiver _ _ _) rfl (Nat.zero_le _), heard_heard]
  rw [List.map_cons, List.map_cons, List.map_append, List.foldl_cons, List.foldl_cons, List.foldl_append,
    receiveByte_start hr hs, h0, length, hj, foldl_kept h2 h248 hj body (by simp [hl])]
  rfl

end

end

/-- Settles O14: the frame stands in the receiver up to its check byte, which is right. -/
theorem receiverTakesGoodFrame : Obligations.ReceiverTakesGoodFrame := by
  intro s p code tag ps h hps
  obtain ⟨_, _, hr, _⟩ := (listening_iff s p).mp h
  have hl : (BitVec.ofNat 8 (ps.length + 2)).toNat = ps.length + 2 := length_byte (by omega)
  have taken := receiveByte_rightCheck (s := s.heard p (.receiving (requestBody code tag ps))) (by omega) (by omega)
    (heard_receiver _ _ _) hl.symm (add_sub_cancel _ _ : byteSum (requestBody code tag ps) + checkByte _ = 0)
  rw [heard_heard, ← hr, ← startGap_eq_heard] at taken
  exact (foldl_frame (j := id) (body := code :: tag :: ps) (by omega) (by omega) h rfl (fun _ => rfl) hl.symm _).trans taken

end Sys2Proof.Machine
end

section
/-! PROOFS. Runs of received bytes, each an event at whose end the idle conditions are judged (R155, R156, R182), and the gap
timer and the end of a reply (R155, R157): O18, O19. -/

namespace Sys2Proof.Machine

/-! ## Runs of bytes -/

section
variable {s : State} {p : Port}

/-- Bytes that the receiver passes over leave a state that such a byte has already left. -/
theorem receiveEvents_passedOver {r : Receiver} (hr : (s.port p).receiver = r) (hs : s.heard p r = s) (hj : s.judgeIdle = s)
    {bs : List RxByte} (hb : ∀ b ∈ bs, r.passesOver b) : s.receiveEvents p bs = s := by
  refine List.foldlRecOn (motive := fun v => v = s) bs _ rfl fun v hv b hm => ?_
  have byte : s.receiveByte p b = s := by
    rw [receiveByte_passedOver (by rw [hr]; exact hb b hm), startGap_eq_heard, hr, hs]
  rw [hv, byte, hj]

/-- The first byte of a run, where the receiver that it leaves passes over the rest. -/
theorem receiveEvents_first {t : State} {r : Receiver} {b : RxByte} {bs : List RxByte} (ht : s.receiveByte p b = t)
    (hr : (t.port p).receiver = r) (hh : t.heard p r = t) (hb : ∀ b ∈ bs, r.passesOver b) :
    s.receiveEvents p (b :: bs) = t.judgeIdle := by
  have first : s.receiveEvents p (b :: bs) = t.judgeIdle.receiveEvents p bs := by
    rw [← ht]
    rfl
  have judged : t.judgeIdle.heard p r = t.judgeIdle := by
    have hports : t.judgeIdle.heard p r = { t.heard p r with wake := t.judgeIdle.wake } := rfl
    rw [hports, hh]
    rfl
  rw [first]
  exact receiveEvents_passedOver (s := t.judgeIdle) hr judged (judgeIdle_judgeIdle t) hb

/-- A discarded frame may leave the receiver as it stood. -/
theorem discarded_hunting (hr : (s.port p).receiver = .hunting) : s.discarded p .hunting = s.updPort p fun b =>
    { b with gap := some (s.now + 20), discarded := min (b.discarded + 1) 255 } := by
  rw [← hr]
  exact updPort_congr rfl

theorem receiveEvents_discarded {b : RxByte} {bs : List RxByte} (hb : s.receiveByte p b = s.discarded p .skipping) :
    s.receiveEvents p (b :: bs) = (s.discarded p .skipping).judgeIdle :=
  receiveEvents_first hb (by rw [State.discarded, updPort_port]) (discarded_heard s p .skipping) fun _ _ => trivial

/-- The receiver of a port in the middle of a frame, or past a discarded one, stops the idle timer. -/
theorem judgeIdle_heard {r : Receiver} (hr : r ≠ .hunting) :
    (s.heard p r).judgeIdle = ({ s with wake := { s.wake with idleTimer := none } } : State).heard p r :=
  judgeIdle_busyPort (p := p) (by simp [PortBlock.quiet, heard_receiver, hr])

theorem judgeIdle_discarded {r : Receiver} (hr : r ≠ .hunting) :
    (s.discarded p r).judgeIdle = ({ s with wake := { s.wake with idleTimer := none } } : State).discarded p r :=
  judgeIdle_busyPort (p := p) (by simp [PortBlock.quiet, State.discarded, updPort_port, hr])

/-! ## The command (R155) -/

theorem exec_badFrame {bs : List RxByte} (h : s.attends = true) (hb : bs ≠ []) :
    exec (.badFrame p bs) s = .next (s.receiveEvents p bs).judgeIdle := by
  obtain ⟨hp, hw⟩ := attends_running h
  have run : s.receiveRun p bs = s.receiveEvents p bs := by simp [State.receiveRun, hp, hw, hb]
  have he : exec (.badFrame p bs) s = execBadFrame p bs s := rfl
  rw [he, execBadFrame, whenRunning_running hp, run]

/-- A run of bytes whose last event left the state t. -/
theorem exec_badFrame_events {t : State} {bs : List RxByte} (h : s.attends = true) (hb : bs ≠ [])
    (ht : s.receiveEvents p bs = t.judgeIdle) : exec (.badFrame p bs) s = .next t.judgeIdle := by
  rw [exec_badFrame h hb, ht, judgeIdle_judgeIdle]

theorem exec_badFrame_byte {t : State} {b : RxByte} (h : s.attends = true) (ht : s.receiveByte p b = t) :
    exec (.badFrame p [b]) s = .next t.judgeIdle :=
  exec_badFrame_events h (List.cons_ne_nil _ _) (by rw [← ht]; rfl)

theorem exec_badFrame_passedOver {bs : List RxByte} (h : s.attends = true) (hb : bs ≠ [])
    (hr : ∀ b ∈ bs, (s.port p).receiver.passesOver b) :
    exec (.badFrame p bs) s = .next (s.heard p (s.port p).receiver).judgeIdle := by
  obtain ⟨b, bs, rfl⟩ := List.exists_cons_of_ne_nil hb
  have first : s.receiveByte p b = s.heard p (s.port p).receiver := by
    rw [receiveByte_passedOver (hr b List.mem_cons_self), startGap_eq_heard]
  exact exec_badFrame_events h hb (receiveEvents_first first (heard_receiver _ _ _) (heard_heard _ _ _ _)
    fun c hc => hr c (List.mem_cons_of_mem b hc))

/-- A run whose first byte has its frame discarded: the rest goes by in SKIPPING. -/
theorem exec_badFrame_discarded {b : RxByte} {bs : List RxByte} (h : s.attends = true)
    (hb : s.receiveByte p b = s.discarded p .skipping) :
    exec (.badFrame p (b :: bs)) s = .next (s.discarded p .skipping).judgeIdle :=
  exec_badFrame_events h (List.cons_ne_nil _ _) (receiveEvents_discarded hb)

/-! ## Bad frames at a listening port -/

section
variable (h : s.listening p = true)
include h

theorem listening_attends : s.attends = true := by
  obtain ⟨hp, hw, _, _⟩ := (listening_iff s p).mp h
  simp [State.attends, hp, hw]

/-- A frame of a wrong check sum: the idle timer stops at its start byte (R182), and the frame is discarded at its check
byte. -/
theorem exec_badFrame_wrongCheck {body : List Byte} {check : Byte} (h2 : 2 ≤ body.length) (h248 : body.length ≤ 248)
    (hs : byteSum (BitVec.ofNat 8 body.length :: body) + check ≠ 0) :
    exec (.badFrame p ((0xA5 :: BitVec.ofNat 8 body.length :: (body ++ [check])).map fun b => ⟨b, false⟩)) s =
      .next ((({ s with wake := { s.wake with idleTimer := none } } : State).updPort p fun b =>
        { b with gap := some (s.now + 20), discarded := min (b.discarded + 1) 255 }).judgeIdle) := by
  have hl : (BitVec.ofNat 8 body.length).toNat = body.length := length_byte (by omega)
  obtain ⟨_, _, hr, _⟩ := (listening_iff s p).mp h
  refine exec_badFrame_events (listening_attends h) (List.cons_ne_nil _ _) ?_
  refine (foldl_frame (by omega) (by omega) h (judgeIdle_heard nofun) (fun _ => judgeIdle_heard nofun) hl.symm check).trans ?_
  rw [receiveByte_wrongCheck (by omega) (by omega) (heard_receiver _ _ _) hl.symm hs, heard_discarded, discarded_hunting]
  exact hr

/-- A frame of a length byte out of range is discarded there, and the rest goes by. -/
theorem exec_badFrame_badLength {len : Byte} (hl : len.toNat < 2 ∨ 248 < len.toNat) (rest : List RxByte) :
    exec (.badFrame p (⟨0xA5, false⟩ :: ⟨len, false⟩ :: rest)) s = .next (s.discarded p .skipping).judgeIdle := by
  obtain ⟨_, _, hr, hs⟩ := (listening_iff s p).mp h
  refine exec_badFrame_events (listening_attends h) (List.cons_ne_nil _ _) ?_
  have start : s.receiveEvents p (⟨0xA5, false⟩ :: ⟨len, false⟩ :: rest) =
      (s.heard p (.receiving [])).judgeIdle.receiveEvents p (⟨len, false⟩ :: rest) := by
    rw [← receiveByte_start hr hs]
    rfl
  rw [start, judgeIdle_heard (r := .receiving []) nofun,
    receiveEvents_discarded (receiveByte_badLength (heard_receiver _ _ _) hl), heard_discarded,
    judgeIdle_discarded (r := .skipping) nofun, judgeIdle_discarded (r := .skipping) nofun]

end

end

/-- Settles O18: three bad runs at a listening port, and R155's table row by row. -/
theorem badFrameIsDiscarded : Obligations.BadFrameIsDiscarded := by
  refine ⟨fun s p h => ⟨fun body check h2 h248 hs => exec_badFrame_wrongCheck h h2 h248 hs,
    fun len rest hl => exec_badFrame_badLength h hl rest, fun b hb => ?_⟩, fun s p h => ?_⟩
  · obtain ⟨_, _, hr, _⟩ := (listening_iff s p).mp h
    exact exec_badFrame_byte (listening_attends h) (receiveByte_passedOver (by rw [hr]; exact hb))
  · dsimp only
    refine ⟨fun bs hb hr => ?_, fun hr hs => ?_, fun len hr h2 h248 => ?_, fun len b got hr h2 h248 hl => ?_,
      fun len b got hr h2 h248 hl => ⟨fun hs => ?_, fun hs code tag ps hg => ?_⟩, fun len hr hl => ?_, fun rest hr hs => ?_,
      fun got b hr => ?_⟩
    · refine exec_badFrame_passedOver h hb fun b hm => ?_
      rcases hr with hr | ⟨hr, hn⟩ <;> rw [hr]
      · trivial
      · exact hn b hm
    · exact exec_badFrame_byte h (receiveByte_start hr hs)
    · exact exec_badFrame_byte h (receiveByte_kept h2 h248 hr rfl (Nat.zero_le _))
    · exact exec_badFrame_byte h (receiveByte_kept h2 h248 (rest := got ++ [b]) hr rfl (by simpa using hl))
    · exact exec_badFrame_byte h (receiveByte_wrongCheck h2 h248 hr hl hs)
    · subst hg
      exact exec_badFrame_byte h (receiveByte_rightCheck h2 h248 hr hl hs)
    · exact exec_badFrame_byte h (receiveByte_badLength hr hl)
    · exact exec_badFrame_discarded h (receiveByte_start_busy hr hs)
    · exact exec_badFrame_byte h (receiveByte_framingError hr b)

/-! ## The gap timer and the end of a reply -/

/-- What the gap timer's expiry does, by the receiver (R155, R156). -/
theorem gapExpires_eq (s : State) (p : Port) : s.gapExpires p = s.updPort p fun b => { b with
    receiver := .hunting, gap := none
    discarded := match b.receiver with
      | .receiving _ => min (b.discarded + 1) 255
      | .hunting | .skipping => b.discarded } := by
  unfold State.gapExpires
  split
  · next hr =>
    apply updPort_congr
    simp only [hr]
  · next hr =>
    rw [State.discardFrame, updPort_updPort]
    apply updPort_congr
    simp only [Function.comp, hr, saturate]
  · next hr =>
    apply updPort_congr
    simp only [hr]

theorem replySent_replying {b : PortBlock} {f : List Byte} (h : b.state = .replying f) :
    b.replySent = { b with state := .free } := by
  simp only [PortBlock.replySent, h]

theorem replySent_silent {b : PortBlock} (h : ∀ f, b.state ≠ .replying f) : b.replySent = b := by
  unfold PortBlock.replySent
  split
  · next f hf => exact absurd hf (h f)
  · rfl
  · rfl

theorem updPort_self {s : State} {p : Port} {f : PortBlock → PortBlock} (h : f (s.port p) = s.port p) : s.updPort p f = s := by
  rw [updPort_congr (g := id) h]
  cases p <;> rfl

/-- Settles O19: the expiry by the receiver, the end of a reply by the port's state. -/
theorem gapTimerAndReplySent : Obligations.GapTimerAndReplySent := by
  refine ⟨fun s p t hp ht => ?_, fun s p hp => ?_⟩
  · have he : exec (.gapTimerExpiry p) s = execGapTimerExpiry p s := rfl
    rw [he, execGapTimerExpiry, whenRunning_running hp, ht]
    exact congrArg (fun v : State => Host.Outcome.next v.judgeIdle) (gapExpires_eq (s.advanceTo t) p)
  · have he : exec (.replySent p) s = execReplySent p s := rfl
    rw [he, execReplySent, whenRunning_running hp]
    refine ⟨fun f hf => ?_, fun hf => ?_⟩
    · rw [updPort_congr (g := fun b => { b with state := .free }) (replySent_replying hf)]
    · rw [updPort_self (replySent_silent hf)]

end Sys2Proof.Machine
end

section
/-! PROOFS. Requests that are not carried out: cases 1 to 4 of R157 against the index of R158, and a request at a busy port (R155,
R156): O16, O17. -/

namespace Sys2Proof.Machine

/-! ## The field lines at a part that is AWAKE (R7, R72) -/

theorem acceptLid_wake {s : State} (h : s.wake.state = .awake) (i : Nat) (b : Bool) : (s.acceptLid i b).wake = s.wake := by
  unfold State.acceptLid
  dsimp only
  repeat' split
  all_goals simp_all

theorem acceptSeat_wake {s : State} (h : s.wake.state = .awake) (c : Nat) (b : Bool) :
    (s.acceptSeat c b).wake = s.wake := by
  unfold State.acceptSeat
  dsimp only
  repeat' split
  all_goals simp_all

theorem acceptStood_wake {s : State} (h : s.wake.state = .awake) : s.acceptStood.wake = s.wake := by
  have lids := List.foldlRecOn (motive := fun v : State => v.wake = s.wake) (eachOf s.stoodLid 0 s.inlets) _ rfl
    fun v hv e _ => (acceptLid_wake (by rw [hv, h]) e.1 e.2).trans hv
  exact List.foldlRecOn (motive := fun v : State => v.wake = s.wake) _ _ lids
    fun v hv e _ => (acceptSeat_wake (by rw [hv, h]) e.1 e.2).trans hv

theorem moveLines_wake {s : State} (h : s.wake.state = .awake) (l : FieldLines) : (s.moveLines l).wake = s.wake := by
  have first := acceptStood_wake h
  have moved : (s.acceptStood.withLines l).wake.state = .awake := by simp [first, h]
  rw [State.moveLines, acceptStood_wake moved]
  simp [first]

section
variable {s : State} (i : Instr)

theorem linesOf_unflagged (s : State) : (s.linesOf i).ports.unflagged = s.ports.unflagged := by
  unfold State.linesOf
  split <;> simp

/-- What the lines move leaves every port but for its flags. -/
theorem linesOf_port (s : State) (p : Port) :
    ((s.linesOf i).port p).receiver = (s.port p).receiver ∧ ((s.linesOf i).port p).state = (s.port p).state := by
  rw [port_eq_of_unflagged (linesOf_unflagged i s)]
  exact ⟨rfl, rfl⟩

theorem linesOf_attends (h : s.attends = true) : (s.linesOf i).attends = true := by
  obtain ⟨hp, hw⟩ := attends_running h
  have wake : (s.linesOf i).wake = s.wake := by
    unfold State.linesOf
    split
    · exact moveLines_wake hw _
    · rfl
  simp [State.attends, linesOf_power, wake, hp, hw]

theorem linesOf_listening {p : Port} (h : s.listening p = true) : (s.linesOf i).listening p = true := by
  obtain ⟨_, _, hr, hs⟩ := (listening_iff s p).mp h
  obtain ⟨hr', hs'⟩ := linesOf_port i s p
  have attends := linesOf_attends i (listening_attends h)
  simp [State.listening, attends, hr, hr', hs, hs']

theorem linesOf_now (s : State) : (s.linesOf i).now = s.now := by
  unfold State.linesOf
  split <;> simp

theorem linesOf_store (s : State) : (s.linesOf i).store = s.store := by
  unfold State.linesOf
  split <;> simp

end

/-! ## The index (R158) -/

/-- A row of the index as the manual prints it. Answer Card's two counts are printed as a range. -/
structure IndexRow.PrintedAs (r : IndexRow) (ports : List Port) (lo hi : Nat) (openMode : Bool) : Prop where
  ports : r.ports = ports
  openMode : r.openMode = openMode
  allows : ∀ n, r.allows n = true ↔ ¬ (n < lo ∨ hi < n ∨ r.code = 0x38 ∧ n ≠ 7 ∧ n ≠ 25)

/-- A row with one range of counts. -/
theorem printedAs_range {r : IndexRow} {lo hi : Nat} (h : r.lengths = [(lo, hi)]) (hc : r.code ≠ 0x38) :
    r.PrintedAs r.ports lo hi r.openMode where
  ports := rfl
  openMode := rfl
  allows n := by
    simp only [IndexRow.allows, h, hc, List.any_cons, List.any_nil, Bool.or_false, decide_eq_true_eq, false_and, or_false]
    omega

theorem reqAnswerCard_printedAs : reqAnswerCard.row.PrintedAs [.network] 7 25 false where
  ports := rfl
  openMode := rfl
  allows n := by
    simp only [IndexRow.allows, reqAnswerCard, List.any_cons, List.any_nil, Bool.or_false, Bool.or_eq_true, decide_eq_true_eq,
      true_and]
    omega

/-- Every printed row is that of the request which its code names. -/
theorem printedIndex_request : ∀ e ∈ printedIndex, ∃ r, requestOf e.1 = some r ∧
    r.row.PrintedAs e.2.1 e.2.2.1 e.2.2.2.1 e.2.2.2.2 := by
  simp only [printedIndex, List.forall_mem_cons, List.not_mem_nil, false_implies, implies_true, and_true]
  refine ⟨?_, ?_, ?_, ?_, ?_, ?_, ?_, ?_, ?_, ?_, ?_, ?_, ?_, ?_, ?_, ?_, ?_, ?_, ?_, ?_, ?_, ?_, ?_, ?_,
    ⟨reqAnswerCard, rfl, reqAnswerCard_printedAs⟩, ?_, ?_, ?_, ?_, ?_, ?_, ?_, ?_⟩
  all_goals exact ⟨_, rfl, printedAs_range rfl (by decide)⟩

/-- The manual's index lists every request of the part. -/
theorem requestOf_unprinted {code : Byte} (h : ∀ e ∈ printedIndex, e.1 ≠ code) : requestOf code = none := by
  have codes : requestIndex.map (fun r => r.row.code) = printedIndex.map Prod.fst := by decide
  rw [requestOf, List.find?_eq_none]
  intro r hr hc
  have mem : code ∈ printedIndex.map Prod.fst := by
    rw [← codes, ← of_decide_eq_true hc]
    exact List.mem_map_of_mem hr
  obtain ⟨e, he, hec⟩ := List.mem_map.mp mem
  exact h e he hec

/-- A request of the index arrives once the lines stand at the levels that it brings. -/
theorem exec_requestOf {i : Instr} {p : Port} {code tag : Byte} {ps : List Byte}
    (h : requestParts i = some (p, code, tag, ps)) :
    ∃ r, requestOf code = some r ∧ ∀ s, exec i s = whenRunning s fun v => r.arrive p tag ps (v.linesOf i) := by
  cases i <;> cases h
  all_goals exact ⟨_, rfl, fun _ => rfl⟩

/-! ## Refusals (R157) -/

section
variable {r : IndexRow} {p : Port} {n : Nat} {configured : Bool}

theorem refusal_badLength (h : ¬ r.allows n = true) : r.refusal p n configured = some .badLength :=
  if_pos (by simpa using h)

theorem refusal_notPermitted (h : r.allows n = true) (hp : p ∉ r.ports) : r.refusal p n configured = some .notPermitted := by
  unfold IndexRow.refusal
  rw [if_neg (by simp [h]), if_pos (by simpa using hp)]

theorem refusal_unconfigured (h : r.allows n = true) (hp : p ∈ r.ports) (hc : configured = false) (ho : r.openMode = false) :
    r.refusal p n configured = some .unconfigured := by
  unfold IndexRow.refusal
  rw [if_neg (by simp [h]), if_neg (by simpa using hp), if_pos ⟨hc, ho⟩]

end

/-- A refused request is answered, and changes nothing but its port. -/
theorem arrive_refused {s : State} {p : Port} (h : s.listening p = true) (r : Request) (tag : Byte) {ps : List Byte}
    {st : Status} (hr : r.row.refusal p ps.length s.configured = some st) :
    r.arrive p tag ps s = s.replied p r.row.code tag (statusCode st) [] := by
  have hr' : r.row.refusal p ps.length (s.startGap p).configured = some st := hr
  rw [arrive_listening h, ← sendReply_taken]
  simp only [Request.take, hr', State.taken]

/-- A good frame whose code the manual does not print is answered, and changes nothing but its port (R157, case 1). -/
theorem takeFrame_unprinted {code : Byte} (h : ∀ e ∈ printedIndex, e.1 ≠ code) (s : State) (p : Port) (tag : Byte)
    (ps : List Byte) : (s.startGap p).takeFrame p code tag ps = s.replied p code tag 0x10 [] := by
  simp only [State.takeFrame, requestOf_unprinted h]
  exact sendReply_taken s p code tag .unknownRequest []

/-- Settles O16: cases 2 to 4 by the request's row, case 1 by the printed codes. -/
theorem requestsRefused : Obligations.RequestsRefused := by
  refine ⟨fun i p code tag ps ports lo hi openMode s hi' hrow h => ?_, fun s p code tag ps h hcode => ?_⟩
  · obtain ⟨r, hr, hexec⟩ := exec_requestOf hi'
    obtain ⟨r', hr', printed⟩ : ∃ r', requestOf code = some r' ∧ r'.row.PrintedAs ports lo hi openMode :=
      printedIndex_request _ hrow
    obtain rfl : r = r' := Option.some.inj (hr.symm.trans hr')
    have hcode : r.row.code = code := requestOf_code hr
    have hp : s.power = .running := ((listening_iff s p).mp h).1
    have refused : ∀ st, r.row.refusal p ps.length s.configured = some st →
        exec i s = .next ((s.linesOf i).replied p code tag (statusCode st) []).judgeIdle := by
      intro st hst
      have hst' : r.row.refusal p ps.length (s.linesOf i).configured = some st := by
        rwa [State.configured, linesOf_store]
      rw [hexec, whenRunning_running hp, arrive_refused (linesOf_listening i h) r tag hst', hcode]
    have allows := printed.allows ps.length
    rw [hcode] at allows
    rw [← printed.ports, ← printed.openMode]
    refine ⟨fun hl => refused .badLength (refusal_badLength (mt allows.mp (not_not.mpr hl))),
      fun hl hports => refused .notPermitted (refusal_notPermitted (allows.mpr hl) hports),
      fun hl hports hrun hopen => refused .unconfigured (refusal_unconfigured (allows.mpr hl) hports ?_ hopen)⟩
    rw [State.configured, hrun]
    rfl
  · have he : exec (.unknownRequestCode p code tag ps) s = execUnknownRequestCode p code tag ps s := rfl
    rw [he, execUnknownRequestCode, whenRunning_running ((listening_iff s p).mp h).1, if_pos h,
      takeFrame_unprinted hcode]

/-! ## A busy port (R155, R156) -/

/-- A frame's start byte at a port that is not FREE has the frame discarded. -/
theorem receiveRun_busy {s : State} {p : Port} (h : s.attends = true) (hr : (s.port p).receiver = .hunting)
    (hs : (s.port p).state ≠ .free) (code tag : Byte) (ps : List Byte) :
    s.receiveRun p (lineFrame code tag ps) = (s.discarded p .skipping).judgeIdle := by
  obtain ⟨hp, hw⟩ := attends_running h
  have run : s.receiveRun p (lineFrame code tag ps) = s.receiveEvents p (lineFrame code tag ps) := by
    simp [State.receiveRun, hp, hw, lineFrame_ne_nil]
  rw [run]
  exact receiveEvents_discarded (receiveByte_start_busy hr hs)

/-- Settles O17: a frame's first byte decides, and no request is taken at a port that is not FREE. -/
theorem busyPortDiscardsFrame : Obligations.BusyPortDiscardsFrame := by
  intro i p code tag ps s hi h hr hs
  obtain ⟨hp, _⟩ := attends_running h
  have busy : ∀ u : State, (u.port p).state = (s.port p).state → ¬ u.listening p = true :=
    fun u hu hl => hs (hu ▸ ((listening_iff u p).mp hl).2.2.2)
  obtain ⟨hr', hs'⟩ := linesOf_port i s p
  have run := receiveRun_busy (linesOf_attends i h) (hr'.trans hr) (by rwa [hs'])
  have hexec : exec i s = .next ((s.linesOf i).receiveRun p (lineFrame code tag ps)).judgeIdle := by
    rcases hi with hi | rfl
    · obtain ⟨r, hreq, hexec⟩ := exec_requestOf hi
      rw [hexec, whenRunning_running hp, Request.arrive, if_neg (busy _ hs'), requestOf_code hreq]
    · have he : exec (.unknownRequestCode p code tag ps) s = execUnknownRequestCode p code tag ps s := rfl
      rw [he, execUnknownRequestCode, whenRunning_running hp, if_neg (busy s rfl)]
      rfl
  rw [hexec, run, judgeIdle_judgeIdle, State.discarded, linesOf_now]

end Sys2Proof.Machine
end

section
/-! PROOFS. Attention: its flags, its lines and its two requests, and Read Status (R161 to R165); and a part without power (R152,
R175): O20, O21, O22, O5. -/

namespace Sys2Proof.Machine

/-! ## Kinds and lines (R161, R162) -/

theorem kindPosition_lt (k : AttentionKind) : kindPosition k < 12 := by cases k <;> decide

theorem kindSet_getLsbD (k : AttentionKind) (n : Nat) : (kindSet k).getLsbD n = decide (n = kindPosition k) := by
  have hk := kindPosition_lt k
  rw [kindSet, getLsbD_ofNat_two_pow]
  by_cases hn : n = kindPosition k
  · simp [hn, hk]
  · simp [hn, Ne.symm hn]

theorem heat_getLsbD (n : Nat) : (kindSet .heat).getLsbD n = decide (n = 6) := kindSet_getLsbD .heat n

theorem PortBlock.enabled_getLsbD (b : PortBlock) (n : Nat) : b.enabled.getLsbD n = (b.mask.getLsbD n || decide (n = 6)) := by
  rw [PortBlock.enabled, BitVec.getLsbD_or, heat_getLsbD]

theorem raise_flags (s : State) (k : AttentionKind) (p : Port) :
    ((s.raise k).port p).flags = (s.port p).flags ||| kindSet k := by
  cases p <;> rfl

/-- A word is not 0 where one of its bits is set. -/
theorem bitVec_ne_zero_iff {w : Nat} (v : BitVec w) : v ≠ 0 ↔ ∃ n, v.getLsbD n = true := by
  constructor
  · intro h
    by_contra none
    refine h (BitVec.eq_of_getLsbD_eq fun n _ => ?_)
    simpa using not_exists.mp none n
  · rintro ⟨n, hn⟩ rfl
    simp at hn

theorem attentionLine_iff {s : State} (hp : s.power = .running) (p : Port) : s.attentionLine p = true ↔
    ∃ n, (s.port p).flags.getLsbD n = true ∧ (n = 6 ∨ (s.port p).mask.getLsbD n = true) := by
  rw [State.attentionLine, decide_eq_true hp, Bool.true_and, decide_eq_true_eq, bitVec_ne_zero_iff]
  simp only [BitVec.getLsbD_and, PortBlock.enabled_getLsbD, Bool.and_eq_true, Bool.or_eq_true, decide_eq_true_eq, or_comm]

/-- Settles O20: a raise sets one bit, and the line goes by the bits. -/
theorem attentionFlagsAndLines : Obligations.AttentionFlagsAndLines := by
  refine ⟨rfl, fun s k => ⟨rfl, rfl, rfl⟩, fun s k p => ⟨port_eq_of_unflagged (raise_unflagged s k) p, fun n _ => ?_⟩,
    fun s p hp => attentionLine_iff hp p⟩
  rw [raise_flags, BitVec.getLsbD_or, kindSet_getLsbD]

/-! ## Acknowledge Attention and Set Attention Mask (R163, R164) -/

/-- A kind set's two bytes name no kind past position 11 where the four highest bits are clear. -/
theorem kindSetValid_pair (hi lo : Byte) : kindSetValid (hi ++ lo).toNat = decide (hi.toNat < 16) := by
  have hl := lo.isLt
  have pair : (hi ++ lo).toNat = hi.toNat * 256 + lo.toNat := by
    rw [BitVec.toNat_append, ← Nat.shiftLeft_add_eq_or_of_lt hl, Nat.shiftLeft_eq]
  rw [kindSetValid, pair, decide_eq_decide]
  omega

/-- A kind set's bits are those of its two bytes. -/
theorem kinds_getLsbD (v : BitVec 16) (n : Nat) : (BitVec.ofNat 12 v.toNat).getLsbD n = (decide (n < 12) && v.getLsbD n) := by
  rw [BitVec.getLsbD_ofNat, BitVec.testBit_toNat]

theorem acknowledged_getLsbD (flags : KindSet) (v : BitVec 16) (n : Nat) :
    (flags &&& ~~~(BitVec.ofNat 12 v.toNat)).getLsbD n = (flags.getLsbD n && !v.getLsbD n) := by
  rw [BitVec.getLsbD_and, BitVec.getLsbD_not, kinds_getLsbD]
  by_cases hn : n < 12
  · simp [hn]
  · simp [hn, BitVec.getLsbD_of_ge _ _ (Nat.le_of_not_lt hn)]

theorem masked_getLsbD {v : BitVec 16} (hv : v.toNat < 4096) (n : Nat) :
    (BitVec.ofNat 12 v.toNat &&& ~~~(kindSet .heat)).getLsbD n = (v.getLsbD n && decide (n ≠ 6)) := by
  rw [BitVec.getLsbD_and, BitVec.getLsbD_not, kinds_getLsbD, heat_getLsbD]
  by_cases hn : n < 12
  · simp [hn]
  · have high : v.getLsbD n = false :=
      Nat.testBit_lt_two_pow (hv.trans_le (Nat.pow_le_pow_right (by decide) (Nat.le_of_not_lt hn) : 2 ^ 12 ≤ 2 ^ n))
    simp [hn, high]

section
variable {s : State} {p : Port} {tag hi lo : Byte}

theorem taken_flags (s : State) (p : Port) (code tag : Byte) : ((s.taken p code tag).port p).flags = (s.port p).flags := by
  cases p <;> rfl

theorem be_two (n : Nat) : be 2 n = [BitVec.ofNat 8 (n / 256), BitVec.ofNat 8 n] := by simp [be]

theorem bodyAcknowledgeAttention_refused (h : 16 ≤ hi.toNat) (s : State) :
    bodyAcknowledgeAttention p [hi, lo] s = (s, .reply .outOfRange []) := by
  simp [bodyAcknowledgeAttention, field_pair, kindSetValid_pair, refuse, h]

theorem bodyAcknowledgeAttention_clears {f : KindSet} (h : hi.toNat < 16)
    (hf : (s.port p).flags &&& ~~~(BitVec.ofNat 12 (hi ++ lo).toNat) = f) :
    bodyAcknowledgeAttention p [hi, lo] s = (s.updPort p fun b => { b with flags := f },
      .reply .ok [BitVec.ofNat 8 (f.toNat / 256), BitVec.ofNat 8 f.toNat]) := by
  have clears : (s.updPort p fun b => { b with flags := b.flags &&& ~~~(BitVec.ofNat 12 (hi ++ lo).toNat) }) =
      s.updPort p fun b => { b with flags := f } := updPort_congr (by rw [← hf])
  rw [bodyAcknowledgeAttention, field_pair]
  dsimp only
  rw [kindSetValid_pair, decide_eq_true h, if_pos rfl, clears, updPort_port, be_two]

theorem bodySetAttentionMask_refused (h : 16 ≤ hi.toNat) (s : State) :
    bodySetAttentionMask p [hi, lo] s = (s, .reply .outOfRange []) := by
  simp [bodySetAttentionMask, field_pair, kindSetValid_pair, refuse, h]

theorem bodySetAttentionMask_sets (h : hi.toNat < 16) (s : State) :
    bodySetAttentionMask p [hi, lo] s =
      (s.updPort p fun b => { b with mask := BitVec.ofNat 12 (hi ++ lo).toNat &&& ~~~(kindSet .heat) }, .reply .ok []) := by
  simp [bodySetAttentionMask, field_pair, kindSetValid_pair, done, h]

end

/-- Settles O21: each request by its highest bits. -/
theorem attentionRequests : Obligations.AttentionRequests := by
  refine ⟨fun s p tag hi lo h hc => ?_, fun s p tag hi lo h hc => ?_⟩
  · have row := refusal_none (r := reqAcknowledgeAttention.row) (n := [hi, lo].length) rfl (portsNVS_contains p) (.inl hc)
    refine ⟨fun hh => ?_, fun hh => ⟨_, acknowledged_getLsbD _ (hi ++ lo), ?_⟩⟩
    · exact (arrive_reported h reqAcknowledgeAttention tag [hi, lo] row (bodyAcknowledgeAttention_refused hh _) :)
    · exact (arrive_updPort h reqAcknowledgeAttention tag [hi, lo] row (fun _ _ _ => rfl)
        (bodyAcknowledgeAttention_clears hh (by rw [taken_flags])) :)
  · have row := refusal_none (r := reqSetAttentionMask.row) (n := [hi, lo].length) rfl (portsNVS_contains p) (.inl hc)
    refine ⟨fun hh => ?_, fun hh => ⟨_, masked_getLsbD (v := hi ++ lo) ?_, ?_⟩⟩
    · exact (arrive_reported h reqSetAttentionMask tag [hi, lo] row (bodySetAttentionMask_refused hh _) :)
    · exact of_decide_eq_true ((kindSetValid_pair hi lo).trans (decide_eq_true hh))
    · exact (arrive_updPort h reqSetAttentionMask tag [hi, lo] row (fun _ _ _ => rfl) (bodySetAttentionMask_sets hh _) :)

/-! ## Read Status (R165) -/

theorem statusBytes_taken (s : State) (p : Port) (code tag : Byte) : statusBytes (s.taken p code tag) p = statusBytes s p := by
  cases p <;> rfl

theorem marker_byte (b : Bool) : BitVec.ofNat 8 (markerCode b) = if b then 1 else 0 := by cases b <;> rfl

theorem mode_byte (s : State) : BitVec.ofNat 8 (markerCode (!s.configured)) = if s.store.running.isSome then 0 else 1 := by
  rw [State.configured]
  cases s.store.running <;> rfl

theorem version_byte (g : Option StationConfig) :
    BitVec.ofNat 8 ((g.map fun g => g.version.toNat).getD 0) = (g.map StationConfig.version).getD 0 := by
  cases g with
  | none => rfl
  | some g => exact (BitVec.ofNat_toNat 8 g.version).trans (BitVec.setWidth_eq _)

/-- Settles O22: the reply is formed first, then the count is cleared. -/
theorem readStatus : Obligations.ReadStatus := by
  intro s p tag h
  have row := refusal_none (r := reqReadStatus.row) (n := ([] : List Byte).length) (b := s.configured) rfl
    (portsNVS_contains p) (.inr rfl)
  have body : bodyReadStatus p [] (s.taken p 0x01 tag) =
      ((s.taken p 0x01 tag).updPort p fun b => { b with discarded := 0 }, .reply .ok (statusBytes s p)) := by
    rw [bodyReadStatus, statusBytes_taken]
  refine Eq.trans (arrive_updPort h reqReadStatus tag [] row (fun _ _ _ => rfl) body :) ?_
  refine congrArg (fun reply => Host.Outcome.next
    ((s.updPort p fun b => { b with discarded := 0 }).replied p 0x01 tag 0x00 reply).judgeIdle) ?_
  rw [statusBytes, be_one, mode_byte]
  simp only [be_one, marker_byte, version_byte, PortBlock.enabled, List.append_assoc, List.cons_append, List.nil_append]
  rcases s.store.writer with _ | _ | _ | _ <;> rfl

/-! ## A part without power -/

/-- Settles O5: every command but the supply's takes effect in a running part alone. -/
theorem unpoweredPartTakesNothing : Obligations.UnpoweredPartTakesNothing := by
  intro c s hp hon hloss hend
  have hc : ¬ Supply c := by
    cases c with
    | powerOnReset => exact absurd rfl hon
    | powerLoss => exact absurd rfl hloss
    | powerOnResetEnd l b => exact absurd rfl (hend l b)
    | _ => exact id
  obtain ⟨f, hf⟩ := exec_whenRunning hc
  rw [hf, whenRunning, if_neg hp]

end Sys2Proof.Machine
end

section
/-! PROOFS. The serial memory stays in its canonical form with every write under way inside it, and the clock's count in its
range (R170, R173, R177): each operation that touches the store or the clock keeps it so, and with them every step: O55. -/

namespace Sys2Proof.Machine

/-! ## The store -/

theorem Store.Sound.restarted {st : Store} (h : st.Sound) : st.restarted.Sound where
  memory := h.memory
  writes w hw := by
    obtain ⟨v, hv, rfl⟩ := List.mem_map.mp hw
    exact h.writes v hv

theorem Store.Sound.withRunning {st : Store} (h : st.Sound) (g : Option StationConfig) :
    ({ st with running := g } : Store).Sound := ⟨h.memory, h.writes⟩

/-- A loss of power may leave a write under way in any state, and the memory keeps its form (R177). -/
theorem settledMemory_wf {s : State} (h : s.store.Sound) : memoryWf s.settledMemory = true :=
  tornMemory_wf s.drawn h.writes h.memory

theorem unpowered_storeSound (q : Power) {s : State} (h : s.store.Sound) : (s.unpowered q).store.Sound :=
  ⟨settledMemory_wf h, nofun⟩

theorem powerOnEnd_storeSound (l : FieldLines) (b : Bool) {s : State} (h : s.store.Sound) :
    (s.powerOnEnd l b).store.Sound := by
  unfold State.powerOnEnd
  dsimp only
  split
  · exact ⟨h.memory, nofun⟩
  · simpa using ⟨h.memory, nofun⟩

theorem warmRestart_store (s : State) : s.warmRestart.store = s.store.restarted := by
  simp [State.warmRestart, State.warmValues]

theorem configRestart_store (s : State) (g : StationConfig) :
    (s.configRestart g).store = { s.store.restarted with running := some g } := by
  simp [State.configRestart]

/-- The oldest write stands in the memory, and the others are still under way (R177). -/
theorem completeWrite_storeSound {s : State} (h : s.store.Sound) : s.completeWrite.store.Sound := by
  unfold State.completeWrite
  split
  · exact h
  · next w ws hw =>
    have written : ({ s.store with memory := writeBytes s.store.memory w.offset w.data, writes := ws } : Store).Sound := by
      refine ⟨writeBytes_wf _ (h.writes w ?_) h.memory, fun v hv => h.writes v ?_⟩
      · simp [hw]
      · simp [hw, hv]
    dsimp only
    split
    · simpa using written
    · exact written

/-- A write that would pass the memory's end is refused (R177). -/
theorem bodyWriteImageBlock_storeSound (p : Port) (ps : List Byte) {s : State} (h : s.store.Sound) :
    (bodyWriteImageBlock p ps s).1.store.Sound := by
  unfold bodyWriteImageBlock
  dsimp only
  split_ifs with hend hcheck hwriter
  · exact h
  · exact h
  · exact h
  · refine ⟨h.memory, fun w hw => ?_⟩
    rcases List.mem_append.mp hw with hw | hw
    · exact h.writes w hw
    · obtain rfl := List.mem_singleton.mp hw
      exact Nat.not_lt.mp hend

theorem bodyApplyConfiguration_storeSound (p : Port) (ps : List Byte) {s : State} (h : s.store.Sound) :
    (bodyApplyConfiguration p ps s).1.store.Sound := by
  unfold bodyApplyConfiguration
  split
  · exact h
  · exact ⟨h.memory, h.writes⟩

/-- Three requests touch the store: Restart, Write Image Block and Apply Configuration (R177 to R179). -/
theorem body_storeSound (p : Port) (ps : List Byte) : ∀ r ∈ requestIndex, ∀ s : State, s.store.Sound →
    (r.body p ps s).1.store.Sound := by
  simp only [requestIndex, List.forall_mem_cons, List.not_mem_nil, false_implies, implies_true, and_true]
  refine ⟨?_, ?_, ?_, ?_, ?_, fun s h => (warmRestart_store s).symm ▸ h.restarted,
    fun _ => bodyWriteImageBlock_storeSound p ps, fun _ => bodyApplyConfiguration_storeSound p ps, ?_, ?_, ?_, ?_, ?_, ?_,
    ?_, ?_, ?_, ?_, ?_, ?_, ?_, ?_, ?_, ?_, ?_, ?_, ?_, ?_, ?_, ?_, ?_, ?_, ?_⟩
  all_goals exact fun s h => by simpa using h

theorem storeSound_kept : BooksKept fun s => s.store.Sound where
  congr h e := e.store ▸ h
  unpowered q h := unpowered_storeSound q h
  powerOnEnd l b h := powerOnEnd_storeSound l b h
  body := body_storeSound
  lidClosing i t h := by simpa using h
  seat c b h := by simpa using h
  completion conv echo h := by simpa using h
  warmRestart h := (warmRestart_store _).symm ▸ h.restarted
  configRestart _ h := (configRestart_store _ _).symm ▸ h.restarted.withRunning _
  completeWrite h := completeWrite_storeSound h
  releaseWriter h := ⟨h.memory, h.writes⟩
  checkEnded h := ⟨h.memory, h.writes⟩
  clockCount h := by simpa using h

/-! ## The clock -/

theorem reset_clockSound : State.reset.clock.Sound := Nat.zero_le _

theorem tick_clockSound (c : Clock) : c.tick.Sound := Nat.min_le_right _ _

theorem powerOnEnd_clockSound (s : State) (l : FieldLines) (b : Bool) : (s.powerOnEnd l b).clock.Sound := by
  unfold State.powerOnEnd
  dsimp only
  split
  · exact reset_clockSound
  · simpa using reset_clockSound

/-- The four bytes that Set Clock takes spell no greater count (R170, R171). -/
theorem bodySetClock_clockSound (p : Port) (ps : List Byte) (s : State) : (bodySetClock p ps s).1.clock.Sound := by
  have count : field ps 0 4 ≤ 4294967295 := Nat.le_of_lt_succ (field_lt ps 0 4)
  simpa [bodySetClock, done, Clock.Sound] using count

/-- Of the requests, Set Clock alone touches the clock (R171). -/
theorem body_clockSound (p : Port) (ps : List Byte) : ∀ r ∈ requestIndex, ∀ s : State, s.clock.Sound →
    (r.body p ps s).1.clock.Sound := by
  simp only [requestIndex, List.forall_mem_cons, List.not_mem_nil, false_implies, implies_true, and_true]
  refine ⟨?_, ?_, ?_, ?_, fun s _ => bodySetClock_clockSound p ps s, ?_, ?_, ?_, ?_, ?_, ?_, ?_, ?_, ?_, ?_, ?_, ?_, ?_, ?_,
    ?_, ?_, ?_, ?_, ?_, ?_, ?_, ?_, ?_, ?_, ?_, ?_, ?_, ?_⟩
  all_goals exact fun s h => by simpa using h

theorem clockSound_kept : BooksKept fun s => s.clock.Sound where
  congr h e := e.clock ▸ h
  unpowered _ _ := reset_clockSound
  powerOnEnd l b _ := powerOnEnd_clockSound _ l b
  body := body_clockSound
  lidClosing i t h := by simpa using h
  seat c b h := by simpa using h
  completion conv echo h := by simpa using h
  warmRestart h := by simpa using h
  configRestart _ h := by simpa using h
  completeWrite h := by simpa using h
  releaseWriter h := h
  checkEnded h := h
  clockCount _ := by simpa using tick_clockSound _

/-- Settles O55: each operation that touches the books keeps the store sound, and so the clock. -/
theorem stepKeepsStoreAndClockSound : Obligations.StepKeepsStoreAndClockSound := fun _ _ ht =>
  ⟨fun h => storeSound_kept.step h ht, fun h => clockSound_kept.step h ht⟩

end Sys2Proof.Machine
end

section
/-! PROOFS. Restart (R157, R179): the port that takes the request is let go by the warm restart, which is therefore the one that
the reset line brings: O12. -/

namespace Sys2Proof.Machine

section
variable {s : State} {p : Port}

/-- A restart lets a request held at a FREE, HUNTING port go without a trace (R160). -/
theorem restarted_taken {b : PortBlock} (hr : b.receiver = .hunting) (hs : b.state = .free) (gap : Option Nat)
    (code tag : Byte) (flags : KindSet) :
    ({ b with gap := gap, state := .holding code tag } : PortBlock).restarted flags = b.restarted flags := by
  simp [PortBlock.restarted, hr, hs]

theorem warmValues_taken (h : s.listening p = true) (code tag : Byte) : (s.taken p code tag).warmValues = s.warmValues := by
  obtain ⟨_, _, hr, hs⟩ := (listening_iff s p).mp h
  have block := restarted_taken hr hs (some (s.now + 20)) code tag (kindSet .restart)
  have ports : (s.taken p code tag).ports.map (fun b => b.restarted (kindSet .restart)) =
      s.ports.map fun b => b.restarted (kindSet .restart) := by
    cases p with
    | network => exact congrArg (fun b => (⟨b, _, _⟩ : Ports)) block
    | vehicle => exact congrArg (fun b => (⟨_, b, _⟩ : Ports)) block
    | service => exact congrArg (fun b => (⟨_, _, b⟩ : Ports)) block
  exact congrArg (fun ps : Ports => { s.warmValues with ports := ps }) ports

/-- The warm restart that a request brings is the same as without the request (R179). -/
theorem warmRestart_taken (h : s.listening p = true) (code tag : Byte) :
    (s.taken p code tag).warmRestart = s.warmRestart := by
  rw [State.warmRestart, warmValues_taken h]
  rfl

end

/-- The idle conditions judged before a reply begins leave no trace, as the reply stops the idle timer (R182). -/
theorem judgeIdle_sendReply (s : State) (p : Port) (code tag : Byte) (st : Status) (payload : List Byte) :
    (s.judgeIdle.sendReply p code tag st payload).judgeIdle = (s.sendReply p code tag st payload).judgeIdle := by
  have busy : ∀ u : State, ((u.sendReply p code tag st payload).port p).quiet = false := fun u => by
    rw [State.sendReply, updPort_port]
    simp [PortBlock.quiet]
  rw [judgeIdle_busyPort (busy s), judgeIdle_busyPort (busy s.judgeIdle)]
  rfl

/-- Settles O12: the request is carried out at the lines' new levels, by the warm restart that the reset line brings. -/
theorem restartRequest : Obligations.RestartRequest := by
  intro s p tag l h hp
  have attends := listening_attends h
  have running := (attends_running attends).1
  have moved : (s.moveLines l).listening p = true := linesOf_listening (.restart p tag [] l) h
  have row : reqRestart.row.refusal p ([] : List Byte).length (s.moveLines l).configured = none :=
    refusal_none rfl (portsNS_contains hp) (.inr rfl)
  have body : bodyRestart p [] ((s.moveLines l).taken p 0x06 tag) = ((s.moveLines l).warmRestart, .reply .ok []) := by
    rw [bodyRestart, done, warmRestart_taken moved]
  refine ⟨_, exec_resetLine_restarts attends l, ?_⟩
  calc exec (.restart p tag [] l) s
      = whenRunning (s.moveLines l) (reqRestart.arrive p tag []) := by
        have he : exec (.restart p tag [] l) s = execRestart p tag [] l s := rfl
        rw [he, execRestart, whenRunning_running running, whenRunning_running (by simpa using running)]
    _ = .next ((s.moveLines l).warmRestart.sendReply p 0x06 tag .ok []).judgeIdle :=
        arrive_answered moved reqRestart tag [] row body
    _ = .next ((s.moveLines l).warmRestart.judgeIdle.sendReply p 0x06 tag .ok []).judgeIdle := by
        rw [judgeIdle_sendReply]

end Sys2Proof.Machine
end

section
/-! PROOFS. The wake controller stays sound (R176, R181 to R184). Every event ends in the judgement of the idle conditions, so that
the idle timer is sound after it whatever the event does; the rest is kept by each operation, and with them by every step:
O60. -/

namespace Sys2Proof.Machine

/-! ## The controller without its idle timer -/

/-- What is sound in a wake controller but for its idle timer. -/
structure State.WakeCore (s : State) : Prop where
  held : s.wake.held ≠ [] → s.wake.state = .waking
  settleEnd : s.wake.settleEnd.isSome = true ↔ s.wake.state = .waking
  wakeTimer : s.wake.wakeTimer.isSome = true → s.wake.state ≠ .awake
  unconfigured : s.store.running = none → s.wake.state = .awake

section
variable {s t : State}

theorem State.WakeSound.core (h : s.WakeSound) : s.WakeCore := ⟨h.held, h.settleEnd, h.wakeTimer, h.unconfigured⟩

/-- The idle timer runs after its judgement exactly where R182 has it run. -/
theorem nextIdleTimer_isSome (s : State) : s.nextIdleTimer.isSome = true ↔ s.attends = true ∧ s.idle = true := by
  unfold State.nextIdleTimer
  by_cases h : s.attends = true ∧ s.idle = true
  · rw [if_pos h]
    cases s.wake.idleTimer <;> simp [h]
  · rw [if_neg h]
    simp [h]

/-- The judgement at the end of an event makes the idle timer sound (R182). -/
theorem State.WakeCore.judged (h : s.WakeCore) : s.judgeIdle.WakeSound where
  idleTimer ht := (nextIdleTimer_isSome s).mp ht
  held := h.held
  settleEnd := h.settleEnd
  wakeTimer := h.wakeTimer
  unconfigured := h.unconfigured

theorem State.WakeCore.congr (h : s.WakeCore) (hw : t.wake = s.wake) (hr : t.store.running = s.store.running) :
    t.WakeCore := by
  obtain ⟨held, settleEnd, wakeTimer, unconfigured⟩ := h
  rw [← hw] at held settleEnd wakeTimer unconfigured
  exact ⟨held, settleEnd, wakeTimer, hr ▸ unconfigured⟩

/-- What stops the idle timer, or judges it, and leaves the rest of the controller. -/
theorem State.WakeCore.withIdleTimer (h : s.WakeCore) (i : Option Nat) (hw : t.wake = { s.wake with idleTimer := i })
    (hr : t.store.running = s.store.running) : t.WakeCore :=
  State.WakeCore.congr (s := { s with wake := { s.wake with idleTimer := i } })
    ⟨h.held, h.settleEnd, h.wakeTimer, h.unconfigured⟩ hw hr

theorem State.WakeCore.judgeIdle (h : s.WakeCore) : s.judgeIdle.WakeCore := h.withIdleTimer _ rfl rfl

/-- A part that is AWAKE with nothing held and no timer of waking. -/
theorem wakeCore_of_awake {i : Option Nat} (hw : t.wake = ⟨.awake, i, none, none, []⟩) : t.WakeCore where
  held hh := absurd (by rw [hw]) hh
  settleEnd := by simp [hw]
  wakeTimer ht := by simp [hw] at ht
  unconfigured _ := by rw [hw]

/-! ## Doze and waking (R183, R184) -/

/-- A cause is held in a part that is not AWAKE, and the settling runs from the first on (R184). -/
theorem hold_wakeCore (c : HeldCause) (hw : s.wake.state ≠ .awake) (h : s.WakeCore) : (s.hold c).WakeCore := by
  rw [hold_asleep c hw]
  refine ⟨fun _ => rfl, iff_of_true ?_ rfl, fun _ => nofun, fun hr => absurd (h.unconfigured hr) hw⟩
  rcases wakeState_cases hw with hd | hd
  · simp [hd]
  · simpa [hd] using h.settleEnd.mpr hd

theorem holdAll_wakeCore (cs : List HeldCause) (hw : s.wake.state ≠ .awake) (h : s.WakeCore) :
    (s.holdAll cs).WakeCore := by
  induction cs generalizing s with
  | nil => exact h
  | cons c cs ih => exact ih (by simp [hold_state c hw]) (hold_wakeCore c hw h)

theorem beginWaking_state (hw : s.wake.state ≠ .awake) : s.beginWaking.wake.state = .waking := by
  rcases wakeState_cases hw with hd | hd <;> simp [State.beginWaking, hd]

theorem beginWaking_wakeCore (hw : s.wake.state ≠ .awake) (h : s.WakeCore) : s.beginWaking.WakeCore := by
  unfold State.beginWaking
  split
  · exact ⟨fun _ => rfl, iff_of_true rfl rfl, fun _ => nofun, fun hr => absurd (h.unconfigured hr) hw⟩
  · exact h

theorem wakeExpires_wakeCore (t : Nat) (hw : s.wake.state ≠ .awake) (h : s.WakeCore) : (s.wakeExpires t).WakeCore := by
  have begun : (s.advanceTo t).beginWaking.WakeCore := beginWaking_wakeCore hw (h.congr rfl rfl)
  have waking : (s.advanceTo t).beginWaking.wake.state = .waking := beginWaking_state (s := s.advanceTo t) hw
  exact holdAll_wakeCore _ (by simp [waking]) ⟨begun.held, begun.settleEnd, nofun, begun.unconfigured⟩

/-- A part whose idle timer runs is CONFIGURED, as only a running configuration permits doze (R176, R181). -/
theorem running_of_idle (h : s.idle = true) : s.store.running ≠ none := by
  intro hr
  simp [State.idle, State.dozePermitted, hr] at h

theorem enterDoze_wakeCore (hr : s.store.running ≠ none) : s.enterDoze.WakeCore where
  held hh := absurd rfl hh
  settleEnd := by simp [State.enterDoze]
  wakeTimer _ := nofun
  unconfigured hn := absurd hn hr

/-! ## Resets -/

theorem warmRestart_wakeCore (h : s.WakeCore) : s.warmRestart.WakeCore :=
  h.withIdleTimer none (by simp [State.warmRestart, State.warmValues]) (by rw [warmRestart_store]; rfl)

theorem configRestart_wakeCore (g : StationConfig) (h : s.WakeCore) : (s.configRestart g).WakeCore := by
  have wake : (s.configRestart g).wake = { s.wake with idleTimer := none } := by simp [State.configRestart]
  refine ⟨?_, ?_, ?_, fun hr => ?_⟩
  · rw [wake]
    exact h.held
  · rw [wake]
    exact h.settleEnd
  · rw [wake]
    exact h.wakeTimer
  · simp [configRestart_store] at hr

theorem unpowered_wakeSound (s : State) (q : Power) : (s.unpowered q).WakeSound where
  idleTimer := nofun
  held := reset_wakeSound.held
  settleEnd := reset_wakeSound.settleEnd
  wakeTimer := reset_wakeSound.wakeTimer
  unconfigured _ := rfl

theorem powerOnEnd_wakeCore (s : State) (l : FieldLines) (b : Bool) : (s.powerOnEnd l b).WakeCore := by
  unfold State.powerOnEnd
  dsimp only
  split
  · exact wakeCore_of_awake rfl
  · exact wakeCore_of_awake (i := none) (by simp [State.reset])

/-! ## Ports and requests -/

theorem updPort_wakeCore (p : Port) (f : PortBlock → PortBlock) (h : s.WakeCore) : (s.updPort p f).WakeCore :=
  h.congr rfl rfl

theorem bodyWriteImageBlock_wakeCore (p : Port) (ps : List Byte) (h : s.WakeCore) :
    (bodyWriteImageBlock p ps s).1.WakeCore := by
  unfold bodyWriteImageBlock
  dsimp only
  split_ifs
  all_goals exact h.congr rfl rfl

theorem bodyApplyConfiguration_wakeCore (p : Port) (ps : List Byte) (h : s.WakeCore) :
    (bodyApplyConfiguration p ps s).1.WakeCore := by
  unfold bodyApplyConfiguration
  split
  all_goals exact h.congr rfl rfl

/-- Of the requests, Restart stops the idle timer, two write in the store, and none touches the rest. -/
theorem body_wakeCore (p : Port) (ps : List Byte) : ∀ r ∈ requestIndex, ∀ s : State, s.WakeCore →
    (r.body p ps s).1.WakeCore := by
  simp only [requestIndex, List.forall_mem_cons, List.not_mem_nil, false_implies, implies_true, and_true]
  refine ⟨?_, ?_, ?_, ?_, ?_, fun _ => warmRestart_wakeCore, fun _ => bodyWriteImageBlock_wakeCore p ps,
    fun _ => bodyApplyConfiguration_wakeCore p ps, ?_, ?_, ?_, ?_, ?_, ?_, ?_, ?_, ?_, ?_, ?_, ?_, ?_, ?_, ?_, ?_, ?_, ?_,
    ?_, ?_, ?_, ?_, ?_, ?_, ?_⟩
  all_goals exact fun s h => h.congr (by simp) (by simp)

theorem take_wakeCore {r : Request} (hr : r ∈ requestIndex) (p : Port) (tag : Byte) (ps : List Byte) (h : s.WakeCore) :
    (r.take p tag ps s).WakeCore := by
  have held : (s.holdPort p r.row.code tag).WakeCore := updPort_wakeCore p _ h
  have carried := body_wakeCore p ps r hr _ held
  unfold Request.take answerRequest
  dsimp only
  repeat' split
  · exact updPort_wakeCore p _ held
  · exact updPort_wakeCore p _ carried
  · exact carried

theorem takeFrame_wakeCore (p : Port) (code tag : Byte) (ps : List Byte) (h : s.WakeCore) :
    (s.takeFrame p code tag ps).WakeCore := by
  unfold State.takeFrame
  split
  · exact take_wakeCore (requestOf_mem ‹_›) p tag ps h
  · exact h.congr (by simp) (by simp)

theorem receiveByte_wakeCore (p : Port) (b : RxByte) (h : s.WakeCore) : (s.receiveByte p b).WakeCore := by
  rcases receiveByte_cases s p b with e | ⟨r, e⟩ | ⟨r, e⟩ | ⟨code, tag, ps, e⟩ <;> rw [e]
  · exact h.congr rfl rfl
  · exact h.congr rfl rfl
  · exact h.congr rfl rfl
  · exact takeFrame_wakeCore p code tag ps (h.congr rfl rfl)

/-- Received bytes are held as receive activity unless the part is AWAKE (R186). -/
theorem receiveRun_wakeCore (p : Port) (bs : List RxByte) (h : s.WakeCore) : (s.receiveRun p bs).WakeCore := by
  have events : (s.receiveEvents p bs).WakeCore :=
    List.foldlRecOn bs _ h fun _ ht b _ => (receiveByte_wakeCore p b ht).judgeIdle
  unfold State.receiveRun
  split
  · exact h
  · split
    · exact events
    · next hw => exact hold_wakeCore _ hw h

theorem arrive_wakeCore {r : Request} (hr : r ∈ requestIndex) (p : Port) (tag : Byte) (ps : List Byte) (h : s.WakeCore) :
    (r.arrive p tag ps s).WakeCore := by
  unfold Request.arrive
  split
  · exact take_wakeCore hr p tag ps (h.congr rfl rfl)
  · exact receiveRun_wakeCore p _ h

/-! ## The field lines -/

/-- An accepted lid level is taken by a part that is AWAKE, and else held (R185). -/
theorem acceptLid_wakeCore (i : Nat) (b : Bool) (h : s.WakeCore) : (s.acceptLid i b).WakeCore := by
  by_cases hw : s.wake.state = .awake
  · exact h.congr (acceptLid_wake hw i b) (by simp)
  · unfold State.acceptLid
    dsimp only
    repeat' split
    · exact h
    · exact h
    · exact hold_wakeCore _ hw (h.congr rfl rfl)

theorem acceptSeat_wakeCore (c : Nat) (b : Bool) (h : s.WakeCore) : (s.acceptSeat c b).WakeCore := by
  by_cases hw : s.wake.state = .awake
  · exact h.congr (acceptSeat_wake hw c b) (by simp)
  · unfold State.acceptSeat
    dsimp only
    repeat' split
    · exact h
    · exact h
    · exact hold_wakeCore _ hw (h.congr rfl rfl)

theorem acceptStood_wakeCore (h : s.WakeCore) : s.acceptStood.WakeCore :=
  List.foldlRecOn _ _ (List.foldlRecOn _ _ h fun _ ht e _ => acceptLid_wakeCore e.1 e.2 ht)
    fun _ ht e _ => acceptSeat_wakeCore e.1 e.2 ht

theorem moveLines_wakeCore (l : FieldLines) (h : s.WakeCore) : (s.moveLines l).WakeCore :=
  acceptStood_wakeCore ((acceptStood_wakeCore h).congr (by simp) (by simp))

/-! ## The causes taken at AWAKE (R184, R185) -/

theorem takeCause_wakeCore (c : HeldCause) (h : s.WakeCore) : (s.takeCause c).WakeCore := by
  cases c with
  | restart => exact warmRestart_wakeCore h
  | lid i b t => cases b <;> exact h.congr (by simp [State.takeCause]) (by simp [State.takeCause])
  | _ => exact h.congr (by simp [State.takeCause]) (by simp [State.takeCause])

theorem takeCauses_wakeCore (n : Nat) (o : List Nat) (cs : List HeldCause) (h : s.WakeCore) :
    (takeCauses n o cs s).WakeCore := by
  induction n generalizing o cs s with
  | zero => exact h
  | succ n ih =>
    unfold takeCauses
    split
    · exact h
    · exact ih _ _ (takeCause_wakeCore _ h)

theorem arbitrate_wakeCore (h : s.WakeCore) : s.arbitrate.WakeCore := h.congr (by simp) (by simp)

/-- At AWAKE nothing is held any more and every timer of waking is stopped (R184). -/
theorem awaken_wakeCore (s : State) (o : List Nat) : (s.awaken o).WakeCore :=
  arbitrate_wakeCore (takeCauses_wakeCore _ o _ (wakeCore_of_awake (i := none) rfl))

/-! ## The configuration store -/

theorem completeWrite_running (s : State) : s.completeWrite.store.running = s.store.running := by
  unfold State.completeWrite
  repeat' split
  all_goals simp

theorem endCheck_wakeCore (p : Port) (image : Option StationConfig) (h : s.WakeCore) : (s.endCheck p image).WakeCore := by
  have answered : ∀ {u : State} (held : PortState) (st : Status), u.WakeCore → (u.answerHeld p held st).WakeCore :=
    fun _ _ hu => hu.congr (by simp) (by simp)
  unfold State.endCheck
  dsimp only
  split
  · exact answered _ _ (h.congr rfl rfl)
  · split
    · exact answered _ _ (h.congr rfl rfl)
    · exact answered _ _ (configRestart_wakeCore _ (h.congr rfl rfl))

/-! ## Commands and steps -/

theorem whenRunning_wakeSound {f : State → State} (h : s.WakeSound) (ht : whenRunning s f = .next t)
    (hf : (f s).WakeCore) : t.WakeSound := by
  rcases whenRunning_cases s t f ht with ⟨_, rfl⟩ | ⟨_, rfl⟩
  · exact h
  · exact hf.judged

/-- Every command keeps the wake controller sound: by what it does while the part is AWAKE, and while it is not. -/
theorem exec_wakeSound {c : Instr} (h : s.WakeSound) (ht : exec c s = .next t) : t.WakeSound := by
  unfold exec at ht
  have core := h.core
  have lines : ∀ l, (s.moveLines l).WakeCore := fun l => moveLines_wakeCore l core
  cases c with
  -- the supply and the reset line
  | powerOnReset | powerLoss =>
    cases ht
    exact unpowered_wakeSound s _
  | powerOnResetEnd l b =>
    simp only [execPowerOnResetEnd] at ht
    split at ht <;> cases ht
    · exact (powerOnEnd_wakeCore s l b).judged
    · exact h
  | resetLineAssertion l =>
    refine whenRunning_wakeSound h ht ?_
    split
    · exact warmRestart_wakeCore (lines l)
    · next hw => exact hold_wakeCore _ (moveLines_linesHeld hw l).asleep (lines l)
  -- the wake controller's own events
  | idleTimerExpiry =>
    refine whenRunning_wakeSound h ht ?_
    split
    · next m _ hi =>
      obtain ⟨_, idle⟩ := h.idleTimer (by simp [hi])
      exact enterDoze_wakeCore (s := s.advanceTo m) (running_of_idle idle)
    · exact core
  | wakeTimerExpiry =>
    refine whenRunning_wakeSound h ht ?_
    split
    · next hw _ => exact wakeExpires_wakeCore _ (by simp [hw]) core
    · next hw _ => exact wakeExpires_wakeCore _ (by simp [hw]) core
    · exact core
  | wakeSettlingEnd l o =>
    refine whenRunning_wakeSound h ht ?_
    split
    · exact awaken_wakeCore _ o
    · exact core
  -- events that are taken while the part is AWAKE, and held while it is not
  | receiveActivityInDoze p =>
    refine whenRunning_wakeSound h ht ?_
    split
    · exact core
    · next hw => exact hold_wakeCore _ hw core
  | cardRead i n =>
    refine whenRunning_wakeSound h ht ?_
    repeat' split
    · exact core.congr (by simp) (by simp)
    · next hw _ _ _ _ => exact hold_wakeCore _ hw core
    · exact core
    · exact core
  | carrierChange b =>
    refine whenRunning_wakeSound h ht ?_
    repeat' split
    · exact core.congr (by simp) (by simp)
    · exact core
    · next hw _ => exact hold_wakeCore _ hw core
  | lidOpenLimitExpiry | dueEvent =>
    refine whenRunning_wakeSound h ht ?_
    split
    · dsimp only
      repeat' split
      · exact core.congr (by simp) (by simp)
      · exact core.congr rfl rfl
      · next hw _ => exact hold_wakeCore (s := s.advanceTo _) _ hw (core.congr rfl rfl)
    · exact core
  | lidOpening i => exact whenRunning_wakeSound h ht (acceptLid_wakeCore i true core)
  | lidClosing i => exact whenRunning_wakeSound h ht (acceptLid_wakeCore i false core)
  | unseat c => exact whenRunning_wakeSound h ht (acceptSeat_wakeCore c false core)
  | reseat c => exact whenRunning_wakeSound h ht (acceptSeat_wakeCore c true core)
  -- requests and received bytes
  | readStatus p tag ps | acknowledgeAttention p tag ps | setAttentionMask p tag ps | readClock p tag ps
  | setClock p tag ps | writeImageBlock p tag ps | applyConfiguration p tag ps | readContainer p tag ps
  | suspendContainer p tag ps | resumeContainer p tag ps | measureNow p tag ps | readDueList p tag ps
  | clearHeat p tag ps | readInlet p tag ps | openInlet p tag ps | putCard p tag ps | removeCard p tag ps
  | blockCard p tag ps | clearCardTable p tag ps | markTableLoaded p tag ps | readCards p tag ps
  | rewindCardCursor p tag ps | readQueries p tag ps | answerCard p tag ps | readJournal p tag ps
  | rewindJournalCursor p tag ps | releaseJournal p tag ps | announce p tag ps | endSession p tag ps
  | claimLift p tag ps | cancelLift p tag ps | readLift p tag ps =>
    exact whenRunning_wakeSound h ht (arrive_wakeCore (by simp [requestIndex]) p tag ps core)
  | restart p tag ps l =>
    exact whenRunning_wakeSound h ht (arrive_wakeCore (by simp [requestIndex]) p tag ps (lines l))
  | badFrame p bs => exact whenRunning_wakeSound h ht (receiveRun_wakeCore p bs core)
  | unknownRequestCode p code tag ps =>
    refine whenRunning_wakeSound h ht ?_
    split
    · exact takeFrame_wakeCore p code tag ps (core.congr rfl rfl)
    · exact receiveRun_wakeCore p _ core
  -- the configuration store
  | writeCompletion => exact whenRunning_wakeSound h ht (core.congr (by simp) (completeWrite_running s))
  | applyCheckCompletion l =>
    refine whenRunning_wakeSound h ht ?_
    split
    · exact core
    · exact endCheck_wakeCore _ _ ((lines l).congr rfl rfl)
  | writerIdleExpiry =>
    refine whenRunning_wakeSound h ht ?_
    split
    · exact core.congr rfl rfl
    · exact core
  -- the other events, which leave the wake controller
  | replySent | gapTimerExpiry | queryWaitExpiry | windowExpiry | serviceTimerExpiry | spacingExpiry | lidWaitExpiry
  | releaseWaitExpiry | carrierLoss | clockCount | measurementCompletion =>
    refine whenRunning_wakeSound h ht (core.congr ?_ ?_)
    all_goals
      repeat' split
      all_goals simp

/-- A millisecond in which no event has come leaves the idle conditions (R182). -/
theorem tick_idle (s : State) : s.tick.idle = s.idle := by
  have inlets : ∀ (n : Nat) (xs : List Inlet),
      (watchInlets s n xs).all (fun x => decide (x.state = .locked) && x.slot.isNone && x.query.isNone) =
        xs.all fun x => decide (x.state = .locked) && x.slot.isNone && x.query.isNone := by
    intro n xs
    induction xs generalizing n with
    | nil => rfl
    | cons x xs ih => simp only [watchInlets, List.all_cons, ih]
  have containers : ∀ (n : Nat) (ks : List Container),
      (watchContainers s n ks).all (fun k => decide (k.pair.stage = .none)) =
        ks.all fun k => decide (k.pair.stage = .none) := by
    intro n ks
    induction ks generalizing n with
    | nil => rfl
    | cons k ks ih => simp only [watchContainers, List.all_cons, ih]
  unfold State.tick
  split
  · simp only [State.idle, inlets, containers]
    rfl
  · rfl

theorem tick_wakeSound (h : s.WakeSound) : s.tick.WakeSound := by
  have core : s.tick.WakeCore := h.core.congr (by simp) (by simp)
  refine ⟨fun ht => ?_, core.held, core.settleEnd, core.wakeTimer, core.unconfigured⟩
  obtain ⟨attends, idle⟩ := h.idleTimer (by simpa using ht)
  exact ⟨by simpa [State.attends] using attends, (tick_idle s).trans idle⟩

end

/-- Settles O60: a step is a command, an event that has come, or a millisecond that passes. -/
theorem stepKeepsWakeSound : Obligations.StepKeepsWakeSound := by
  intro s t h ht
  unfold step at ht
  split at ht
  · next c rest _ =>
    exact exec_wakeSound (s := { s with pending := rest })
      ⟨h.idleTimer, h.held, h.settleEnd, h.wakeTimer, h.unconfigured⟩ ht
  · split at ht
    · exact exec_wakeSound h ht
    · cases ht
      exact tick_wakeSound h

end Sys2Proof.Machine
end

section
/-! PROOFS. The idle timer, the entry into DOZE and the wake timer (R182 to R184): O6, O50. -/

namespace Sys2Proof.Machine

section
variable {s t : State}

/-! ## The idle conditions (R182) -/

theorem quiet_iff (b : PortBlock) : b.quiet = true ↔ b.receiver = .hunting ∧ b.state = .free := decide_eq_true_iff

theorem dozePermitted_iff (s : State) :
    s.dozePermitted = true ↔ ∃ g, s.store.running = some g ∧ g.dozePermitted = true := by
  unfold State.dozePermitted
  cases s.store.running <;> simp

theorem forall_port_iff (s : State) (P : PortBlock → Prop) :
    (∀ p, P (s.port p)) ↔ P s.ports.network ∧ P s.ports.vehicle ∧ P s.ports.service where
  mp h := ⟨h .network, h .vehicle, h .service⟩
  mpr h p := by
    obtain ⟨network, vehicle, service⟩ := h
    cases p with
    | network => exact network
    | vehicle => exact vehicle
    | service => exact service

/-- The idle conditions of R182, block by block. -/
theorem idle_iff (s : State) : s.idle = true ↔
    (∃ g, s.store.running = some g ∧ g.dozePermitted = true) ∧
    (∀ x ∈ s.inlets, x.state = .locked ∧ x.slot = none ∧ x.query = none) ∧
    s.lift.session = none ∧ s.lift.carrier = false ∧
    (∀ k ∈ s.containers, k.pair.stage = .none) ∧
    (∀ p, (s.port p).receiver = .hunting ∧ (s.port p).state = .free) ∧
    s.store.writer = none := by
  rw [forall_port_iff s fun b => b.receiver = .hunting ∧ b.state = .free]
  simp only [State.idle, Bool.and_eq_true, dozePermitted_iff, List.all_eq_true, decide_eq_true_eq, quiet_iff,
    Option.isNone_iff_eq_none, Bool.not_eq_true', and_assoc]

/-- The judged timer is the one that ran, or one started at the doze idle time (R182). -/
theorem nextIdleTimer_from {m : Nat} (h : s.nextIdleTimer = some m) : s.wake.idleTimer = some m ∨
    s.wake.idleTimer = none ∧ ∃ g, s.store.running = some g ∧ m = s.now + g.dozeSeconds * 1000 := by
  obtain ⟨_, idle⟩ := (nextIdleTimer_isSome s).mp (by rw [h]; rfl)
  obtain ⟨⟨g, running, _⟩, _⟩ := (idle_iff s).mp idle
  unfold State.nextIdleTimer at h
  split at h
  · split at h
    · next runs => exact .inl (runs.trans h)
    · next stopped =>
      refine .inr ⟨stopped, g, running, ?_⟩
      simpa [State.dozeSeconds, running, seconds] using h.symm
  · cases h

/-! ## The judgement at the end of every command (R182) -/

/-- A part without power has no idle timer to judge. -/
theorem judgeIdle_unpowered (s : State) (q : Power) : (s.unpowered q).judgeIdle = s.unpowered q :=
  judgeIdle_of_not_permitted rfl rfl

/-- A command that a running part takes ends with the judgement, and the loss of the supply stops the timer. -/
theorem exec_judged {c : Instr} (hp : s.power = .running) (hend : ∀ l b, c ≠ .powerOnResetEnd l b)
    (ht : exec c s = .next t) : t.judgeIdle = t := by
  by_cases hc : Supply c
  · cases c with
    | powerOnReset | powerLoss =>
      cases ht
      exact judgeIdle_unpowered s _
    | powerOnResetEnd l b => exact absurd rfl (hend l b)
    | _ => exact hc.elim
  · obtain ⟨f, hf⟩ := exec_whenRunning hc
    rw [hf, whenRunning_running hp] at ht
    cases ht
    exact judgeIdle_judgeIdle (f s)

/-! ## The earliest of several moments -/

/-- m is the earliest moment of P, and none where P has no moment. -/
structure Earliest (m : Option Nat) (P : Nat → Prop) : Prop where
  le : ∀ a, P a → ∃ n, m = some n ∧ n ≤ a
  mem : ∀ n, m = some n → P n

theorem earliest_self (m : Option Nat) : Earliest m fun a => m = some a := ⟨fun a h => ⟨a, h, le_rfl⟩, fun _ => id⟩

theorem Earliest.congr {m : Option Nat} {P Q : Nat → Prop} (h : Earliest m P) (hPQ : ∀ a, P a ↔ Q a) : Earliest m Q :=
  funext (fun a => propext (hPQ a)) ▸ h

theorem Earliest.some_le {a b : Nat} {P : Nat → Prop} (h : Earliest (some b) P) (ha : P a) : b ≤ a := by
  obtain ⟨_, ⟨rfl⟩, hle⟩ := h.le a ha
  exact hle

theorem Earliest.none_not {a : Nat} {P : Nat → Prop} (h : Earliest none P) : ¬ P a := fun ha => by simpa using h.le a ha

theorem Earliest.earlier {m n : Option Nat} {P Q : Nat → Prop} (hm : Earliest m P) (hn : Earliest n Q) :
    Earliest (earlier m n) fun a => P a ∨ Q a := by
  cases m with
  | none => exact hn.congr fun _ => (or_iff_right hm.none_not).symm
  | some b =>
    cases n with
    | none => exact hm.congr fun _ => (or_iff_left hn.none_not).symm
    | some c =>
      refine ⟨fun a ha => ⟨min b c, rfl, min_le_iff.mpr (ha.imp hm.some_le hn.some_le)⟩, ?_⟩
      rintro _ ⟨rfl⟩
      rcases min_choice b c with e | e <;> rw [e]
      · exact .inl (hm.mem b rfl)
      · exact .inr (hn.mem c rfl)

theorem Earliest.foldl {α : Type} (g : α → Option Nat) (l : List α) {m : Option Nat} {P : Nat → Prop}
    (h : Earliest m P) :
    Earliest (l.foldl (fun m x => Machine.earlier m (g x)) m) fun a => P a ∨ ∃ x ∈ l, g x = some a := by
  induction l generalizing m P with
  | nil => exact h.congr (by simp)
  | cons x l ih => exact (ih (h.earlier (earliest_self (g x)))).congr (by simp [or_assoc])

theorem foldl_earliest {α : Type} (g : α → Option Nat) (l : List α) :
    Earliest (l.foldl (fun m x => earlier m (g x)) none) fun a => ∃ x ∈ l, g x = some a :=
  ((earliest_self none).foldl g l).congr (by simp)

/-- The wake timer is set to the earliest next-due time or lid-open limit expiry (R183). -/
theorem wakeMoment_earliest (s : State) : Earliest s.wakeMoment fun a =>
    (∃ k ∈ s.containers, k.nextDue = a) ∨ ∃ x ∈ s.inlets, x.limitTimer = some a :=
  ((foldl_earliest (fun k : Container => some k.nextDue) s.containers).earlier
    (foldl_earliest Inlet.limitTimer s.inlets)).congr (by simp)

/-! ## DOZE and its end (R183, R184) -/

theorem exec_idleTimerExpiry {m : Nat} (h : s.attends = true) (ht : s.wake.idleTimer = some m) :
    exec .idleTimerExpiry s = .next (s.advanceTo m).enterDoze := by
  obtain ⟨hp, hw⟩ := attends_running h
  have hexec : exec .idleTimerExpiry s = execIdleTimerExpiry s := rfl
  rw [hexec, execIdleTimerExpiry, whenRunning_running hp]
  simp only [hw, ht]
  rw [judgeIdle_asleep (by simp [State.enterDoze])]
  rfl

/-- In WAKING, causes of which any number is held join the held ones in their order. -/
theorem holdAll_waking (hs : List HeldCause) (hw : s.wake.state = .waking) (hh : ∀ h ∈ hs, h.once = false) :
    s.holdAll hs = { s with wake := { s.wake with held := s.wake.held ++ hs } } := by
  induction hs generalizing s with
  | nil => simp [State.holdAll]
  | cons h hs ih =>
    obtain ⟨once, rest⟩ := List.forall_mem_cons.mp hh
    have first : s.hold h = { s with wake := { s.wake with held := s.wake.held ++ [h] } } := by
      rw [hold_waking h hw, addHeld_joins (by simp [once])]
    calc s.holdAll (h :: hs) = (s.hold h).holdAll hs := rfl
      _ = { s with wake := { s.wake with held := s.wake.held ++ (h :: hs) } } := by
        rw [ih (hold_state h (by simp [hw])) rest, first]
        simp

/-- The causes that the wake timer brings are held however often they come. -/
theorem once_of_mem_comeCauses {h : HeldCause} (hh : h ∈ s.comeCauses) : h.once = false := by
  rcases ((mem_comeCauses s h).mp hh).2 with ⟨c, k, rfl, _⟩ | ⟨i, x, l, rfl, _⟩ <;> rfl

theorem exec_wakeTimerExpiry {m : Nat} (hp : s.power = .running) (hw : s.wake.state = .doze)
    (ht : s.wake.wakeTimer = some m) : exec .wakeTimerExpiry s = .next { s with
      now := max s.now m
      wake := { state := .waking, idleTimer := none, wakeTimer := none, settleEnd := some (max s.now m + 2)
                held := s.wake.held ++ (s.advanceTo m).comeCauses } } := by
  have hexec : exec .wakeTimerExpiry s = execWakeTimerExpiry s := rfl
  have begun : (s.advanceTo m).beginWaking = { s with
      now := max s.now m
      wake := { s.wake with state := .waking, settleEnd := some (max s.now m + 2) } } := if_pos hw
  have woken : s.wakeExpires m = { s with
      now := max s.now m
      wake := { s.wake with
        state := .waking, wakeTimer := none, settleEnd := some (max s.now m + 2)
        held := s.wake.held ++ (s.advanceTo m).comeCauses } } := by
    unfold State.wakeExpires
    rw [begun]
    exact holdAll_waking _ rfl fun _ => once_of_mem_comeCauses
  rw [hexec, execWakeTimerExpiry, whenRunning_running hp]
  simp only [hw, ht]
  rw [woken, judgeIdle_asleep (by simp)]

end

/-! ## The statements -/

/-- Settles O6: the timer runs after the judgement by `nextIdleTimer_isSome` and `idle_iff`, and a command of a running
part ends with the judgement. -/
theorem idleTimerRunsWhileIdle : Obligations.IdleTimerRunsWhileIdle := by
  refine ⟨fun s => ⟨⟨s.nextIdleTimer, rfl⟩, ?_, fun m => nextIdleTimer_from⟩, fun c s t => exec_judged⟩
  have attends : s.attends = true ↔ s.power = .running ∧ s.wake.state = .awake := decide_eq_true_iff
  exact (nextIdleTimer_isSome s).trans (by rw [attends, idle_iff, and_assoc])

/-- Settles O50: the wake timer's moment is the earliest by `wakeMoment_earliest`, and it brings the `comeCauses`. -/
theorem dozeAndWakeTimer : Obligations.DozeAndWakeTimer := by
  refine ⟨fun s m ha ht => ?_, fun s m hp hw ht => ?_⟩
  · have moment := wakeMoment_earliest s
    exact ⟨s.wakeMoment, fun k hk => moment.le _ (.inl ⟨k, hk, rfl⟩), fun x hx l hl => moment.le l (.inr ⟨x, hx, hl⟩),
      moment.mem, exec_idleTimerExpiry ha ht⟩
  · exact ⟨(s.advanceTo m).comeCauses, comeCauses_nodup _, mem_comeCauses _, exec_wakeTimerExpiry hp hw ht⟩

end Sys2Proof.Machine
end
